-- ==== Sys2Proof/Word.lean ====
section
/-! DEFINITION. Names the whole manual shares: bytes, sources, ports, destinations, class numbers and
event items, and one record of like things for each of those name sets. -/

namespace Sys2Proof

/-- A byte on a link. -/
abbrev Byte := BitVec 8

/-- The two supplies (00, Principal Quantities). -/
inductive Source where
  | line
  | batt
deriving DecidableEq, Repr

/-- The source that is not this one. -/
def Source.other : Source → Source
  | .line => .batt
  | .batt => .line

/-- The eight accessory ports P1 to P8. -/
inductive Port where
  | p1 | p2 | p3 | p4 | p5 | p6 | p7 | p8
deriving DecidableEq, Repr

/-- All ports in order. -/
def Port.all : List Port := [.p1, .p2, .p3, .p4, .p5, .p6, .p7, .p8]

/-- The number a port has on the wire, 1 to 8. -/
def Port.number : Port → Nat
  | .p1 => 1 | .p2 => 2 | .p3 => 3 | .p4 => 4 | .p5 => 5 | .p6 => 6 | .p7 => 7 | .p8 => 8

/-- The port with a number, if the number is 1 to 8. -/
def Port.ofNumber : Nat → Option Port
  | 1 => some .p1 | 2 => some .p2 | 3 => some .p3 | 4 => some .p4
  | 5 => some .p5 | 6 => some .p6 | 7 => some .p7 | 8 => some .p8
  | _ => none

/-- The nine transmitting sides, which are also the nine endpoints and the nine ingresses. -/
inductive Dest where
  | u
  | port (p : Port)
deriving DecidableEq, Repr

/-- All destinations in order, U first. -/
def Dest.all : List Dest := .u :: Port.all.map .port

/-- The number of a destination in the counters and destination sets: U 0, Pn n (R154, R155). -/
def Dest.number : Dest → Nat
  | .u => 0
  | .port p => p.number

/-- The eight port classes 0 to 7. -/
inductive ClassNo where
  | c0 | c1 | c2 | c3 | c4 | c5 | c6 | c7
deriving DecidableEq, Repr

/-- The number of a class. -/
def ClassNo.number : ClassNo → Nat
  | .c0 => 0 | .c1 => 1 | .c2 => 2 | .c3 => 3 | .c4 => 4 | .c5 => 5 | .c6 => 6 | .c7 => 7

/-- The class with a number, if the number is 0 to 7. -/
def ClassNo.ofNumber : Nat → Option ClassNo
  | 0 => some .c0 | 1 => some .c1 | 2 => some .c2 | 3 => some .c3
  | 4 => some .c4 | 5 => some .c5 | 6 => some .c6 | 7 => some .c7
  | _ => none

/-- The fifteen hub items, in the order of their numbers 0 to 14 (R153). -/
inductive HubItem where
  | sourceChanged | sourceFailed | sourceRefused | noSource | cut
  | overcommit | portAttach | portDetach | portTrip | portLocked
  | admitDenied | syncLocked | syncLost | poolHold | mgmtOverrun
deriving DecidableEq, Repr

/-- All hub items, item n at place n. -/
def HubItem.all : List HubItem :=
  [.sourceChanged, .sourceFailed, .sourceRefused, .noSource, .cut, .overcommit, .portAttach,
   .portDetach, .portTrip, .portLocked, .admitDenied, .syncLocked, .syncLost, .poolHold, .mgmtOverrun]

/-- An event item: a hub item or a port mark (section 10.1). -/
inductive Item where
  | hub (i : HubItem)
  | mark (p : Port)
deriving DecidableEq, Repr

/-- All 23 items. -/
def Item.all : List Item := HubItem.all.map .hub ++ Port.all.map .mark

/-- One thing for each source. -/
structure PerSource (α : Type) where
  line : α
  batt : α
deriving DecidableEq, Repr

/-- One thing for each port. -/
structure PerPort (α : Type) where
  p1 : α
  p2 : α
  p3 : α
  p4 : α
  p5 : α
  p6 : α
  p7 : α
  p8 : α
deriving DecidableEq, Repr

/-- One thing for each destination. -/
structure PerDest (α : Type) where
  u : α
  ports : PerPort α
deriving DecidableEq, Repr

/-- One thing for each class. -/
structure PerClass (α : Type) where
  c0 : α
  c1 : α
  c2 : α
  c3 : α
  c4 : α
  c5 : α
  c6 : α
  c7 : α
deriving DecidableEq, Repr

/-- One thing for each hub item. -/
structure PerHub (α : Type) where
  sourceChanged : α
  sourceFailed : α
  sourceRefused : α
  noSource : α
  cut : α
  overcommit : α
  portAttach : α
  portDetach : α
  portTrip : α
  portLocked : α
  admitDenied : α
  syncLocked : α
  syncLost : α
  poolHold : α
  mgmtOverrun : α
deriving DecidableEq, Repr

section
variable {α : Type}

def PerSource.get (x : PerSource α) : Source → α
  | .line => x.line
  | .batt => x.batt

def PerSource.set (x : PerSource α) (i : Source) (a : α) : PerSource α :=
  match i with
  | .line => { x with line := a }
  | .batt => { x with batt := a }

/-- The same thing for both sources. -/
def PerSource.rep (a : α) : PerSource α := ⟨a, a⟩

/-- The record that holds f i for each port i. -/
def PerPort.ofFn (f : Port → α) : PerPort α :=
  ⟨f .p1, f .p2, f .p3, f .p4, f .p5, f .p6, f .p7, f .p8⟩

def PerPort.get (x : PerPort α) : Port → α
  | .p1 => x.p1 | .p2 => x.p2 | .p3 => x.p3 | .p4 => x.p4
  | .p5 => x.p5 | .p6 => x.p6 | .p7 => x.p7 | .p8 => x.p8

def PerPort.set (x : PerPort α) (i : Port) (a : α) : PerPort α :=
  match i with
  | .p1 => { x with p1 := a } | .p2 => { x with p2 := a }
  | .p3 => { x with p3 := a } | .p4 => { x with p4 := a }
  | .p5 => { x with p5 := a } | .p6 => { x with p6 := a }
  | .p7 => { x with p7 := a } | .p8 => { x with p8 := a }

/-- The same thing for every port. -/
def PerPort.rep (a : α) : PerPort α := PerPort.ofFn fun _ => a

/-- The things in port order. -/
def PerPort.toList (x : PerPort α) : List α := Port.all.map x.get

/-- The record that holds f d for each destination d. -/
def PerDest.ofFn (f : Dest → α) : PerDest α := ⟨f .u, PerPort.ofFn fun p => f (.port p)⟩

def PerDest.get (x : PerDest α) : Dest → α
  | .u => x.u
  | .port p => x.ports.get p

def PerDest.set (x : PerDest α) (d : Dest) (a : α) : PerDest α :=
  match d with
  | .u => { x with u := a }
  | .port p => { x with ports := x.ports.set p a }

/-- The same thing for every destination. -/
def PerDest.rep (a : α) : PerDest α := ⟨a, PerPort.rep a⟩

/-- The things in destination order, U first. -/
def PerDest.toList (x : PerDest α) : List α := Dest.all.map x.get

def PerClass.get (x : PerClass α) : ClassNo → α
  | .c0 => x.c0 | .c1 => x.c1 | .c2 => x.c2 | .c3 => x.c3
  | .c4 => x.c4 | .c5 => x.c5 | .c6 => x.c6 | .c7 => x.c7

def PerClass.set (x : PerClass α) (i : ClassNo) (a : α) : PerClass α :=
  match i with
  | .c0 => { x with c0 := a } | .c1 => { x with c1 := a }
  | .c2 => { x with c2 := a } | .c3 => { x with c3 := a }
  | .c4 => { x with c4 := a } | .c5 => { x with c5 := a }
  | .c6 => { x with c6 := a } | .c7 => { x with c7 := a }

/-- The same thing for every class. -/
def PerClass.rep (a : α) : PerClass α := ⟨a, a, a, a, a, a, a, a⟩

/-- The record that holds f i for each hub item i. -/
def PerHub.ofFn (f : HubItem → α) : PerHub α :=
  ⟨f .sourceChanged, f .sourceFailed, f .sourceRefused, f .noSource, f .cut, f .overcommit,
   f .portAttach, f .portDetach, f .portTrip, f .portLocked, f .admitDenied, f .syncLocked,
   f .syncLost, f .poolHold, f .mgmtOverrun⟩

def PerHub.get (x : PerHub α) : HubItem → α
  | .sourceChanged => x.sourceChanged | .sourceFailed => x.sourceFailed
  | .sourceRefused => x.sourceRefused | .noSource => x.noSource | .cut => x.cut
  | .overcommit => x.overcommit | .portAttach => x.portAttach | .portDetach => x.portDetach
  | .portTrip => x.portTrip | .portLocked => x.portLocked | .admitDenied => x.admitDenied
  | .syncLocked => x.syncLocked | .syncLost => x.syncLost | .poolHold => x.poolHold
  | .mgmtOverrun => x.mgmtOverrun

def PerHub.set (x : PerHub α) (i : HubItem) (a : α) : PerHub α :=
  match i with
  | .sourceChanged => { x with sourceChanged := a }
  | .sourceFailed => { x with sourceFailed := a }
  | .sourceRefused => { x with sourceRefused := a }
  | .noSource => { x with noSource := a }
  | .cut => { x with cut := a }
  | .overcommit => { x with overcommit := a }
  | .portAttach => { x with portAttach := a }
  | .portDetach => { x with portDetach := a }
  | .portTrip => { x with portTrip := a }
  | .portLocked => { x with portLocked := a }
  | .admitDenied => { x with admitDenied := a }
  | .syncLocked => { x with syncLocked := a }
  | .syncLost => { x with syncLost := a }
  | .poolHold => { x with poolHold := a }
  | .mgmtOverrun => { x with mgmtOverrun := a }

/-- The same thing for every hub item. -/
def PerHub.rep (a : α) : PerHub α := PerHub.ofFn fun _ => a

/-- The things in item order. -/
def PerHub.toList (x : PerHub α) : List α := HubItem.all.map x.get

end

end Sys2Proof
end

