-- ==== Sys2Proof/Syntax.lean ====
section
/-! DEFINITION. The commands of the hub: one constructor per row of spec/opcode_table.json, in its order. -/

namespace Sys2Proof

/-- What one scan measured (R1). A voltage is given in steps of 10 mV and a current in steps of 10 mA,
as the converter sees it before its full scale is applied. -/
structure Samples where
  line : Nat
  batt : Nat
  bus : Nat
  current : PerPort Nat
  sense : PerPort Nat
deriving DecidableEq, Repr

/-- One user of a scan completion (R1): the qualification of a source, the budget unit, the detect line
of a port, or the current judgement of a port. -/
inductive ScanPart where
  | source (src : Source)
  | budget
  | detect (p : Port)
  | judge (p : Port)
deriving DecidableEq, Repr

/-- A command of the hub. The operand of `scanCompletion` after the samples is the order in which the
users of the scan take it: first those it names, then the rest (R1 gives no order). A request command
executes the request at the head of the input queue and finds its operands there (R144). -/
inductive Instr where
  /-- POWER_ON_RESET, R8. -/
  | powerOnReset
  /-- RESET_ASSERT, R151. -/
  | resetAssert
  /-- RESET_RELEASE, R151. -/
  | resetRelease
  /-- SCAN_COMPLETION, R1. -/
  | scanCompletion (samples : Samples) (order : List ScanPart)
  /-- QUALIFY_TIMER_EXPIRY, R3. -/
  | qualifyTimerExpiry (src : Source)
  /-- FAIL_TIMER_EXPIRY, R4. -/
  | failTimerExpiry (src : Source)
  /-- DEAD_TIME_EXPIRY, R15. -/
  | deadTimeExpiry
  /-- AUTO_RETURN_EXPIRY, R17. -/
  | autoReturnExpiry
  /-- ECUT_ASSERT, R21. -/
  | ecutAssert
  /-- ECUT_RELEASE, R22. -/
  | ecutRelease
  /-- SHED_DELAY_EXPIRY, R34. -/
  | shedDelayExpiry
  /-- HOLD_OFF_EXPIRY, R48. -/
  | holdOffExpiry (p : Port)
  /-- WAIT_TIMER_EXPIRY, R50. -/
  | waitTimerExpiry (p : Port)
  /-- INCREASE_WAIT_EXPIRY, R51. -/
  | increaseWaitExpiry (p : Port)
  /-- FRAME_RECEPTION, R88: the bytes between a start and an end delimiter. -/
  | frameReception (link : Dest) (bytes : List Byte)
  /-- TRANSMISSION_COMPLETE, R100. -/
  | transmissionComplete (link : Dest)
  /-- U_LINE_SILENT, R95. -/
  | uLineSilent
  /-- U_LINE_ACTIVE, R94. -/
  | uLineActive
  /-- DEBOUNCE_EXPIRY, R65. -/
  | debounceExpiry (p : Port)
  /-- STEP_TIMER_EXPIRY, R71. -/
  | stepTimerExpiry (p : Port)
  /-- OVERDRAW_TIMER_EXPIRY, R75. -/
  | overdrawTimerExpiry (p : Port)
  /-- HARD_TRIP, R76. -/
  | hardTrip (p : Port)
  /-- RETRY_DELAY_EXPIRY, R78. -/
  | retryDelayExpiry (p : Port)
  /-- CLEAN_RUN_EXPIRY, R79. -/
  | cleanRunExpiry (p : Port)
  /-- FSYNC_EDGE, R129. -/
  | fsyncEdge
  /-- WINDOW_CLOSE_NO_EDGE, R133. -/
  | windowCloseNoEdge
  /-- FRAME_BOUNDARY, R127. -/
  | frameBoundary
  /-- PHASE_RELEASE, R135. -/
  | phaseRelease (d : Dest)
  /-- READ_STATUS, R148. -/
  | readStatus
  /-- READ_PORT, R148. -/
  | readPort
  /-- READ_TABLE, R148. -/
  | readTable
  /-- LOAD_SOURCE, R5. -/
  | loadSource
  /-- LOAD_SELECTOR, R7. -/
  | loadSelector
  /-- LOAD_BUDGET, R23. -/
  | loadBudget
  /-- LOAD_CLASS, R37. -/
  | loadClass
  /-- LOAD_PORT, R39. -/
  | loadPort
  /-- LOAD_ROUTE, R103. -/
  | loadRoute
  /-- LOAD_TIMING, R125. -/
  | loadTiming
  /-- LOAD_TRAFFIC, R119. -/
  | loadTraffic
  /-- START, R142. -/
  | start
  /-- SET_SOURCE_IMMEDIATE, R18. -/
  | setSourceImmediate
  /-- SET_SOURCE_FRAME_ALIGNED, R19. -/
  | setSourceFrameAligned
  /-- PORT_CONTROL_ENABLE, R83. -/
  | portControlEnable
  /-- PORT_CONTROL_DISABLE, R82. -/
  | portControlDisable
  /-- PORT_CONTROL_RESET, R84. -/
  | portControlReset
  /-- SET_EVENTS, R161. -/
  | setEvents
  /-- CLEAR_EVENTS, R163. -/
  | clearEvents
  /-- DUMP_COUNTERS, R149. -/
  | dumpCounters
  /-- DUMP_COUNTERS_WITH_CLEAR, R165. -/
  | dumpCountersWithClear
  /-- DUMP_RESPONSE_PLACED, R149. -/
  | dumpResponsePlaced
  /-- TRAFFIC_RESET, R122. -/
  | trafficReset
  /-- FULL_RESET, R151. -/
  | fullReset
  /-- UNKNOWN_REQUEST, R146. -/
  | unknownRequest
  /-- NOTICE_PLACED, R158. -/
  | noticePlaced
  /-- STRAY_START_DELIMITER, R86. -/
  | strayStartDelimiter (link : Dest)
deriving DecidableEq, Repr

end Sys2Proof
end

