-- ==== Sys2Proof/Decode.lean ====
section
/-! DEFINITION. The command that a table word spells. No row of spec/opcode_table.json gives bits, so no word
spells one. A management request has a request code and a payload (R154), but they arrive inside a frame on U
and are read by Machine/Operands.lean. -/

namespace Sys2Proof

/-- The command that nbits bits of w spell by the table's bits: none, since no row gives any. -/
def decodeTableWord (_nbits _w : Nat) : Option Instr := none

end Sys2Proof
end

