-- ==== Sys2Proof/Config.lean ====
section
/-! DEFINITION. What is fixed for the machine, and the values the manual leaves open. An `opaque` constant here
has no body, so nothing can be proved about the value it stands for. -/

namespace Sys2Proof

/-- A field of a READ STATUS or READ PORT response that the layouts give no value for: because the thing it
describes is absent (log 15), or because they assign the bits to nothing (log 35). -/
inductive AbsentField where
  /-- READ STATUS offset 1 bit 7, assigned to nothing. -/
  | gateBit
  /-- READ STATUS offset 2 bit 7, assigned to nothing. -/
  | selectorBit
  /-- READ STATUS offset 44 bit 3, assigned to nothing. -/
  | timedBit
  /-- READ PORT offset 39 bit 3, assigned to nothing. -/
  | portTimedBit
  /-- READ STATUS offset 2 bit 6 with no pending change held. -/
  | changeTarget
  /-- READ STATUS offset 3 with no pending change held. -/
  | changeFrame
  /-- READ PORT offset 5 bits 2 to 0 with no effective class. -/
  | classNumber
  /-- READ PORT offset 5 bit 4 with no effective class. -/
  | classFixed
  /-- READ PORT offset 5 bits 6 to 5 with no effective priority. -/
  | priority
  /-- READ PORT offset 10 with no admission entry. -/
  | entryDraw
  /-- READ PORT offset 32 bit 7 outside LOCKED. -/
  | lockReason
  /-- READ PORT offset 33 with no retry draw. -/
  | retryDraw
deriving DecidableEq, Repr

namespace Config

/-- FREE VALUE, log 15 and log 35. What an absent or unassigned field reads as, afresh for each use. -/
opaque absentField : AbsentField → Nat → Nat

/-- FREE VALUE, log 14. Whether a remaining time that is not a whole number of its unit is reported as the
next larger number and not the next smaller, afresh for each use. -/
opaque remainingRoundsUp : Nat → Bool

/-- FREE VALUE, log 16. The power p that READ PORT reports before the port's first scan in ON. -/
opaque unjudgedPower : Nat → Nat

/-- FREE VALUE, log 16. The tolerance t that READ PORT reports before the port's first scan in ON. -/
opaque unjudgedTolerance : Nat → Nat

/-- FREE VALUE, log 17. The non-zero byte, less one, that a set flag of a route entry is read back as. -/
opaque setFlag : Nat → Nat

/-- FREE VALUE, log 32. Which of several internal events that are due at once is taken first. -/
opaque firstDue : Nat → Nat

/-- The detect level of the sense line, in mV (section 4.2). -/
def detectLevel : Nat := 3900

/-- The clean-run time, in µs (R79). -/
def cleanRun : Nat := 60000000

/-- Boundaries without an edge after which HOLDOVER ends (R133). -/
def holdoverLimit : Nat := 64

/-- The number of cells in the pool (R112). -/
def cells : Nat := 128

/-- The number of buffer records (R112). -/
def records : Nat := 64

/-- The cells between the hold level and the resume level (section 7.6). -/
def resumeBand : Nat := 16

/-- The capacity of an egress queue (R113). -/
def queueSize : Nat := 8

/-- The capacity of a timed list (R137). -/
def timedSize : Nat := 6

/-- The capacity of the request input queue (R143). -/
def inputSize : Nat := 4

/-- The capacity of the management lane (R145). -/
def laneSize : Nat := 4

/-- The number of route entries (section 6.1). -/
def routeEntries : Nat := 48

end Config

end Sys2Proof
end

