-- ==== Sys2Proof/Machine/State.lean ====
section
/-! DEFINITION. The state of the hub as plain data, every table record, and the state right after reset.
Times that run down are held in µs; `none` is an idle timer. -/

namespace Sys2Proof.Machine

/-! ### Supply monitor (chapter 1) -/

/-- The qualification of a source (section 1.2). -/
inductive Qual where
  | unusable
  | qualifying
  | usable
deriving DecidableEq, Repr

/-- What the supply monitor keeps of one source (R2, R3, R4). The ring is empty until the first scan and
then holds eight samples in mV, the oldest first. -/
structure SourceMonitor where
  ring : List Nat
  qual : Qual
  qualifyTimer : Option Nat
  failTimer : Option Nat
deriving DecidableEq, Repr

/-! ### Tables -/

/-- A point of a derating curve, in mV and percent. -/
structure CurvePoint where
  volts : Nat
  percent : Nat
deriving DecidableEq, Repr

/-- A record of the source table (section 1.3): voltages in mV, qualify time in steps of 10 ms, fail time in
ms, rated power in dW, current limit in mA. -/
structure SourceRecord where
  cutoff : Nat
  hysteresis : Nat
  overVoltage : Nat
  qualifyTime : Nat
  failTime : Nat
  rated : Nat
  limit : Nat
  curve : List CurvePoint
deriving DecidableEq, Repr

/-- The selector settings (section 1.4): auto-return delay in s, dead time in steps of 10 µs. -/
structure SelectorSettings where
  preferred : Option Source
  autoReturn : Nat
  deadTime : Nat
deriving DecidableEq, Repr

/-- The budget parameters (section 2.1): powers in dW, shed delay in ms, readmit hold-off in s. -/
structure BudgetParams where
  allowance : PerSource Nat
  headroom : Nat
  shedDelay : Nat
  readmit : Nat
deriving DecidableEq, Repr

/-- A record of the class table (section 3.1), in the units of its table. -/
structure ClassRecord where
  defaultDemand : Nat
  idleDraw : Nat
  maxDemand : Nat
  priority : Nat
  tolerance : Nat
  overdrawTime : Nat
  inrush : Nat
  rampFactor : Nat
  retryLimit : Nat
  retryDelay : Nat
  waitLimit : Nat
  sheddable : Bool
  rideThrough : Bool
deriving DecidableEq, Repr

/-- Where a port's class comes from (section 3.2). -/
inductive ClassSource where
  | detected
  | fixed (c : ClassNo)
deriving DecidableEq, Repr

/-- A record of the port table (section 3.2): debounce in scans of 1 ms. -/
structure PortRecord where
  classSource : ClassSource
  override : Option Nat
  debounce : Nat
deriving DecidableEq, Repr

/-- The links whose messages a route entry describes (section 6.1). -/
inductive RouteIngress where
  | upstream
  | port (p : Port)
  | anyPort
deriving DecidableEq, Repr

/-- What a route entry does with a matching message (section 6.1). -/
inductive RouteAction where
  | forward
  | drop
deriving DecidableEq, Repr

/-- The two classes of egress queue (section 6.1). -/
inductive QueueClass where
  | bulk
  | urgent
deriving DecidableEq, Repr

/-- What is done with a timed delivery found late (section 6.1). -/
inductive LateAction where
  | send
  | drop
deriving DecidableEq, Repr

/-- An entry of the route table (section 6.1). -/
structure RouteEntry where
  valid : Bool
  ingress : RouteIngress
  low : Nat
  high : Nat
  action : RouteAction
  dests : PerDest Bool
  cls : QueueClass
  late : LateAction
  align : Bool
deriving DecidableEq, Repr

/-- The timing record less its phases, which stand in the shadow set (section 8.1). Times in µs. -/
structure TimingRecord where
  nominal : Nat
  windowMin : Nat
  windowMax : Nat
  tolerance : Nat
  markInterval : PerDest Nat
deriving DecidableEq, Repr

/-- The enable and level of an event item (section 10.1). -/
structure EventSetting where
  enable : Bool
  level : Nat
deriving DecidableEq, Repr

/-- The event settings: one for each hub item and one shared by the port marks (section 10.1). -/
structure EventSettings where
  hub : PerHub EventSetting
  marks : EventSetting
deriving DecidableEq, Repr

/-- Every table a request can load. -/
structure Tables where
  source : PerSource SourceRecord
  selector : SelectorSettings
  budget : BudgetParams
  cls : PerClass ClassRecord
  port : PerPort PortRecord
  route : List RouteEntry
  timing : TimingRecord
  holdLevel : Nat
  events : EventSettings
deriving DecidableEq, Repr

/-! ### Source selector and budget unit (chapters 1 and 2) -/

/-- The selector states (section 1.5). `active .line` is LINE and `active .batt` is BATT. -/
inductive SelState where
  | start
  | active (src : Source)
  | changeover (target : Source)
  | noSource
  | cut
deriving DecidableEq, Repr

/-- A pending change of source (R19). -/
structure PendingChange where
  target : Source
  frame : Byte
deriving DecidableEq, Repr

/-- What the selector holds (section 1.5). -/
structure Selector where
  state : SelState
  deadTimer : Option Nat
  autoTimer : Option Nat
  change : Option PendingChange
deriving DecidableEq, Repr

/-- The overcommit state (section 2.5). -/
inductive Overcommit where
  | clear
  | timing
  | unresolved
deriving DecidableEq, Repr

/-- The figures of the last budget computation and the overcommit state (section 2.2, 2.5). -/
structure Budget where
  d10 : Nat
  cr : Nat
  ci : Nat
  c : Nat
  b : Nat
  overcommit : Overcommit
  shedTimer : Option Nat
deriving DecidableEq, Repr

/-! ### Admission unit (chapter 3) -/

/-- Why a port is asking (section 3.3). -/
inductive Reason where
  | attach
  | increase
  | shed
  | supply
  | retry
  | reset
deriving DecidableEq, Repr

/-- An entry of the admission list (section 3.3). -/
structure Entry where
  port : Port
  reason : Reason
  draw : Nat
  wait : Option Nat
  holdOff : Option Nat
deriving DecidableEq, Repr

/-- The status of a GRANT (R59). -/
inductive GrantStatus where
  | on
  | limit
  | pending
  | refused
deriving DecidableEq, Repr

/-- What a pending GRANT slot holds (R59). -/
structure GrantMsg where
  grant : Nat
  status : GrantStatus
  tolerance : Nat
deriving DecidableEq, Repr

/-! ### Port power units (chapter 4) -/

/-- The eleven port states (section 4.1). -/
inductive PortState where
  | vacant
  | debounce
  | waiting
  | ramp
  | on
  | limit
  | paused
  | tripped
  | locked
  | denied
  | disabled
deriving DecidableEq, Repr

/-- A level of the detect line (section 4.1). -/
inductive Level where
  | open
  | attached
deriving DecidableEq, Repr

/-- Why a port tripped (section 4.7). -/
inductive TripReason where
  | short
  | overdraw
  | rampStall
deriving DecidableEq, Repr

/-- Why a port is locked (section 4.1). -/
inductive LockReason where
  | senseShort
  | retries
deriving DecidableEq, Repr

/-- An effective class and whether it was fixed by the port table (R40, R85). -/
structure EffClass where
  cls : ClassNo
  fixed : Bool
deriving DecidableEq, Repr

/-- What a port power unit holds (section 4.1), with its grant and its latest samples. `debounce` counts
scans; `present` is the level of the latest scan; `figures` is p and t of the latest scan judged by R73. -/
structure PortUnit where
  state : PortState
  stable : Level
  present : Level
  debounce : Option Nat
  eff : Option EffClass
  rampPos : Nat
  heldCount : Nat
  periodHeld : Bool
  stepTimer : Option Nat
  overdrawTimer : Option Nat
  retryCount : Nat
  retryDraw : Option Nat
  retryTimer : Option Nat
  cleanTimer : Option Nat
  lastTrip : Option TripReason
  lockReason : Option LockReason
  grant : Nat
  sense : Nat
  current : Nat
  figures : Option (Nat × Nat)
deriving DecidableEq, Repr

/-! ### Messages, links and buffers (chapters 5 to 7) -/

/-- The state of a link; U is never in WAIT (section 5.3, 5.4). -/
inductive LinkState where
  | down
  | wait
  | up
deriving DecidableEq, Repr

/-- What a pending flow slot asks for (R97). -/
inductive FlowKind where
  | hold
  | resume
deriving DecidableEq, Repr

/-- The timing state (section 8.3). -/
inductive Sync where
  | unlocked
  | acquiring
  | locked
  | holdover
deriving DecidableEq, Repr

/-- What a pending MARK slot holds (R98). -/
structure MarkMsg where
  counter : Byte
  sync : Sync
deriving DecidableEq, Repr

/-- The items a report carries as set (R157). -/
structure Report where
  hub : PerHub Bool
  ports : PerPort Bool
deriving DecidableEq, Repr

/-- A message of the management lane (R145). A NOTICE takes its contents only when it begins (R159). -/
inductive LaneMsg where
  | response (code : Byte) (payload : List Byte) (report : Option Report)
  | notice
deriving DecidableEq, Repr

/-- What a transmission in progress is (R99). -/
inductive TxKind where
  | flow (k : FlowKind)
  | mark
  | grant
  | response (code : Byte) (payload : List Byte) (report : Option Report)
  | notice (report : Report)
  | data (slot : Nat)
deriving DecidableEq, Repr

/-- A transmission in progress with the bytes between its delimiters (R90, R99). -/
structure Tx where
  kind : TxKind
  bytes : List Byte
deriving DecidableEq, Repr

/-- What a link interface holds (chapter 5), but for the pending GRANT slot of a port link. `downAt` is the
model's own: the moment at which a port link last entered DOWN, by which R53 is judged (log 34). -/
structure Link where
  state : LinkState
  receivedHold : Bool
  flowSlot : Option FlowKind
  markSlot : Option MarkMsg
  tx : Option Tx
  downAt : Option Nat
deriving DecidableEq, Repr

/-- A message as received (section 5.1), less its kind; its length is that of its payload. -/
structure Message where
  timed : Bool
  urgent : Bool
  late : Bool
  portField : Nat
  channel : Byte
  target : Byte
  payload : List Byte
deriving DecidableEq, Repr

/-- A buffer record in use (section 7.1). -/
structure Record where
  msg : Message
  ingress : Dest
  refs : Nat
deriving DecidableEq, Repr

/-- An entry of an egress queue: a record and the late mark (section 7.2). -/
structure QEntry where
  slot : Nat
  late : Bool
deriving DecidableEq, Repr

/-- An entry of a timed list (section 8.5). -/
structure TimedEntry where
  slot : Nat
  target : Byte
  late : LateAction
deriving DecidableEq, Repr

/-- The queues and the timed list of a destination, the oldest entry first. -/
structure Queues where
  urgent : List QEntry
  bulk : List QEntry
  timed : List TimedEntry
deriving DecidableEq, Repr

/-! ### Frame timing unit (chapter 8) -/

/-- What the frame timing unit keeps for a destination (R125, R134, R135, R136). -/
structure Phase where
  active : Nat
  shadow : Nat
  released : Bool
  releaseAt : Nat
  markCount : Nat
deriving DecidableEq, Repr

/-- The window of the predicted boundary `tp`. `tol` is the tolerance it opened with, none before it opens
(R125, R131). -/
structure Window where
  tp : Nat
  tol : Option Nat
deriving DecidableEq, Repr

/-- What the frame timing unit keeps for itself (chapter 8). Times in µs of the model's clock. -/
structure Timing where
  sync : Sync
  period : Nat
  accepted : Bool
  lastBoundary : Nat
  nextBoundary : Nat
  counter : Byte
  shadowWritten : Bool
  lastEdge : Option Nat
  prevPeriod : Option Nat
  consistent : Nat
  holdover : Nat
  window : Option Window
deriving DecidableEq, Repr

/-! ### Management and event units (chapters 9 and 10) -/

/-- A request of the input queue: its code and its payload (R143). -/
structure Request where
  code : Byte
  payload : List Byte
deriving DecidableEq, Repr

/-- The execution in hand between events (R149, R151). -/
inductive InHand where
  | nothing
  | dump (left : List (List Byte))
  | fullReset
deriving DecidableEq, Repr

/-- What the management unit holds (chapter 9). -/
structure Mgmt where
  operational : Bool
  lineMark : Bool
  battMark : Bool
  budgetMark : Bool
  input : List Request
  lane : List LaneMsg
  inHand : InHand
deriving DecidableEq, Repr

/-- The three marks of an event item (section 10.1). -/
structure Marks where
  set : Bool
  reported : Bool
  reoccurred : Bool
deriving DecidableEq, Repr

/-- What the event unit holds, but for the counters (chapter 10). -/
structure Events where
  hub : PerHub Marks
  ports : PerPort Marks
  noticePending : Bool
deriving DecidableEq, Repr

/-- The eight counters of an endpoint, in the order of R155. -/
structure EndpointCounters where
  good : BitVec 32
  checkError : BitVec 32
  malformed : BitVec 32
  transmitted : BitVec 32
  queueFull : BitVec 32
  noBuffer : BitVec 32
  linkDown : BitVec 32
  lateDrop : BitVec 32
deriving DecidableEq, Repr

/-- The three counters of a port, in the order of R155. -/
structure PortCounters where
  grants : BitVec 32
  sheds : BitVec 32
  trips : BitVec 32
deriving DecidableEq, Repr

/-- The 100 statistics counters (R155, R164). -/
structure Counters where
  endpoint : PerDest EndpointCounters
  port : PerPort PortCounters
  changeovers : BitVec 32
  sourceFailures : BitVec 32
  syncLosses : BitVec 32
  overruns : BitVec 32
deriving DecidableEq, Repr

/-! ### The state -/

/-- The hub. `pending`, `now` and `draws` are the model's own: the commands waiting, the clock in µs, and how
many free values have been used. -/
structure State where
  pending : List Instr
  now : Nat
  draws : Nat
  resetPin : Bool
  ecutPin : Bool
  supply : PerSource SourceMonitor
  busVolts : Nat
  tables : Tables
  sel : Selector
  budget : Budget
  admission : List Entry
  granted : List Port
  grantSlots : PerPort (Option GrantMsg)
  ports : PerPort PortUnit
  links : PerDest Link
  queues : PerDest Queues
  records : List (Option Record)
  held : Bool
  phases : PerDest Phase
  timing : Timing
  mgmt : Mgmt
  events : Events
  counters : Counters
deriving DecidableEq, Repr

/-- A fault stops the machine. The manual gives none: no constructor (safe). -/
inductive Fault where
deriving DecidableEq, Repr

/-- A refusal stops the machine at a command it has no meaning for. -/
inductive Refusal where
  /-- Raised by an arm of `exec` that has no meaning yet. Safe. No arm raises it. -/
  | notModelled (mnemonic : String)
deriving DecidableEq, Repr

/-! ### Reset values -/

/-- R5. -/
def SourceRecord.reset : SourceRecord :=
  { cutoff := 10500, hysteresis := 500, overVoltage := 34000, qualifyTime := 50, failTime := 20,
    rated := 0, limit := 0, curve := [⟨10500, 0⟩, ⟨34000, 100⟩] }

/-- Section 3.1. -/
def ClassRecord.reset : ClassRecord :=
  { defaultDemand := 50, idleDraw := 10, maxDemand := 120, priority := 1, tolerance := 20,
    overdrawTime := 100, inrush := 2000, rampFactor := 4, retryLimit := 3, retryDelay := 20,
    waitLimit := 0, sheddable := true, rideThrough := false }

/-- Section 3.2. -/
def PortRecord.reset : PortRecord := { classSource := .detected, override := none, debounce := 50 }

/-- R102. -/
def RouteEntry.reset : RouteEntry :=
  { valid := false, ingress := .upstream, low := 0, high := 255, action := .drop,
    dests := PerDest.rep false, cls := .bulk, late := .send, align := false }

/-- Section 8.1. -/
def TimingRecord.reset : TimingRecord :=
  { nominal := 40000, windowMin := 16000, windowMax := 42000, tolerance := 20,
    markInterval := PerDest.rep 0 }

/-- R156. -/
def EventSetting.reset : EventSetting := { enable := false, level := 0 }

/-- The reset contents of every table. -/
def Tables.reset : Tables :=
  { source := PerSource.rep SourceRecord.reset
    selector := { preferred := some .line, autoReturn := 10, deadTime := 20 }
    budget := { allowance := PerSource.rep 0, headroom := 0, shedDelay := 200, readmit := 5 }
    cls := PerClass.rep ClassRecord.reset
    port := PerPort.rep PortRecord.reset
    route := List.replicate Config.routeEntries RouteEntry.reset
    timing := TimingRecord.reset
    holdLevel := 24
    events := { hub := PerHub.rep EventSetting.reset, marks := EventSetting.reset } }

/-- R2, R4. -/
def SourceMonitor.reset : SourceMonitor :=
  { ring := [], qual := .unusable, qualifyTimer := none, failTimer := none }

/-- R61. The latest samples are DESIGN CHOICE 0 (log 1). -/
def PortUnit.reset : PortUnit :=
  { state := .vacant, stable := .open, present := .open, debounce := none, eff := none, rampPos := 0,
    heldCount := 0, periodHeld := false, stepTimer := none, overdrawTimer := none, retryCount := 0,
    retryDraw := none, retryTimer := none, cleanTimer := none, lastTrip := none, lockReason := none,
    grant := 0, sense := 0, current := 0, figures := none }

/-- R91, R94, R96 to R100. -/
def Link.reset : Link :=
  { state := .down, receivedHold := false, flowSlot := none, markSlot := none, tx := none, downAt := none }

/-- R113, R137. -/
def Queues.reset : Queues := { urgent := [], bulk := [], timed := [] }

/-- R125, R134, R136 for a reset that ends at a time; its release in frame 0 is done (log 6). -/
def Phase.reset (ended : Nat) : Phase :=
  { active := 0, shadow := 0, released := true, releaseAt := ended, markCount := 0 }

/-- R126, R128 for a reset that ends at a time. -/
def Timing.reset (ended : Nat) : Timing :=
  { sync := .unlocked, period := 40000, accepted := false, lastBoundary := ended,
    nextBoundary := ended + 40000, counter := 0, shadowWritten := false, lastEdge := none,
    prevPeriod := none, consistent := 0, holdover := 0, window := none }

/-- R141, R143, R145. -/
def Mgmt.reset : Mgmt :=
  { operational := false, lineMark := false, battMark := false, budgetMark := false, input := [],
    lane := [], inHand := .nothing }

/-- An item with no mark. -/
def Marks.clear : Marks := { set := false, reported := false, reoccurred := false }

/-- R156. -/
def Events.reset : Events :=
  { hub := PerHub.rep Marks.clear, ports := PerPort.rep Marks.clear, noticePending := false }

def EndpointCounters.zero : EndpointCounters := ⟨0, 0, 0, 0, 0, 0, 0, 0⟩

def PortCounters.zero : PortCounters := ⟨0, 0, 0⟩

/-- R164. -/
def Counters.zero : Counters :=
  { endpoint := PerDest.rep EndpointCounters.zero, port := PerPort.rep PortCounters.zero,
    changeovers := 0, sourceFailures := 0, syncLosses := 0, overruns := 0 }

/-- R25. -/
def Budget.reset : Budget :=
  { d10 := 0, cr := 0, ci := 0, c := 0, b := 0, overcommit := .clear, shedTimer := none }

/-- R8. -/
def Selector.reset : Selector := { state := .start, deadTimer := none, autoTimer := none, change := none }

/-- The hub as a reset that ends at a time leaves it, with its pins and the model's own fields as given. -/
def State.afterReset (pending : List Instr) (now draws : Nat) (resetPin ecutPin : Bool) : State :=
  { pending := pending
    now := now
    draws := draws
    resetPin := resetPin
    ecutPin := ecutPin
    supply := PerSource.rep SourceMonitor.reset
    busVolts := 0
    tables := Tables.reset
    sel := Selector.reset
    budget := Budget.reset
    admission := []
    granted := []
    grantSlots := PerPort.rep none
    ports := PerPort.rep PortUnit.reset
    links := PerDest.rep Link.reset
    queues := PerDest.rep Queues.reset
    records := List.replicate Config.records none
    held := false
    phases := PerDest.rep (Phase.reset now)
    timing := Timing.reset now
    mgmt := Mgmt.reset
    events := Events.reset
    counters := Counters.zero }

/-- The machine right after reset, with no command waiting. The clock starts at 0 and both pins are
released (DESIGN CHOICE, log 1). -/
def State.reset : State := State.afterReset [] 0 0 false false

end Sys2Proof.Machine
end

