-- ==== Sys2Proof/Machine/Operands.lean ====
section
/-! DEFINITION. The wire: bytes, the check, headers, the judgement of a received frame (R86 to R90, R153), and the
records that request payloads and READ TABLE responses carry (R154). -/

namespace Sys2Proof

/-- The code of a source (R154). -/
def Source.code : Source → Nat
  | .line => 1
  | .batt => 2

/-- The number of a hub item (R153). -/
def HubItem.number (i : HubItem) : Nat := HubItem.all.idxOf i

end Sys2Proof

namespace Sys2Proof.Machine

/-! ### Bytes -/

/-- A number as one byte. -/
def byte (n : Nat) : Byte := BitVec.ofNat 8 n

/-- A number as two bytes, the most significant first. -/
def be16 (n : Nat) : List Byte := [byte (n / 256), byte n]

/-- A number as four bytes, the most significant first. -/
def be32 (n : Nat) : List Byte := [byte (n / 16777216), byte (n / 65536), byte (n / 256), byte n]

/-- A bit with a weight. -/
def bit (b : Bool) (weight : Nat) : Nat := if b then weight else 0

/-- The byte of a payload at an offset, as a number. -/
def byteAt (p : List Byte) (i : Nat) : Nat := (p.getD i 0).toNat

/-- The two-byte field of a payload at an offset. -/
def wordAt (p : List Byte) (i : Nat) : Nat := byteAt p i * 256 + byteAt p (i + 1)

/-! ### The check (R87) -/

/-- One bit of the division by x^16 + x^12 + x^5 + 1. -/
def crcShift (c : BitVec 16) : BitVec 16 := if c.msb then (c <<< 1) ^^^ 0x1021#16 else c <<< 1

/-- One byte, its most significant bit first. -/
def crcByte (c : BitVec 16) (b : Byte) : BitVec 16 :=
  crcShift (crcShift (crcShift (crcShift (crcShift (crcShift (crcShift (crcShift
    (c ^^^ (b.setWidth 16 <<< 8)))))))))

/-- R87: the check over some bytes. Its register starts at all ones and is sent without inversion. -/
def crc (bs : List Byte) : BitVec 16 := bs.foldl crcByte 0xFFFF#16

/-! ### Kinds and headers (section 5.1, R153) -/

/-- The nine kinds of message. -/
inductive MsgKind where
  | data | demand | grant | hold | resume | mark | request | response | notice
deriving DecidableEq, Repr

/-- The code that carries a kind. -/
def MsgKind.code : MsgKind → Nat
  | .data => 1 | .demand => 2 | .grant => 3 | .hold => 4 | .resume => 5 | .mark => 6
  | .request => 8 | .response => 9 | .notice => 10

/-- The kind that a code carries. -/
def MsgKind.ofCode : Nat → Option MsgKind
  | 1 => some .data | 2 => some .demand | 3 => some .grant | 4 => some .hold | 5 => some .resume
  | 6 => some .mark | 8 => some .request | 9 => some .response | 10 => some .notice
  | _ => none

/-- The header and payload of a message (R153). -/
def messageBytes (k : MsgKind) (m : Message) : List Byte :=
  byte (k.code * 16 + bit m.timed 8 + bit m.urgent 4 + bit m.late 2) :: byte (m.portField * 16)
    :: m.channel :: m.target :: byte m.payload.length :: m.payload

/-- A message as it travels between its delimiters, its check last and high byte first (R87). -/
def wire (k : MsgKind) (m : Message) : List Byte :=
  messageBytes k m ++ be16 (crc (messageBytes k m)).toNat

/-- A message of a kind that the hub originates: port field, flags and target frame are 0 (R90). -/
def originated (k : MsgKind) (channel : Byte) (payload : List Byte) : List Byte :=
  wire k ⟨false, false, false, 0, channel, 0, payload⟩

/-- A buffered DATA message as sent from an urgent or a bulk queue (R90). Its port field is the number of the
ingress on every link: on U that of the ingress port, on a port link 0 for U and else that of the port. -/
def dataWire (r : Record) (urgent late : Bool) : List Byte :=
  wire .data { r.msg with urgent := urgent, late := late, portField := r.ingress.number }

/-- The code of a timing state in a MARK and in READ STATUS (R153, R154). -/
def Sync.code : Sync → Nat
  | .unlocked => 0 | .acquiring => 1 | .locked => 2 | .holdover => 3

/-- The code of a GRANT's status (R153). -/
def GrantStatus.code : GrantStatus → Nat
  | .on => 1 | .limit => 2 | .pending => 3 | .refused => 4

/-- The payload of a GRANT (R153). -/
def GrantMsg.bytes (g : GrantMsg) : List Byte :=
  be16 g.grant ++ [byte g.status.code, byte g.tolerance]

/-- The payload of a MARK (R153). -/
def MarkMsg.bytes (m : MarkMsg) : List Byte := [m.counter, byte m.sync.code]

/-! ### Judging a received frame (R86, R88, R89) -/

/-- What a received frame is judged to be. A refused message is counted like a malformed one (R89). -/
inductive Verdict where
  | malformed
  | checkError
  | good (k : MsgKind) (m : Message)
deriving DecidableEq, Repr

/-- R88: the length fixed for a kind, where one is. -/
def MsgKind.fixedLength : MsgKind → Option Nat
  | .demand => some 2
  | .hold => some 0
  | .resume => some 0
  | _ => none

/-- R89: whether a kind may arrive on a link. -/
def MsgKind.mayArrive (k : MsgKind) (link : Dest) : Bool :=
  match k, link with
  | .data, _ => true
  | .hold, _ => true
  | .resume, _ => true
  | .demand, .port _ => true
  | .request, .u => true
  | _, _ => false

/-- R89: whether a port field is allowed for a kind that may arrive on a link. -/
def MsgKind.portFieldAllowed (k : MsgKind) (link : Dest) (field : Nat) : Bool :=
  match k, link with
  | .data, .u => (decide (1 ≤ field) && decide (field ≤ 8)) || decide (field = 15)
  | _, _ => decide (field = 0)

/-- The last five tests of R88, over the bytes before the check. -/
def judgeBody (link : Dest) : List Byte → Verdict
  | b0 :: b1 :: channel :: target :: len :: payload =>
    match MsgKind.ofCode (b0.toNat / 16) with
    | none => .malformed
    | some k =>
      if len.toNat ≤ 48 ∧ payload.length = len.toNat ∧ (∀ n ∈ k.fixedLength, len.toNat = n) ∧
          k.mayArrive link = true ∧ k.portFieldAllowed link (b1.toNat / 16) = true then
        .good k ⟨b0.getLsbD 3, b0.getLsbD 2, b0.getLsbD 1, b1.toNat / 16, channel, target, payload⟩
      else .malformed
  | _ => .malformed

/-- R86, R88: the judgement of the bytes between a start and an end delimiter. -/
def judgeFrame (link : Dest) (bytes : List Byte) : Verdict :=
  if bytes.length < 7 ∨ 55 < bytes.length then .malformed
  else if bytes.drop (bytes.length - 2) = be16 (crc (bytes.take (bytes.length - 2))).toNat then
    judgeBody link (bytes.take (bytes.length - 2))
  else .checkError

/-! ### Statuses and requests (R146, R154) -/

/-- The nine status codes (R146). -/
inductive Status where
  | ok | busy | badIndex | badValue | badLength | notUsable | incomplete | wrongState | unknown
deriving DecidableEq, Repr

/-- The code of a status (R154). -/
def Status.code : Status → Nat
  | .ok => 0 | .busy => 1 | .badIndex => 2 | .badValue => 3 | .badLength => 4
  | .notUsable => 5 | .incomplete => 6 | .wrongState => 7 | .unknown => 8

/-- A response that carries its status alone (R154). -/
def Status.bytes (st : Status) : List Byte := [byte st.code]

/-- The known request codes with their fixed lengths (R154). -/
def requestLength : Nat → Option Nat
  | 1 => some 0 | 2 => some 1 | 3 => some 2
  | 16 => some 32 | 17 => some 3 | 18 => some 9 | 19 => some 18 | 20 => some 5 | 21 => some 11
  | 22 => some 34 | 23 => some 1
  | 32 => some 0 | 33 => some 3 | 34 => some 2 | 35 => some 16 | 36 => some 3 | 37 => some 1
  | 48 => some 0 | 49 => some 0
  | _ => none

/-- The command that executes a request. A request that fails its checks is executed under the first row
of its code in the table's order (log 9). -/
def Request.row (r : Request) : Instr :=
  match r.code.toNat with
  | 1 => .readStatus
  | 2 => .readPort
  | 3 => .readTable
  | 16 => .loadSource
  | 17 => .loadSelector
  | 18 => .loadBudget
  | 19 => .loadClass
  | 20 => .loadPort
  | 21 => .loadRoute
  | 22 => .loadTiming
  | 23 => .loadTraffic
  | 32 => .start
  | 33 =>
    if r.payload.length = 3 ∧ byteAt r.payload 1 = 1 then .setSourceFrameAligned
    else .setSourceImmediate
  | 34 =>
    if r.payload.length = 2 ∧ byteAt r.payload 1 = 2 then .portControlDisable
    else if r.payload.length = 2 ∧ byteAt r.payload 1 = 3 then .portControlReset
    else .portControlEnable
  | 35 => .setEvents
  | 36 => .clearEvents
  | 37 =>
    if r.payload.length = 1 ∧ byteAt r.payload 0 = 1 then .dumpCountersWithClear else .dumpCounters
  | 48 => .trafficReset
  | 49 => .fullReset
  | _ => .unknownRequest

/-! ### Records in a load payload (R154) -/

/-- A source by its code, LINE 1 and BATT 2 (R154). -/
def sourceOfCode : Nat → Option Source
  | 1 => some .line
  | 2 => some .batt
  | _ => none

/-- The voltages of a curve rise strictly (R5). -/
def ascending : List CurvePoint → Bool
  | a :: b :: rest => decide (a.volts < b.volts) && ascending (b :: rest)
  | _ => true

/-- The record of a LOAD SOURCE, clamped but not checked (R5, R154). -/
def sourceRecordOf (p : List Byte) : SourceRecord :=
  { cutoff := wordAt p 1, hysteresis := wordAt p 3, overVoltage := wordAt p 5,
    qualifyTime := byteAt p 7, failTime := byteAt p 8, rated := min (wordAt p 9) 6000,
    limit := min (wordAt p 11) 30000,
    curve := (List.range (byteAt p 13)).map fun i => ⟨wordAt p (14 + 3 * i), byteAt p (16 + 3 * i)⟩ }

/-- R5: the checks of a source record. -/
def SourceRecord.valid (r : SourceRecord) : Bool :=
  decide (2 ≤ r.curve.length) && decide (r.curve.length ≤ 6) && ascending r.curve &&
    r.curve.all (fun q => decide (q.percent ≤ 100) && decide (q.volts ≤ 40950)) &&
    decide (r.cutoff ≤ 40950) && decide (r.hysteresis ≤ 2000) && decide (r.overVoltage ≤ 40950) &&
    decide (r.cutoff + r.hysteresis < r.overVoltage)

/-- R5, R146: LOAD SOURCE. -/
def parseSource (p : List Byte) : Except Status (Source × SourceRecord) :=
  match sourceOfCode (byteAt p 0) with
  | none => .error .badIndex
  | some src =>
    if (sourceRecordOf p).valid then .ok (src, sourceRecordOf p) else .error .badValue

/-- R7: LOAD SELECTOR. -/
def parseSelector (p : List Byte) : Except Status SelectorSettings :=
  let rest : Option Source → SelectorSettings := fun src =>
    { preferred := src, autoReturn := byteAt p 1, deadTime := max (byteAt p 2) 1 }
  if byteAt p 0 = 0 then .ok (rest none)
  else
    match sourceOfCode (byteAt p 0) with
    | some src => .ok (rest (some src))
    | none => .error .badValue

/-- R23: LOAD BUDGET. -/
def parseBudget (p : List Byte) : Except Status BudgetParams :=
  if wordAt p 0 ≤ 6000 ∧ wordAt p 2 ≤ 6000 ∧ wordAt p 4 ≤ 1000 then
    .ok { allowance := ⟨wordAt p 0, wordAt p 2⟩, headroom := wordAt p 4,
          shedDelay := min (wordAt p 6) 2000, readmit := min (byteAt p 8) 60 }
  else .error .badValue

/-- A number brought into a range at its nearer end. -/
def clamp (lo hi n : Nat) : Nat := min (max n lo) hi

/-- R37: the record of a LOAD CLASS with its clamps. -/
def classRecordOf (p : List Byte) : ClassRecord :=
  { defaultDemand := clamp (wordAt p 3) (wordAt p 5) (wordAt p 1), idleDraw := wordAt p 3,
    maxDemand := wordAt p 5, priority := byteAt p 7, tolerance := min (byteAt p 8) 50,
    overdrawTime := min (wordAt p 9) 5000, inrush := clamp 100 8000 (wordAt p 11),
    rampFactor := clamp 1 63 (byteAt p 13), retryLimit := min (byteAt p 14) 15,
    retryDelay := max (byteAt p 15) 1, waitLimit := byteAt p 16,
    sheddable := (p.getD 17 0).getLsbD 0, rideThrough := (p.getD 17 0).getLsbD 1 }

/-- R37: LOAD CLASS. -/
def parseClass (p : List Byte) : Except Status (ClassNo × ClassRecord) :=
  match ClassNo.ofNumber (byteAt p 0) with
  | none => .error .badIndex
  | some c =>
    if wordAt p 5 ≤ 1200 ∧ wordAt p 3 ≤ wordAt p 5 ∧ byteAt p 7 ≤ 3 then .ok (c, classRecordOf p)
    else .error .badValue

/-- R39: the class source of a LOAD PORT. -/
def parseClassSource (kind fixed : Nat) : Option ClassSource :=
  if kind = 0 then some .detected
  else if kind = 1 then (ClassNo.ofNumber fixed).map .fixed
  else none

/-- R39: LOAD PORT. -/
def parsePort (p : List Byte) : Except Status (Port × PortRecord) :=
  match Port.ofNumber (byteAt p 0), parseClassSource (byteAt p 1) (byteAt p 2) with
  | none, _ => .error .badIndex
  | some _, none => .error .badValue
  | some port, some cs =>
    if byteAt p 3 = 255 then .ok (port, ⟨cs, none, byteAt p 4⟩)
    else if byteAt p 3 ≤ 3 then .ok (port, ⟨cs, some (byteAt p 3), byteAt p 4⟩)
    else .error .badValue

/-- The ingress of a LOAD ROUTE: UPSTREAM 0, PORT n as n, ANY_PORT 9 (R154). -/
def ingressOfCode (n : Nat) : Option RouteIngress :=
  if n = 0 then some .upstream
  else if n = 9 then some .anyPort
  else (Port.ofNumber n).map .port

/-- The destination set of a LOAD ROUTE: bit 0 U, bit n port n (R154). -/
def destsOfWord (w : Nat) : PerDest Bool := PerDest.ofFn fun d => w.testBit d.number

/-- R103: the entry of a LOAD ROUTE with its valid flag set. -/
def parseRouteEntry (p : List Byte) : Option RouteEntry :=
  match ingressOfCode (byteAt p 2) with
  | none => none
  | some ing =>
    if byteAt p 3 ≤ byteAt p 4 ∧ byteAt p 5 ≤ 1 ∧ byteAt p 8 ≤ 1 ∧ byteAt p 9 ≤ 1 then
      some { valid := true, ingress := ing, low := byteAt p 3, high := byteAt p 4,
             action := if byteAt p 5 = 0 then .forward else .drop, dests := destsOfWord (wordAt p 6),
             cls := if byteAt p 8 = 0 then .bulk else .urgent,
             late := if byteAt p 9 = 0 then .send else .drop, align := decide (byteAt p 10 ≠ 0) }
    else none

/-- R103: LOAD ROUTE. -/
def parseRoute (p : List Byte) : Except Status (Nat × RouteEntry) :=
  if Config.routeEntries ≤ byteAt p 0 then .error .badIndex
  else if byteAt p 1 = 0 then .ok (byteAt p 0, RouteEntry.reset)
  else
    match parseRouteEntry p with
    | some e => .ok (byteAt p 0, e)
    | none => .error .badValue

/-- R125: LOAD TIMING, the record and the shadow phases. -/
def parseTiming (p : List Byte) : Except Status (TimingRecord × PerDest Nat) :=
  let marks : PerDest Nat := PerDest.ofFn fun d => byteAt p (25 + d.number)
  let ok (n : Nat) : Bool := decide (10000 ≤ n) && decide (n ≤ 50000)
  if ok (wordAt p 0) && ok (wordAt p 2) && ok (wordAt p 4) && decide (wordAt p 2 ≤ wordAt p 4) &&
      decide (1 ≤ byteAt p 6) && marks.toList.all (fun n => decide (n ≤ 15)) then
    .ok (⟨wordAt p 0, wordAt p 2, wordAt p 4, byteAt p 6, marks⟩,
         PerDest.ofFn fun d => wordAt p (7 + 2 * d.number))
  else .error .badValue

/-- R119: the hold level of a LOAD TRAFFIC. -/
def parseHoldLevel (p : List Byte) : Nat := clamp 8 64 (byteAt p 0)

/-- An enable and level byte: bit 7 and bits 1 to 0 (R154, R161). -/
def settingOf (b : Nat) : EventSetting := { enable := b.testBit 7, level := b % 4 }

/-- R161: the settings of a SET EVENTS. -/
def parseEvents (p : List Byte) : EventSettings :=
  { hub := PerHub.ofFn fun i => settingOf (byteAt p i.number), marks := settingOf (byteAt p 15) }

/-- Whether a hub item field and a port mark field name an item (R153). -/
def named (hub ports : Nat) : Item → Bool
  | .hub i => hub.testBit i.number
  | .mark p => ports.testBit (p.number - 1)

/-! ### Records in a READ TABLE response (R148, R154) -/

/-- A source record in its load layout; points beyond the count are zero (R148). -/
def SourceRecord.bytes (src : Source) (r : SourceRecord) : List Byte :=
  byte src.code :: be16 r.cutoff ++ be16 r.hysteresis ++ be16 r.overVoltage
    ++ [byte r.qualifyTime, byte r.failTime] ++ be16 r.rated ++ be16 r.limit ++ [byte r.curve.length]
    ++ (List.range 6).flatMap fun i =>
        match r.curve[i]? with
        | some q => be16 q.volts ++ [byte q.percent]
        | none => [0, 0, 0]

/-- The code of an optional source, NONE 0 (R154). -/
def sourceCode : Option Source → Nat
  | none => 0
  | some src => src.code

def SelectorSettings.bytes (r : SelectorSettings) : List Byte :=
  [byte (sourceCode r.preferred), byte r.autoReturn, byte r.deadTime]

def BudgetParams.bytes (r : BudgetParams) : List Byte :=
  be16 r.allowance.line ++ be16 r.allowance.batt ++ be16 r.headroom ++ be16 r.shedDelay ++ [byte r.readmit]

def ClassRecord.bytes (c : ClassNo) (r : ClassRecord) : List Byte :=
  byte c.number :: be16 r.defaultDemand ++ be16 r.idleDraw ++ be16 r.maxDemand
    ++ [byte r.priority, byte r.tolerance] ++ be16 r.overdrawTime ++ be16 r.inrush
    ++ [byte r.rampFactor, byte r.retryLimit, byte r.retryDelay, byte r.waitLimit,
        byte (bit r.sheddable 1 + bit r.rideThrough 2)]

/-- The fixed class is a disregarded field under DETECTED and is sent as 0 (R153). -/
def PortRecord.bytes (p : Port) (r : PortRecord) : List Byte :=
  byte p.number ::
    (match r.classSource with
      | .detected => [0, 0]
      | .fixed c => [1, byte c.number])
    ++ [byte (r.override.getD 255), byte r.debounce]

def RouteIngress.code : RouteIngress → Nat
  | .upstream => 0
  | .port p => p.number
  | .anyPort => 9

/-- A destination set as a number (R154). -/
def destsWord (s : PerDest Bool) : Nat := (Dest.all.map fun d => bit (s.get d) (2 ^ d.number)).sum

/-- A route entry in its load layout. `valid` and `align` are the non-zero numbers that the set flags are read
as (log 17). -/
def RouteEntry.bytes (i valid align : Nat) (r : RouteEntry) : List Byte :=
  [byte i, byte (bit r.valid valid), byte r.ingress.code, byte r.low, byte r.high,
   byte (match r.action with | .forward => 0 | .drop => 1)] ++ be16 (destsWord r.dests)
    ++ [byte (match r.cls with | .bulk => 0 | .urgent => 1),
        byte (match r.late with | .send => 0 | .drop => 1), byte (bit r.align align)]

/-- The timing record with its phases from the shadow set (R140). -/
def TimingRecord.bytes (r : TimingRecord) (shadow : PerDest Nat) : List Byte :=
  be16 r.nominal ++ be16 r.windowMin ++ be16 r.windowMax ++ [byte r.tolerance]
    ++ shadow.toList.flatMap be16 ++ r.markInterval.toList.map byte

def EventSetting.byte (e : EventSetting) : Byte := Machine.byte (bit e.enable 128 + e.level)

def EventSettings.bytes (e : EventSettings) : List Byte :=
  e.hub.toList.map EventSetting.byte ++ [e.marks.byte]

end Sys2Proof.Machine
end

