-- ==== Sys2Proof/Machine/Flags.lean ====
section
/-! DEFINITION. The event unit: items and their three marks, reports, the pending notice, ATTENTION
(chapter 10). -/

namespace Sys2Proof.Machine

/-- The marks of an item. -/
def Events.marks (e : Events) : Item → Marks
  | .hub i => e.hub.get i
  | .mark p => e.ports.get p

/-- Other marks for an item. -/
def Events.withMarks (e : Events) (i : Item) (m : Marks) : Events :=
  match i with
  | .hub h => { e with hub := e.hub.set h m }
  | .mark p => { e with ports := e.ports.set p m }

/-- The marks of every item changed by a function of the item. -/
def Events.mapMarks (e : Events) (f : Item → Marks → Marks) : Events :=
  { e with hub := PerHub.ofFn fun h => f (.hub h) (e.hub.get h),
           ports := PerPort.ofFn fun p => f (.mark p) (e.ports.get p) }

/-- The setting of an item; the port marks share one. -/
def EventSettings.of (t : EventSettings) : Item → EventSetting
  | .hub i => t.hub.get i
  | .mark _ => t.marks

/-- Enabled at a level of 1 to 3 (R156). -/
def EventSetting.notifies (e : EventSetting) : Bool := e.enable && decide (1 ≤ e.level)

/-- Whether a report carries an item as set (R157). -/
def Report.carries (r : Report) : Item → Bool
  | .hub i => r.hub.get i
  | .mark p => r.ports.get p

/-- The report of a lane message: that of a READ STATUS response, none in a NOTICE not yet begun. -/
def LaneMsg.report : LaneMsg → Option Report
  | .response _ _ r => r
  | .notice => none

/-- The report of a transmission in progress. -/
def TxKind.report : TxKind → Option Report
  | .response _ _ r => r
  | .notice r => some r
  | _ => none

/-- The report of U's transmission in progress. -/
def State.txReport (s : State) : Option Report := (s.links.get .u).tx.bind fun t => t.kind.report

/-- R157: a report carrying the item is outstanding, in the lane or in transmission. -/
def State.outstanding (s : State) (i : Item) : Bool :=
  s.mgmt.lane.any (fun m => m.report.any fun r => r.carries i) ||
    s.txReport.any fun r => r.carries i

/-- A NOTICE waits in the lane, not yet begun. -/
def State.noticeWaits (s : State) : Bool := s.mgmt.lane.any fun m => decide (m = .notice)

/-- R158: the notice becomes pending, unless a NOTICE waits in the lane. -/
def State.requestNotice (s : State) : State :=
  if s.noticeWaits then s else { s with events := { s.events with noticePending := true } }

/-- R158: a NOTICE is lost and the notice is pending again. -/
def State.noticeLost (s : State) : State := { s with events := { s.events with noticePending := true } }

/-- R156: the marks of an item after its cause, and whether they ask for a notice. -/
def Marks.afterRaise (m : Marks) (outstanding : Bool) : Marks × Bool :=
  if m.set = false then (⟨true, false, false⟩, true)
  else if (m.reported || outstanding) && !m.reoccurred then ({ m with reoccurred := true }, true)
  else (m, false)

/-- R156: an item is raised. -/
def State.raise (i : Item) (s : State) : State :=
  let r := (s.events.marks i).afterRaise (s.outstanding i)
  let s' := { s with events := s.events.withMarks i r.1 }
  if r.2 && (s.tables.events.of i).notifies then s'.requestNotice else s'

/-- A hub item is raised. -/
def State.raiseHub (h : HubItem) (s : State) : State := s.raise (.hub h)

/-- R157: a report completes, and every item it carried that is still set becomes reported. -/
def State.reportComplete (r : Report) (s : State) : State :=
  { s with events := s.events.mapMarks fun i m =>
      if r.carries i && m.set then { m with reported := true } else m }

/-- The items now set, as a report carries them (R148, R159). -/
def Events.report (e : Events) : Report :=
  { hub := PerHub.ofFn fun h => (e.hub.get h).set, ports := PerPort.ofFn fun p => (e.ports.get p).set }

/-- A field of hub items as a number, item n in bit n (R153). -/
def hubWord (x : PerHub Bool) : Nat := (HubItem.all.map fun i => bit (x.get i) (2 ^ i.number)).sum

/-- A field of port marks as a number, port n in bit n − 1 (R153). -/
def markByte (x : PerPort Bool) : Nat := (Port.all.map fun p => bit (x.get p) (2 ^ (p.number - 1))).sum

/-- The set items that are enabled have this highest level, 0 when there is none (R159). -/
def State.highestLevel (s : State) : Nat :=
  Item.all.foldl (fun n i =>
    if (s.events.marks i).set && (s.tables.events.of i).enable then
      max n (s.tables.events.of i).level else n) 0

/-- R159: the payload of a NOTICE that begins now. -/
def State.noticePayload (s : State) : List Byte :=
  be16 (hubWord s.events.report.hub)
    ++ be16 (hubWord (PerHub.ofFn fun h => (s.events.hub.get h).reoccurred))
    ++ [byte (markByte s.events.report.ports), byte s.highestLevel]

/-- R160: the ATTENTION line is high. -/
def State.attention (s : State) : Bool :=
  Item.all.any fun i =>
    (s.events.marks i).set && (s.tables.events.of i).enable && decide ((s.tables.events.of i).level = 3)

/-- R162: a set item that SET EVENTS has made worth a notice. -/
def State.unreported (s : State) (i : Item) : Bool :=
  (s.events.marks i).set && (s.tables.events.of i).notifies &&
    ((s.events.marks i).reoccurred || (!(s.events.marks i).reported && !s.outstanding i))

/-- R163: the marks of a named item after CLEAR EVENTS. -/
def Marks.afterClear (m : Marks) : Marks :=
  if m.set && m.reported then
    if m.reoccurred then { set := true, reported := false, reoccurred := false } else Marks.clear
  else m

/-- R163: a named item that stays set for its re-occurrence and asks for a notice. -/
def State.keptByClear (s : State) (i : Item) : Bool :=
  (s.events.marks i).set && (s.events.marks i).reported && (s.events.marks i).reoccurred &&
    (s.tables.events.of i).notifies

/-- R163: CLEAR EVENTS over the items that a predicate names. -/
def State.clearItems (sel : Item → Bool) (s : State) : State :=
  let s' := { s with events := s.events.mapMarks fun i m => if sel i then m.afterClear else m }
  if Item.all.any fun i => sel i && s.keptByClear i then s'.requestNotice else s'

end Sys2Proof.Machine
end

