-- ==== Sys2Proof/Machine/Ops.lean ====
section
/-! DEFINITION. The named operations on state: counters, the pool and its held state, the pending slots, links
going down and up, transmit selection, and the placing of responses. -/

namespace Sys2Proof.Machine

/-! ### Changing one part -/

def State.modPort (p : Port) (f : PortUnit → PortUnit) (s : State) : State :=
  { s with ports := s.ports.set p (f (s.ports.get p)) }

def State.modLink (d : Dest) (f : Link → Link) (s : State) : State :=
  { s with links := s.links.set d (f (s.links.get d)) }

def State.modQueues (d : Dest) (f : Queues → Queues) (s : State) : State :=
  { s with queues := s.queues.set d (f (s.queues.get d)) }

def State.modPhase (d : Dest) (f : Phase → Phase) (s : State) : State :=
  { s with phases := s.phases.set d (f (s.phases.get d)) }

def State.modSource (src : Source) (f : SourceMonitor → SourceMonitor) (s : State) : State :=
  { s with supply := s.supply.set src (f (s.supply.get src)) }

def State.modTables (f : Tables → Tables) (s : State) : State := { s with tables := f s.tables }

def State.modSel (f : Selector → Selector) (s : State) : State := { s with sel := f s.sel }

def State.modBudget (f : Budget → Budget) (s : State) : State := { s with budget := f s.budget }

def State.modTiming (f : Timing → Timing) (s : State) : State := { s with timing := f s.timing }

def State.modMgmt (f : Mgmt → Mgmt) (s : State) : State := { s with mgmt := f s.mgmt }

def State.modGrantSlot (p : Port) (g : Option GrantMsg) (s : State) : State :=
  { s with grantSlots := s.grantSlots.set p g }

/-- One free value has been used. -/
def State.drawn (s : State) : State := { s with draws := s.draws + 1 }

/-! ### Counters (R164): each rises by one and wraps -/

def State.countEndpoint (d : Dest) (f : EndpointCounters → EndpointCounters) (s : State) : State :=
  { s with counters :=
      { s.counters with endpoint := s.counters.endpoint.set d (f (s.counters.endpoint.get d)) } }

def State.countPort (p : Port) (f : PortCounters → PortCounters) (s : State) : State :=
  { s with counters := { s.counters with port := s.counters.port.set p (f (s.counters.port.get p)) } }

def EndpointCounters.addGood (c : EndpointCounters) : EndpointCounters := { c with good := c.good + 1 }
def EndpointCounters.addCheckError (c : EndpointCounters) : EndpointCounters :=
  { c with checkError := c.checkError + 1 }
def EndpointCounters.addMalformed (c : EndpointCounters) : EndpointCounters :=
  { c with malformed := c.malformed + 1 }
def EndpointCounters.addTransmitted (c : EndpointCounters) : EndpointCounters :=
  { c with transmitted := c.transmitted + 1 }
def EndpointCounters.addQueueFull (c : EndpointCounters) : EndpointCounters :=
  { c with queueFull := c.queueFull + 1 }
def EndpointCounters.addNoBuffer (c : EndpointCounters) : EndpointCounters :=
  { c with noBuffer := c.noBuffer + 1 }
def EndpointCounters.addLinkDown (n : Nat) (c : EndpointCounters) : EndpointCounters :=
  { c with linkDown := c.linkDown + BitVec.ofNat 32 n }
def EndpointCounters.addLateDrop (c : EndpointCounters) : EndpointCounters :=
  { c with lateDrop := c.lateDrop + 1 }
def PortCounters.addGrant (c : PortCounters) : PortCounters := { c with grants := c.grants + 1 }
def PortCounters.addShed (c : PortCounters) : PortCounters := { c with sheds := c.sheds + 1 }
def PortCounters.addTrip (c : PortCounters) : PortCounters := { c with trips := c.trips + 1 }

/-- The counters in index order (R155). -/
def Counters.toList (c : Counters) : List (BitVec 32) :=
  (c.endpoint.toList.flatMap fun e =>
      [e.good, e.checkError, e.malformed, e.transmitted, e.queueFull, e.noBuffer, e.linkDown, e.lateDrop])
    ++ (c.port.toList.flatMap fun q => [q.grants, q.sheds, q.trips])
    ++ [c.changeovers, c.sourceFailures, c.syncLosses, c.overruns]

/-! ### Pending slots (R59, R97, R98) -/

def State.linkState (s : State) (d : Dest) : LinkState := (s.links.get d).state

/-- R97: a HOLD or RESUME posted to a link that is UP fills its flow slot; else it is discarded. -/
def State.postFlow (k : FlowKind) (d : Dest) (s : State) : State :=
  if s.linkState d = .up then s.modLink d fun l => { l with flowSlot := some k } else s

/-- A HOLD or RESUME posted to every link that is UP. -/
def State.postFlowAll (k : FlowKind) (s : State) : State :=
  Dest.all.foldl (fun s d => s.postFlow k d) s

/-- R98: a MARK posted to a link that is not DOWN fills its MARK slot; else it is discarded. -/
def State.postMark (m : MarkMsg) (d : Dest) (s : State) : State :=
  if s.linkState d = .down then s else s.modLink d fun l => { l with markSlot := some m }

/-- The class record of a port's effective class, where it has one (R40). -/
def State.classOf (s : State) (p : Port) : Option ClassRecord :=
  (s.ports.get p).eff.map fun e => s.tables.cls.get e.cls

/-- R59: a GRANT of a status posted to a port. It is discarded when the link is DOWN. -/
def State.postGrant (p : Port) (st : GrantStatus) (s : State) : State :=
  if s.linkState (.port p) = .down then s
  else s.modGrantSlot p (some
    { grant := (s.ports.get p).grant, status := st,
      tolerance := ((s.classOf p).map (·.tolerance)).getD 0 })

/-! ### The pool (sections 7.1, 7.4, 7.6) -/

/-- The cells of a payload by its length (R112). -/
def cellsFor (length : Nat) : Nat := if length ≤ 16 then 1 else if length ≤ 32 then 2 else 3

/-- The cells a record in use holds. -/
def Record.cells (r : Record) : Nat := cellsFor r.msg.payload.length

/-- The cells held by the records in use. -/
def State.heldCells (s : State) : Nat := (s.records.map fun r => (r.map Record.cells).getD 0).sum

/-- R112: the count of free cells. -/
def State.freeCells (s : State) : Nat := Config.cells - s.heldCells

/-- R112: the count of free records. -/
def State.freeRecords (s : State) : Nat := s.records.countP Option.isNone

/-- The record in a slot, if it is in use. -/
def State.record (s : State) (i : Nat) : Option Record := s.records[i]?.join

/-- R119: the resume level. -/
def State.resumeLevel (s : State) : Nat := s.tables.holdLevel + Config.resumeBand

/-- R120: the pool enters HELD. -/
def State.enterHeld (s : State) : State :=
  ({ s with held := true }.postFlowAll .hold).raiseHub .poolHold

/-- R121: the pool leaves HELD. -/
def State.leaveHeld (s : State) : State := { s with held := false }.postFlowAll .resume

/-- R120: the held state is judged after a take. -/
def State.judgeTake (s : State) : State :=
  if s.held = false ∧ s.freeCells ≤ s.tables.holdLevel then s.enterHeld else s

/-- R121: the held state is judged after a freeing. -/
def State.judgeFree (s : State) : State :=
  if s.held = true ∧ s.resumeLevel ≤ s.freeCells then s.leaveHeld else s

/-- R116: a record's count after a reference is added. -/
def State.addRef (i : Nat) (s : State) : State :=
  match s.record i with
  | none => s
  | some r => { s with records := s.records.set i (some { r with refs := r.refs + 1 }) }

/-- R116: a record with no reference left is freed, and the held state is judged. -/
def State.freeIfUnused (i : Nat) (s : State) : State :=
  match s.record i with
  | none => s
  | some r => if r.refs = 0 then { s with records := s.records.set i none }.judgeFree else s

/-- R116: one reference to a record is released. -/
def State.releaseRef (i : Nat) (s : State) : State :=
  match s.record i with
  | none => s
  | some r =>
    { s with records := s.records.set i (some { r with refs := r.refs - 1 }) }.freeIfUnused i

/-- References released one after another. -/
def State.releaseRefs (is : List Nat) (s : State) : State := is.foldl (fun s i => s.releaseRef i) s

/-- The first free record slot (log 19). -/
def State.freeSlot (s : State) : Option Nat := s.records.findIdx? Option.isNone

/-! ### Links going down and up (R91, R92, R95, R118) -/

/-- The reference that a transmission in progress holds. -/
def Tx.refs (t : Tx) : List Nat :=
  match t.kind with
  | .data i => [i]
  | _ => []

/-- The references that stand at a destination: its transmission, its two queues and its timed list. -/
def State.refsAt (s : State) (d : Dest) : List Nat :=
  ((s.links.get d).tx.map Tx.refs).getD [] ++ (s.queues.get d).urgent.map (·.slot)
    ++ (s.queues.get d).bulk.map (·.slot) ++ (s.queues.get d).timed.map (·.slot)

/-- R92, R118: what a passage to DOWN does at any destination. Each flushed entry and a cut DATA
transmission count one link-down drop and release their references. -/
def State.flushLink (d : Dest) (s : State) : State :=
  let refs := s.refsAt d
  ((({ s with links := s.links.set d Link.reset, queues := s.queues.set d Queues.reset }).countEndpoint d
    (EndpointCounters.addLinkDown refs.length)).releaseRefs refs)

/-- R92: a port link enters DOWN and notes the moment (log 34). Nothing happens to a link that is DOWN already. -/
def State.portLinkDown (p : Port) (s : State) : State :=
  if s.linkState (.port p) = .down then s
  else ((s.modGrantSlot p none).flushLink (.port p)).modLink (.port p) fun l => { l with downAt := some s.now }

/-- R91: a port link enters WAIT from DOWN. -/
def State.portLinkWait (p : Port) (s : State) : State :=
  s.modLink (.port p) fun l => { l with state := .wait, receivedHold := false }

/-- A link enters UP. While the pool is HELD, HOLD is posted to it (R91, R94, R120). -/
def State.linkUp (d : Dest) (s : State) : State :=
  let s' := s.modLink d fun l => { l with state := .up }
  if s'.held then s'.postFlow .hold d else s'

/-! ### Transmit selection (R99) -/

/-- The six sources that offer a transmitter messages. -/
inductive TxSource where
  | flow | mark | grant | lane | urgent | bulk
deriving DecidableEq, Repr

/-- The pending GRANT slot of a link; U has none. -/
def State.grantSlot (s : State) : Dest → Option GrantMsg
  | .u => none
  | .port p => s.grantSlots.get p

/-- Whether a source offers a message on a link now (R97 to R99). -/
def State.offers (s : State) (d : Dest) : TxSource → Bool
  | .flow => (s.links.get d).flowSlot.isSome && decide (s.linkState d = .up)
  | .mark => (s.links.get d).markSlot.isSome && decide (s.linkState d ≠ .down)
  | .grant => (s.grantSlot d).isSome && decide (s.linkState d ≠ .down)
  | .lane => decide (d = .u) && !s.mgmt.lane.isEmpty && decide (s.linkState d = .up)
  | .urgent =>
    !(s.queues.get d).urgent.isEmpty && decide (s.linkState d = .up) && !(s.links.get d).receivedHold
  | .bulk =>
    !(s.queues.get d).bulk.isEmpty && decide (s.linkState d = .up) && !(s.links.get d).receivedHold

/-- The order of precedence of R99. -/
def TxSource.all : List TxSource := [.flow, .mark, .grant, .lane, .urgent, .bulk]

/-- The first source that offers a message on a link. -/
def State.firstOffer (s : State) (d : Dest) : Option TxSource := TxSource.all.find? (s.offers d)

/-- A link begins to send a message of a kind. -/
def State.transmit (d : Dest) (k : TxKind) (bytes : List Byte) (s : State) : State :=
  s.modLink d fun l => { l with tx := some ⟨k, bytes⟩ }

/-- The link's DATA entry of a queue begins (R90, R99). The entry has left its queue. -/
def State.transmitData (d : Dest) (e : QEntry) (urgent : Bool) (s : State) : State :=
  s.transmit d (.data e.slot) (((s.record e.slot).map fun r => dataWire r urgent e.late).getD [])

/-- R99: the message of a source begins on a link and leaves its slot, lane or queue. -/
def State.begin (d : Dest) (src : TxSource) (s : State) : State :=
  match src with
  | .flow =>
    match (s.links.get d).flowSlot with
    | none => s
    | some k =>
      (s.modLink d fun l => { l with flowSlot := none }).transmit d (.flow k)
        (originated (match k with | .hold => .hold | .resume => .resume) 0 [])
  | .mark =>
    match (s.links.get d).markSlot with
    | none => s
    | some m =>
      (s.modLink d fun l => { l with markSlot := none }).transmit d .mark (originated .mark 0 m.bytes)
  | .grant =>
    match d with
    | .u => s
    | .port p =>
      match s.grantSlots.get p with
      | none => s
      | some g => (s.modGrantSlot p none).transmit d .grant (originated .grant 0 g.bytes)
  | .lane =>
    match s.mgmt.lane with
    | [] => s
    | .response code payload report :: rest =>
      (s.modMgmt fun m => { m with lane := rest }).transmit d (.response code payload report)
        (originated .response code payload)
    | .notice :: rest =>
      (s.modMgmt fun m => { m with lane := rest }).transmit d (.notice s.events.report)
        (originated .notice 0 s.noticePayload)
  | .urgent =>
    match (s.queues.get d).urgent with
    | [] => s
    | e :: rest => (s.modQueues d fun q => { q with urgent := rest }).transmitData d e true
  | .bulk =>
    match (s.queues.get d).bulk with
    | [] => s
    | e :: rest => (s.modQueues d fun q => { q with bulk := rest }).transmitData d e false

/-- R99: a selection on one link. Nothing begins while a transmission is in progress. -/
def State.select (d : Dest) (s : State) : State :=
  match (s.links.get d).tx, s.firstOffer d with
  | none, some src => s.begin d src
  | _, _ => s

/-- R99: a selection on every link, made at the end of each event (log 8). -/
def State.selectAll (s : State) : State := Dest.all.foldl (fun s d => s.select d) s

/-! ### Port states (R62) -/

/-- The port's switch is closed (R62). -/
def PortState.closed : PortState → Bool
  | .ramp => true
  | .on => true
  | .limit => true
  | _ => false

/-- R62: a port takes a state, and a change sets its mark. -/
def State.setPortState (p : Port) (st : PortState) (s : State) : State :=
  if (s.ports.get p).state = st then s
  else (s.modPort p fun u => { u with state := st }).raise (.mark p)

/-- What every passage out of RAMP, ON and LIMIT that removes power does to the unit: the step, over-draw and
clean-run timers are cancelled and the ramp is abandoned (R72, R77, R80, R81). -/
def PortUnit.unpowered (u : PortUnit) : PortUnit :=
  { u with stepTimer := none, overdrawTimer := none, cleanTimer := none, rampPos := 0, heldCount := 0,
           periodHeld := false, figures := none }

/-- R70: a port enters RAMP at step 1 and its link enters WAIT. -/
def State.enterRamp (p : Port) (s : State) : State :=
  let s' := s.setPortState p .ramp
  (s'.modPort p fun u =>
    { u with rampPos := 0, heldCount := 0, periodHeld := false,
             stepTimer := some (((s'.classOf p).map (·.rampFactor)).getD 1 * 1000) }).portLinkWait p

/-! ### Responses (R144, R145) -/

/-- A response goes to the tail of the lane while U is UP, and is discarded and counted while U is DOWN. -/
def State.placeResponse (code : Byte) (payload : List Byte) (report : Option Report) (s : State) : State :=
  if s.linkState .u = .up then
    s.modMgmt fun m => { m with lane := m.lane ++ [.response code payload report] }
  else s.countEndpoint .u (EndpointCounters.addLinkDown 1)

/-! ### Events -/

/-- An event of the running hub: its effect, then transmit selection. While RESET is asserted the hub does
nothing (R151, log 5). -/
def event (f : State → State) (s : State) : Host.Outcome State Fault Refusal :=
  .next (if s.resetPin then s else (f s).selectAll)

/-- An event that puts no message before a transmitter. -/
def quietEvent (f : State → State) (s : State) : Host.Outcome State Fault Refusal :=
  .next (if s.resetPin then s else f s)

end Sys2Proof.Machine
end

