-- ==== Sys2Proof/Machine/Admission.lean ====
section
/-! DEFINITION. The admission unit (chapter 3): effective priority, the two lists, evaluation, shedding, demands,
and the commands HOLD_OFF_EXPIRY, WAIT_TIMER_EXPIRY and INCREASE_WAIT_EXPIRY. -/

namespace Sys2Proof.Machine

/-! ### What the unit reads (R31, R40, R44) -/

/-- R40: a port's effective priority, where it has one. -/
def State.priority? (s : State) (p : Port) : Option Nat :=
  match (s.tables.port.get p).override with
  | some n => some n
  | none => (s.classOf p).map (·.priority)

/-- R40: the effective priority; every port that holds an entry or a grant has one (log 27). -/
def State.priority (s : State) (p : Port) : Nat := (s.priority? p).getD 0

/-- R40: the port's effective class is sheddable. -/
def State.sheddable (s : State) (p : Port) : Bool := (s.classOf p).any (·.sheddable)

/-- R40: the port's effective class is ride-through. -/
def State.rideThrough (s : State) (p : Port) : Bool := (s.classOf p).any (·.rideThrough)

/-- R31: the granted sum G. -/
def State.grantedSum (s : State) : Nat := (s.granted.map fun p => (s.ports.get p).grant).sum

/-- R31: the free figure F, which may be negative. -/
def State.free (s : State) : Int := (s.budget.b : Int) - (s.grantedSum : Int)

/-- The selector is in LINE or BATT. -/
def SelState.isActive : SelState → Bool
  | .active _ => true
  | _ => false

/-- R44: evaluation is in force. -/
def State.inForce (s : State) : Bool := s.mgmt.operational && s.sel.state.isActive

/-- The entry of a port. -/
def State.entryOf (s : State) (p : Port) : Option Entry := s.admission.find? fun e => decide (e.port = p)

/-- R41, R52: a draw brought into the range of the port's effective class. -/
def State.clampDraw (s : State) (p : Port) (draw : Nat) : Nat :=
  match s.classOf p with
  | some c => clamp c.idleDraw c.maxDemand draw
  | none => draw

/-- Section 3.3: a wait timer for the port's class, none when the wait limit is 0. -/
def State.waitTimer (s : State) (p : Port) : Option Nat :=
  match s.classOf p with
  | some c => if c.waitLimit = 0 then none else some (c.waitLimit * 1000000)
  | none => none

/-- Section 3.3: a hold-off timer, none when the readmit hold-off is 0. -/
def State.holdOffTimer (s : State) : Option Nat :=
  if s.tables.budget.readmit = 0 then none else some (s.tables.budget.readmit * 1000000)

/-! ### The admission list (R41) -/

/-- R41: an entry joins at the tail. -/
def State.addEntry (e : Entry) (s : State) : State := { s with admission := s.admission ++ [e] }

/-- R41: the port's entry is removed with its timers. -/
def State.removeEntry (p : Port) (s : State) : State :=
  { s with admission := s.admission.filter fun e => decide (e.port ≠ p) }

/-- The port's INCREASE entry is removed with its wait timer. -/
def State.removeIncrease (p : Port) (s : State) : State :=
  { s with admission := s.admission.filter fun e => !(decide (e.port = p) && decide (e.reason = .increase)) }

/-- The entry takes the place of the entry of its port, or joins at the tail where the port has none. -/
def State.putEntry (e : Entry) (s : State) : State :=
  if s.admission.any fun x => decide (x.port = e.port) then
    { s with admission := s.admission.map fun x => if x.port = e.port then e else x }
  else s.addEntry e

/-- R41, section 3.3: an ATTACH, RETRY or RESET entry. -/
def State.makeEntry (p : Port) (reason : Reason) (draw : Nat) (s : State) : State :=
  s.addEntry { port := p, reason := reason, draw := s.clampDraw p draw, wait := s.waitTimer p,
               holdOff := none }

/-! ### The granted list (R43) -/

/-- R43, R31: a port leaves the granted list and its grant is released. -/
def State.leaveGranted (p : Port) (s : State) : State :=
  { s with granted := s.granted.filter fun q => decide (q ≠ p) }.modPort p fun u => { u with grant := 0 }

/-- R43: a port stands at the tail of the granted list. -/
def State.toTail (p : Port) (s : State) : State :=
  { s with granted := (s.granted.filter fun q => decide (q ≠ p)) ++ [p] }

/-! ### Shedding (R46, R49) -/

/-- R49, R81: a victim is shed. -/
def State.shed (p : Port) (s : State) : State :=
  let entry : Entry :=
    { port := p, reason := .shed, draw := s.clampDraw p (s.ports.get p).grant, wait := none,
      holdOff := s.holdOffTimer }
  (((((s.leaveGranted p).setPortState p .waiting).modPort p PortUnit.unpowered).portLinkDown p).putEntry
    entry).countPort p PortCounters.addShed

/-- R46: the victim among the candidates, of the lowest priority, and of these the latest on the list. -/
def State.victim (s : State) (candidate : Port → Bool) : Option Port :=
  s.granted.foldl (fun best p =>
    if candidate p then
      match best with
      | none => some p
      | some q => if s.priority p ≤ s.priority q then some p else some q
    else best) none

/-- R46: victims are shed one at a time until F is at least the need. The count is one for each port on
the granted list, which is enough since each shed takes one off it. -/
def State.shedLoop (candidate : State → Port → Bool) (need : Int) : Nat → State → State
  | 0, s => s
  | n + 1, s =>
    if need ≤ s.free then s
    else
      match s.victim (candidate s) with
      | none => s
      | some p => State.shedLoop candidate need n (s.shed p)

def State.shedUntil (candidate : State → Port → Bool) (need : Int) (s : State) : State :=
  State.shedLoop candidate need s.granted.length s

/-- R34: sheddable and not PAUSED. -/
def State.overcommitCandidate (s : State) (p : Port) : Bool :=
  s.sheddable p && decide ((s.ports.get p).state ≠ .paused)

/-- R45: also of a priority strictly below the head's. -/
def State.preemptCandidate (prio : Nat) (s : State) (p : Port) : Bool :=
  s.overcommitCandidate p && decide (s.priority p < prio)

/-- R45: the pre-emptable sum. -/
def State.preemptable (s : State) (prio : Nat) : Nat :=
  ((s.granted.filter (s.preemptCandidate prio)).map fun p => (s.ports.get p).grant).sum

/-! ### Evaluation (R42, R45, R47) -/

/-- R42: an entry whose hold-off timer is not running. -/
def Entry.eligible (e : Entry) : Bool := e.holdOff.isNone

/-- R42: the head is the eligible entry of the highest priority that stands nearest the front. -/
def State.head (s : State) : Option Entry :=
  s.admission.foldl (fun best e =>
    if e.eligible then
      match best with
      | none => some e
      | some b => if s.priority b.port < s.priority e.port then some e else some b
    else best) none

/-- R42: the need of an entry. -/
def State.need (s : State) (e : Entry) : Int :=
  match e.reason with
  | .increase => (e.draw : Int) - ((s.ports.get e.port).grant : Int)
  | _ => (e.draw : Int)

/-- R59: the status of a GRANT for a port as it stands. -/
def State.grantStatus (s : State) (p : Port) : GrantStatus :=
  if (s.ports.get p).state = .limit then .limit else .on

/-- R47: the head is granted. -/
def State.grantHead (e : Entry) (s : State) : State :=
  let s1 := ((s.modPort e.port fun u => { u with grant := e.draw }).removeEntry e.port).toTail e.port
  let s2 := match e.reason with
    | .increase => s1
    | _ => s1.enterRamp e.port
  (s2.postGrant e.port (s2.grantStatus e.port)).countPort e.port PortCounters.addGrant

/-- R45: the steps of an evaluation. A port is granted at most once in one evaluation, since every victim
is of a lower priority than the head it makes way for, so the count never runs out (log 24). -/
def State.evaluateLoop : Nat → State → State
  | 0, s => s
  | n + 1, s =>
    match s.head with
    | none => s
    | some e =>
      if s.need e ≤ s.free then State.evaluateLoop n (s.grantHead e)
      else if s.need e ≤ s.free + (s.preemptable (s.priority e.port) : Int) then
        State.evaluateLoop n
          ((s.shedUntil (State.preemptCandidate (s.priority e.port)) (s.need e)).grantHead e)
      else s

/-- R44, R45: an evaluation, if evaluation is in force. -/
def State.evaluate (s : State) : State :=
  if s.inForce then State.evaluateLoop (s.admission.length + s.granted.length) s else s

/-! ### Supply loss (R12, R58, R81) -/

/-- R58: one port of the granted list loses its supply. -/
def State.losePort (p : Port) (s : State) : State :=
  let entry : Entry :=
    { port := p, reason := .supply, draw := s.clampDraw p (s.ports.get p).grant, wait := none,
      holdOff := none }
  ((((((s.leaveGranted p).removeIncrease p).setPortState p .waiting).modPort p
    PortUnit.unpowered).portLinkDown p).addEntry entry)

/-- R12, R58: supply loss takes the ports of the granted list, the oldest grant first. -/
def State.supplyLoss (s : State) : State := s.granted.foldl (fun s p => s.losePort p) s

/-! ### Demands (R52 to R56) -/

/-- The port is in RAMP, ON or LIMIT. -/
def State.powered (s : State) (p : Port) : Bool := (s.ports.get p).state.closed

/-- R54: a reduction. -/
def State.demandDecrease (p : Port) (draw : Nat) (s : State) : State :=
  let s' := (s.modPort p fun u => { u with grant := draw }).removeIncrease p
  (s'.postGrant p (s'.grantStatus p)).evaluate

/-- R55: an equal demand. -/
def State.demandEqual (p : Port) (s : State) : State :=
  (s.removeIncrease p).postGrant p (s.grantStatus p)

/-- R56: the entry that a larger demand makes, or that takes the place of the port's INCREASE entry and
keeps its wait timer. -/
def State.increaseEntry (s : State) (p : Port) (draw : Nat) : Entry :=
  { port := p, reason := .increase, draw := draw,
    wait := match s.entryOf p with
      | some e => e.wait
      | none => s.waitTimer p,
    holdOff := none }

/-- R56: an increase. -/
def State.demandIncrease (p : Port) (draw : Nat) (s : State) : State :=
  ((s.putEntry (s.increaseEntry p draw)).postGrant p .pending).evaluate

/-- R52, R53: a DEMAND reaches the admission unit. -/
def State.demand (p : Port) (draw : Nat) (s : State) : State :=
  if s.powered p then
    let d := s.clampDraw p draw
    if d < (s.ports.get p).grant then s.demandDecrease p d
    else if d = (s.ports.get p).grant then s.demandEqual p
    else s.demandIncrease p d
  else s.countEndpoint (.port p) EndpointCounters.addMalformed

/-! ### The commands -/

/-- R48: the port's entry loses its hold-off timer and becomes eligible in its place. -/
def State.clearHoldOff (p : Port) (s : State) : State :=
  { s with admission := s.admission.map fun e => if e.port = p then { e with holdOff := none } else e }

/-- R48. -/
def State.holdOffExpiry (p : Port) (s : State) : State :=
  if s.admission.any (fun e => decide (e.port = p) && e.holdOff.isSome) then
    (s.clearHoldOff p).evaluate
  else s

/-- HOLD_OFF_EXPIRY. -/
def execHoldOffExpiry (p : Port) (s : State) : Host.Outcome State Fault Refusal :=
  event (State.holdOffExpiry p) s

/-- A wait timer that runs, for an entry that a predicate names. A wait timer stands still while evaluation
is suspended (R44). -/
def State.waitRuns (s : State) (p : Port) (f : Reason → Bool) : Bool :=
  s.inForce && s.admission.any fun e => decide (e.port = p) && e.wait.isSome && f e.reason

/-- R50. -/
def State.waitTimerExpiry (p : Port) (s : State) : State :=
  if s.waitRuns p fun r => decide (r ≠ .increase) then
    ((s.removeEntry p).setPortState p .denied).raiseHub .admitDenied
  else s

/-- WAIT_TIMER_EXPIRY. -/
def execWaitTimerExpiry (p : Port) (s : State) : Host.Outcome State Fault Refusal :=
  event (State.waitTimerExpiry p) s

/-- R51. -/
def State.increaseWaitExpiry (p : Port) (s : State) : State :=
  if s.waitRuns p fun r => decide (r = .increase) then (s.removeEntry p).postGrant p .refused else s

/-- INCREASE_WAIT_EXPIRY. -/
def execIncreaseWaitExpiry (p : Port) (s : State) : Host.Outcome State Fault Refusal :=
  event (State.increaseWaitExpiry p) s

end Sys2Proof.Machine
end

