-- ==== Sys2Proof/Machine/Budget.lean ====
section
/-! DEFINITION. The budget unit (chapter 2): the computation stage by stage, the overcommit state, and the command
SHED_DELAY_EXPIRY. -/

namespace Sys2Proof.Machine

/-- R2: the averaged voltage V of a source, defined once a scan has completed. -/
def SourceMonitor.average (m : SourceMonitor) : Option Nat :=
  if m.ring = [] then none else some (m.ring.sum / 8)

/-- R25, R26: the budget source. -/
def SelState.budgetSource : SelState → Option Source
  | .active src => some src
  | .changeover target => some target
  | _ => none

/-- R28: the derating strictly between two points, the whole exact value rounded down. The divisor is
positive, so Int division rounds down. -/
def interpolate (a b : CurvePoint) (v : Nat) : Nat :=
  ((a.percent : Int) * 10 +
    (((b.percent : Int) - a.percent) * 10 * ((v : Int) - a.volts)) / ((b.volts : Int) - a.volts)).toNat

/-- R27: the derating from a point on, for V at or above that point. -/
def derateFrom (v : Nat) : CurvePoint → List CurvePoint → Nat
  | a, [] => a.percent * 10
  | a, b :: rest =>
    if v = a.volts then a.percent * 10
    else if v < b.volts then interpolate a b v
    else derateFrom v b rest

/-- R27, R28: the derating d10. -/
def derate (curve : List CurvePoint) (v : Nat) : Nat :=
  match curve with
  | [] => 0
  | a :: rest => if v < a.volts then a.percent * 10 else derateFrom v a rest

/-- R27 to R30: the figures from a source's record, its voltage, its body allowance and the headroom. -/
def Budget.compute (bu : Budget) (r : SourceRecord) (v allowance headroom : Nat) : Budget :=
  let d10 := derate r.curve v
  let cr := r.rated * d10 / 1000
  let ci := v * r.limit / 100000
  { bu with d10 := d10, cr := cr, ci := ci, c := min cr ci, b := min cr ci - allowance - headroom }

/-- R26: the budget computation, skipped without a budget source or an averaged voltage. -/
def State.computeBudget (s : State) : State :=
  match s.sel.state.budgetSource with
  | none => s
  | some src =>
    match (s.supply.get src).average with
    | none => s
    | some v =>
      s.modBudget fun bu =>
        bu.compute (s.tables.source.get src) v (s.tables.budget.allowance.get src) s.tables.budget.headroom

/-- R25, R36: the figures and the overcommit mechanism as the selector enters START, NO_SOURCE or CUT. -/
def State.zeroBudget (s : State) : State := s.modBudget fun _ => Budget.reset

/-- An overcommit state with its timer idle. -/
def State.setOvercommit (o : Overcommit) (s : State) : State :=
  s.modBudget fun bu => { bu with overcommit := o, shedTimer := none }

/-- R34, R36: shedding is over. With F still below 0 the state is UNRESOLVED and OVERCOMMIT is raised. -/
def State.afterShedding (s : State) : State :=
  if 0 ≤ s.free then s.setOvercommit .clear else (s.setOvercommit .unresolved).raiseHub .overcommit

/-- R34: the shed delay timer expires. One evaluation follows if a victim was shed (log 13). -/
def State.shedExpire (s : State) : State :=
  let s' := (s.setOvercommit .clear).shedUntil State.overcommitCandidate 0
  if s'.granted = s.granted then s'.afterShedding else s'.afterShedding.evaluate

/-- R33: TIMING begins; a shed delay of 0 expires at once. -/
def State.startShedTimer (s : State) : State :=
  if s.tables.budget.shedDelay = 0 then s.shedExpire
  else s.modBudget fun bu =>
    { bu with overcommit := .timing, shedTimer := some (s.tables.budget.shedDelay * 1000) }

/-- R33: the overcommit judgement of a scan. -/
def State.judgeOvercommit (s : State) : State :=
  if 0 ≤ s.free then s.setOvercommit .clear
  else
    match s.budget.overcommit with
    | .clear => s.startShedTimer
    | .timing => s
    | .unresolved => if s.granted.any s.overcommitCandidate then s.startShedTimer else s

/-- R32: the budget unit at a scan completion. -/
def State.scanBudget (s : State) : State :=
  let s' := s.computeBudget
  (if s'.sel.state.isActive then s'.judgeOvercommit else s').evaluate

/-- R15, R36: the shedding at the end of a changeover, PAUSED ports included. -/
def State.shedAtEnd (s : State) : State := (s.shedUntil State.sheddable 0).afterShedding

/-- SHED_DELAY_EXPIRY: R34, where the timer runs. -/
def State.shedDelayExpiry (s : State) : State :=
  if s.budget.shedTimer.isSome then s.shedExpire else s

def execShedDelayExpiry (s : State) : Host.Outcome State Fault Refusal := event State.shedDelayExpiry s

end Sys2Proof.Machine
end

