-- ==== Sys2Proof/Machine/Ports.lean ====
section
/-! DEFINITION. The port power units (chapter 4): classification, detection, soft start, over-draw, trips, pauses and
port control, and the commands of the port timers. -/

namespace Sys2Proof.Machine

/-! ### Releases (R57) -/

/-- R57, R66, R82: the port leaves both lists and loses power, its timers and its link. -/
def State.dropPort (p : Port) (s : State) : State :=
  (((s.leaveGranted p).removeEntry p).modPort p fun u =>
    { u.unpowered with retryTimer := none, retryCount := 0, eff := none, retryDraw := none,
                       lastTrip := none, lockReason := none }).portLinkDown p

/-- R57: an evaluation if the port held a place on the granted list before. -/
def State.evaluateIf (released : Bool) (s : State) : State := if released then s.evaluate else s

/-! ### Classification (R68, R69) -/

/-- A reading of the sense line (R68). -/
inductive Reading where
  | short
  | cls (c : ClassNo) (fixed : Bool)
  | open
deriving DecidableEq, Repr

/-- R68: the bands of the sense value, each 450 mV wide from 300 mV. -/
def readSense (mv : Nat) : Reading :=
  if mv < 300 then .short
  else if mv < Config.detectLevel then
    match ClassNo.ofNumber ((mv - 300) / 450) with
    | some c => .cls c false
    | none => .open
  else .open

/-- R68: the reading of a classification, without the line when the class is fixed. -/
def State.reading (s : State) (p : Port) : Reading :=
  match (s.tables.port.get p).classSource with
  | .fixed c => .cls c true
  | .detected => readSense (s.ports.get p).sense

/-- R69: the entry and the event item of a port that has a class. -/
def State.classified (p : Port) (reason : Reason) (s : State) : State :=
  let s' := s.makeEntry p reason (((s.classOf p).map (·.defaultDemand)).getD 0)
  (if reason = .attach then s'.raiseHub .portAttach else s').evaluate

/-- R69: a port is classified, for an ATTACH or a RESET entry. -/
def State.classify (p : Port) (reason : Reason) (s : State) : State :=
  match s.reading p with
  | .cls c fixed =>
    ((s.modPort p fun u => { u with eff := some ⟨c, fixed⟩ }).setPortState p .waiting).classified p reason
  | .short =>
    ((s.modPort p fun u => { u with eff := none, lockReason := some .senseShort }).setPortState p
      .locked).raiseHub .portLocked
  | .open =>
    ((s.modPort p fun u => { u with eff := none, stable := .open }).setPortState p .vacant).raiseHub
      .portDetach

/-! ### Detection (R64 to R67) -/

/-- R66: an accepted detach outside DISABLED. -/
def State.detach (p : Port) (s : State) : State :=
  let s' := (((s.dropPort p).setPortState p .vacant).modPort p fun u =>
    { u with stable := .open }).raiseHub .portDetach
  s'.evaluateIf (decide (p ∈ s.granted))

/-- R65, R67: the debounce timer of a port expires. -/
def State.debounceExpire (p : Port) (s : State) : State :=
  let s := s.modPort p fun u => { u with debounce := none }
  let u := s.ports.get p
  if u.present = u.stable then
    if u.state = .debounce then s.setPortState p .vacant else s
  else
    match u.present with
    | .attached =>
      let s' := s.modPort p fun u => { u with stable := .attached }
      if u.state = .debounce ∨ u.state = .vacant then s'.classify p .attach else s'
    | .open =>
      if u.state = .disabled then
        (s.modPort p fun u => { u with stable := .open }).raiseHub .portDetach
      else s.detach p

/-- R64: the level of a sense value. -/
def levelOf (mv : Nat) : Level := if mv < Config.detectLevel then .attached else .open

/-- R64: the debounce timer at a scan. An edge starts it; else one scan runs off. -/
def PortUnit.debounceAt (u : PortUnit) (level : Level) (d : Nat) : Option Nat :=
  if level ≠ u.present then some d else u.debounce.map (· - 1)

/-- R64, R65: a port's detect line at a scan completion, from the sample just stored. -/
def State.scanDetect (p : Port) (s : State) : State :=
  let u := s.ports.get p
  let level := levelOf u.sense
  let timer := u.debounceAt level (s.tables.port.get p).debounce
  let s' := s.modPort p fun u => { u with present := level, debounce := timer }
  let s' := if u.state = .vacant ∧ level ≠ u.present ∧ level = .attached then s'.setPortState p .debounce
    else s'
  if timer = some 0 then s'.debounceExpire p else s'

/-- DEBOUNCE_EXPIRY: R65, where the timer runs. -/
def State.debounceExpiry (p : Port) (s : State) : State :=
  if (s.ports.get p).debounce.isSome then s.debounceExpire p else s

def execDebounceExpiry (p : Port) (s : State) : Host.Outcome State Fault Refusal :=
  event (State.debounceExpiry p) s

/-! ### Trips (R76, R77) -/

/-- R77: the trip locks the port. -/
def State.tripLocks (s : State) (p : Port) : Bool :=
  decide (((s.classOf p).map (·.retryLimit)).getD 0 < (s.ports.get p).retryCount + 1)

/-- R77: the unit's own part of a trip. -/
def PortUnit.tripped (u : PortUnit) (reason : TripReason) (locks : Bool) (delay : Nat) : PortUnit :=
  { u.unpowered with
    retryDraw := some u.grant, lastTrip := some reason, retryCount := u.retryCount + 1,
    retryTimer := if locks then none else some (delay * 100000),
    lockReason := if locks then some .retries else none }

/-- R77: a port trips. -/
def State.trip (p : Port) (reason : TripReason) (s : State) : State :=
  let locks := s.tripLocks p
  let delay := ((s.classOf p).map (·.retryDelay)).getD 1
  let s1 := (((s.modPort p fun u => u.tripped reason locks delay).leaveGranted p).removeIncrease
    p).portLinkDown p
  let s2 := if locks then (s1.setPortState p .locked).raiseHub .portLocked
    else s1.setPortState p .tripped
  (((s2.raiseHub .portTrip).countPort p PortCounters.addTrip).evaluateIf (decide (p ∈ s.granted)))

/-- R76: the fixed comparator acts while the switch is closed. -/
def State.hardTrip (p : Port) (s : State) : State := if s.powered p then s.trip p .short else s

/-- HARD_TRIP. -/
def execHardTrip (p : Port) (s : State) : Host.Outcome State Fault Refusal := event (State.hardTrip p) s

/-! ### Soft start (R70, R71) -/

/-- R62, R70: the duty at which the port's switch is driven, in sixteenths; 0 with the switch open. -/
def PortUnit.duty (u : PortUnit) : Nat :=
  if u.state = .ramp then u.rampPos + 1 else if u.state.closed then 16 else 0

/-- The time of a step period that begins now (R63, R70). -/
def State.stepTime (s : State) (p : Port) : Nat := ((s.classOf p).map (·.rampFactor)).getD 1 * 1000

/-- R71: a step period ends. -/
def State.stepEnd (p : Port) (s : State) : State :=
  let u := s.ports.get p
  if u.periodHeld then
    let s' := s.modPort p fun u =>
      { u with heldCount := u.heldCount + 1, periodHeld := false, stepTimer := some (s.stepTime p) }
    if 4 ≤ u.heldCount + 1 then s'.trip p .rampStall else s'
  else if 16 ≤ u.rampPos + 1 then
    (s.modPort p fun u =>
      { u with rampPos := 16, heldCount := 0, stepTimer := none, cleanTimer := some Config.cleanRun,
               figures := none }).setPortState p .on
  else s.modPort p fun u =>
    { u with rampPos := u.rampPos + 1, heldCount := 0, stepTimer := some (s.stepTime p) }

/-- STEP_TIMER_EXPIRY: R71, where the timer runs. -/
def State.stepTimerExpiry (p : Port) (s : State) : State :=
  if (s.ports.get p).state = .ramp ∧ (s.ports.get p).stepTimer.isSome = true then s.stepEnd p else s

def execStepTimerExpiry (p : Port) (s : State) : Host.Outcome State Fault Refusal :=
  event (State.stepTimerExpiry p) s

/-! ### Over-draw (R73 to R75) -/

/-- R73: the port power p, in dW. -/
def portPower (busVolts current : Nat) : Nat := busVolts * current / 100000

/-- R73: the tolerance t, in dW. -/
def toleranceOf (grant percent : Nat) : Nat := grant * percent / 100

/-- R74: a port in ON is found over-drawing. -/
def State.overdrawInOn (p : Port) (s : State) : State :=
  let time := ((s.classOf p).map (·.overdrawTime)).getD 0
  if time = 0 then s.trip p .overdraw
  else
    ((s.modPort p fun u => { u with overdrawTimer := some (time * 1000), cleanTimer := none }).setPortState p
      .limit).postGrant p .limit

/-- R75: a port in LIMIT is found within its grant. -/
def State.backToOn (p : Port) (s : State) : State :=
  ((s.modPort p fun u =>
    { u with overdrawTimer := none, cleanTimer := some Config.cleanRun }).setPortState p .on).postGrant p .on

/-- R73 to R75: the over-draw judgement of a scan. -/
def State.judgeOverdraw (p : Port) (s : State) : State :=
  let u := s.ports.get p
  let power := portPower s.busVolts u.current
  let tol := toleranceOf u.grant (((s.classOf p).map (·.tolerance)).getD 0)
  let s' := s.modPort p fun u => { u with figures := some (power, tol) }
  if u.grant + tol < power then
    if u.state = .on then s'.overdrawInOn p else s'
  else
    if u.state = .limit then s'.backToOn p else s'

/-- R70, R73: what a port does with the current of a scan, in the state it is in. -/
def State.scanJudge (p : Port) (s : State) : State :=
  let u := s.ports.get p
  match u.state with
  | .ramp =>
    if ((s.classOf p).map (·.inrush)).getD 0 < u.current then
      s.modPort p fun u => { u with periodHeld := true }
    else s
  | .on => s.judgeOverdraw p
  | .limit => s.judgeOverdraw p
  | _ => s

/-- OVERDRAW_TIMER_EXPIRY: R75, where the timer runs. -/
def State.overdrawTimerExpiry (p : Port) (s : State) : State :=
  if (s.ports.get p).state = .limit ∧ (s.ports.get p).overdrawTimer.isSome = true then s.trip p .overdraw
  else s

def execOverdrawTimerExpiry (p : Port) (s : State) : Host.Outcome State Fault Refusal :=
  event (State.overdrawTimerExpiry p) s

/-! ### Retry and clean run (R78, R79) -/

/-- RETRY_DELAY_EXPIRY: R78, where the timer runs. -/
def State.retryDelayExpiry (p : Port) (s : State) : State :=
  if (s.ports.get p).state = .tripped ∧ (s.ports.get p).retryTimer.isSome = true then
    (((s.modPort p fun u => { u with retryTimer := none }).setPortState p .waiting).makeEntry p .retry
      ((s.ports.get p).retryDraw.getD 0)).evaluate
  else s

def execRetryDelayExpiry (p : Port) (s : State) : Host.Outcome State Fault Refusal :=
  event (State.retryDelayExpiry p) s

/-- CLEAN_RUN_EXPIRY: R79, where the timer runs. -/
def State.cleanRunExpiry (p : Port) (s : State) : State :=
  if (s.ports.get p).state = .on ∧ (s.ports.get p).cleanTimer.isSome = true then
    s.modPort p fun u => { u with cleanTimer := none, retryCount := 0 }
  else s

def execCleanRunExpiry (p : Port) (s : State) : Host.Outcome State Fault Refusal :=
  quietEvent (State.cleanRunExpiry p) s

/-! ### Pause and re-ramp (R13, R15, R80) -/

/-- R80: a port pauses as a changeover begins. -/
def State.pause (p : Port) (s : State) : State :=
  if s.powered p && !s.rideThrough p then
    (((s.setPortState p .paused).modPort p PortUnit.unpowered).removeIncrease p).portLinkDown p
  else s

/-- R13: every port that is not ride-through pauses. -/
def State.pauseAll (s : State) : State := Port.all.foldl (fun s p => s.pause p) s

/-- R15: a port still in PAUSED goes to RAMP and learns its grant. -/
def State.reramp (p : Port) (s : State) : State :=
  if (s.ports.get p).state = .paused then (s.enterRamp p).postGrant p .on else s

/-- R15: every port still in PAUSED. -/
def State.rerampAll (s : State) : State := Port.all.foldl (fun s p => s.reramp p) s

/-! ### Port control (R82 to R84) -/

/-- R82. -/
def State.disable (p : Port) (s : State) : State :=
  if (s.ports.get p).state = .disabled then s
  else ((s.dropPort p).setPortState p .disabled).evaluateIf (decide (p ∈ s.granted))

/-- R83. -/
def State.enable (p : Port) (s : State) : State :=
  let u := s.ports.get p
  if u.state = .disabled then
    match u.stable with
    | .open => s.setPortState p (if u.debounce.isSome then .debounce else .vacant)
    | .attached => s.classify p .attach
  else s

/-- R84: a RESET acts in these states. -/
def PortState.resettable : PortState → Bool
  | .tripped => true
  | .locked => true
  | .denied => true
  | _ => false

/-- R84. -/
def State.resetPort (p : Port) (s : State) : State :=
  (s.modPort p fun u =>
    { u with retryCount := 0, retryTimer := none, lastTrip := none, lockReason := none,
             retryDraw := none }).classify p .reset

end Sys2Proof.Machine
end

