-- ==== Sys2Proof/Machine/Selector.lean ====
section
/-! DEFINITION. Source qualification and the source selector (chapter 1), and the commands of the source timers
and of ECUT. -/

namespace Sys2Proof.Machine

/-- The source is USABLE. -/
def State.usable (s : State) (src : Source) : Bool := decide ((s.supply.get src).qual = .usable)

/-- Section 1.5: whether a source switch is closed. -/
def State.sourceClosed (s : State) (src : Source) : Bool := decide (s.sel.state = .active src)

/-! ### Changeover and auto-return (R13, R17) -/

/-- R13: a changeover begins. -/
def State.beginChangeover (target : Source) (s : State) : State :=
  ((s.modSel fun _ =>
      { state := .changeover target, deadTimer := some (s.tables.selector.deadTime * 10),
        autoTimer := none, change := none }).setOvercommit .clear).pauseAll

/-- R17: the source that auto-return would take the bus back to, while its conditions hold. -/
def State.autoTarget (s : State) : Option Source :=
  match s.sel.state, s.tables.selector.preferred with
  | .active a, some q => if q ≠ a ∧ s.usable q = true then some q else none
  | _, _ => none

/-- R17: the auto-return timer starts; a delay of 0 begins the changeover at once. -/
def State.startAuto (q : Source) (s : State) : State :=
  if s.tables.selector.autoReturn = 0 then s.beginChangeover q
  else s.modSel fun x => { x with autoTimer := some (s.tables.selector.autoReturn * 1000000) }

/-- R17: the auto-return timer after anything its conditions may depend on. -/
def State.judgeAuto (s : State) : State :=
  match s.autoTarget with
  | none => s.modSel fun x => { x with autoTimer := none }
  | some q => if s.sel.autoTimer.isSome then s else s.startAuto q

/-! ### Entering and leaving the source states (R10 to R12, R21) -/

/-- R10: the source that START or NO_SOURCE closes. -/
def State.sourceToClose (s : State) : Option Source :=
  if s.usable .line && s.usable .batt then some (s.tables.selector.preferred.getD .line)
  else if s.usable .line then some .line
  else if s.usable .batt then some .batt
  else none

/-- The selector takes a state. -/
def State.setSel (st : SelState) (s : State) : State := s.modSel fun x => { x with state := st }

/-- R10: START or NO_SOURCE closes a USABLE source. -/
def State.closeUsable (s : State) : State :=
  match s.sel.state, s.sourceToClose with
  | .start, some q => s.setSel (.active q)
  | .noSource, some q => (s.setSel (.active q)).raiseHub .sourceChanged
  | _, _ => s

/-- R11, R12, R21: the selector enters NO_SOURCE or CUT. -/
def State.loseSupply (st : SelState) (s : State) : State :=
  ((s.modSel fun _ => { state := st, deadTimer := none, autoTimer := none, change := none }).zeroBudget).supplyLoss

/-- R11: NO_SOURCE is entered only when neither source is USABLE, so R10 finds nothing to close there. -/
def State.enterNoSource (s : State) : State := (s.loseSupply .noSource).raiseHub .noSource

/-- R21. -/
def State.enterCut (s : State) : State := (s.loseSupply .cut).raiseHub .cut

/-! ### Qualification (R3, R4) -/

/-- R3, R10, R17: a source becomes USABLE. -/
def State.becomeUsable (src : Source) (s : State) : State :=
  ((s.modSource src fun m => { m with qual := .usable, qualifyTimer := none }).closeUsable).judgeAuto

/-- R11: the active source has failed. -/
def State.activeFailed (src : Source) (s : State) : State :=
  if s.usable src.other then s.beginChangeover src.other else s.enterNoSource

/-- R4: a source passes from USABLE to UNUSABLE. -/
def State.sourceFailed (src : Source) (s : State) : State :=
  let s1 := s.modSource src fun m => { m with qual := .unusable, failTimer := none }
  let s2 := State.raiseHub .sourceFailed
    { s1 with counters := { s1.counters with sourceFailures := s1.counters.sourceFailures + 1 } }
  (if s2.sel.state = .active src then s2.activeFailed src else s2).judgeAuto

/-- R3: the qualify condition. -/
def SourceRecord.qualifies (r : SourceRecord) (v : Nat) : Bool :=
  decide (r.cutoff + r.hysteresis ≤ v) && decide (v ≤ r.overVoltage)

/-- R3, R4: a source is judged at a scan completion. -/
def State.scanSource (src : Source) (s : State) : State :=
  let m := s.supply.get src
  let r := s.tables.source.get src
  match m.average with
  | none => s
  | some v =>
    match m.qual with
    | .unusable =>
      if r.qualifies v then
        if r.qualifyTime = 0 then s.becomeUsable src
        else s.modSource src fun m =>
          { m with qual := .qualifying, qualifyTimer := some (r.qualifyTime * 10000) }
      else s
    | .qualifying =>
      if r.qualifies v then s
      else s.modSource src fun m => { m with qual := .unusable, qualifyTimer := none }
    | .usable =>
      if r.overVoltage < v then s.sourceFailed src
      else if v < r.cutoff then
        if m.failTimer.isSome then s
        else if r.failTime = 0 then s.sourceFailed src
        else s.modSource src fun m => { m with failTimer := some (r.failTime * 1000) }
      else s.modSource src fun m => { m with failTimer := none }

/-- QUALIFY_TIMER_EXPIRY: R3, where the timer runs. -/
def State.qualifyTimerExpiry (src : Source) (s : State) : State :=
  if (s.supply.get src).qual = .qualifying ∧ (s.supply.get src).qualifyTimer.isSome = true then
    s.becomeUsable src
  else s

def execQualifyTimerExpiry (src : Source) (s : State) : Host.Outcome State Fault Refusal :=
  event (State.qualifyTimerExpiry src) s

/-- FAIL_TIMER_EXPIRY: R4, where the timer runs. -/
def State.failTimerExpiry (src : Source) (s : State) : State :=
  if (s.supply.get src).qual = .usable ∧ (s.supply.get src).failTimer.isSome = true then s.sourceFailed src
  else s

def execFailTimerExpiry (src : Source) (s : State) : Host.Outcome State Fault Refusal :=
  event (State.failTimerExpiry src) s

/-! ### The end of a changeover (R15, R16) -/

/-- R15: the selector enters a source, the budget is computed, ports are shed at once and paused ports
re-ramp (steps 1 to 4). -/
def State.arrive (src : Source) (s : State) : State :=
  ((s.modSel fun x => { x with state := .active src, deadTimer := none }).computeBudget.shedAtEnd).rerampAll

/-- R15: the changeover is reported and counted (step 5). -/
def State.changeoverDone (s : State) : State :=
  State.raiseHub .sourceChanged
    { s with counters := { s.counters with changeovers := s.counters.changeovers + 1 } }

/-- DEAD_TIME_EXPIRY: R15, R16, where the timer runs. The auto-return timer is judged last (log 12). -/
def State.deadTimeExpiry (s : State) : State :=
  match s.sel.state, s.sel.deadTimer with
  | .changeover target, some _ =>
    if s.usable target then (s.arrive target).changeoverDone.evaluate.judgeAuto
    else if s.usable target.other then
      ((s.arrive target.other).raiseHub .sourceRefused).evaluate.judgeAuto
    else s.enterNoSource.raiseHub .sourceRefused
  | _, _ => s

def execDeadTimeExpiry (s : State) : Host.Outcome State Fault Refusal := event State.deadTimeExpiry s

/-- AUTO_RETURN_EXPIRY: R17, where the timer runs. -/
def State.autoReturnExpiry (s : State) : State :=
  match s.sel.autoTimer, s.autoTarget with
  | some _, some q => s.beginChangeover q
  | _, _ => s

def execAutoReturnExpiry (s : State) : Host.Outcome State Fault Refusal := event State.autoReturnExpiry s

/-! ### The pending change (R20) -/

/-- R20: the frame distance of a frame number. -/
def State.frameDistance (s : State) (frame : Byte) : Nat := (frame - s.timing.counter).toNat

/-- R20: a pending change becomes due. -/
def State.changeDue (c : PendingChange) (s : State) : State :=
  let s' := s.modSel fun x => { x with change := none }
  if s'.usable c.target then
    match s'.sel.state with
    | .active a => if a = c.target then s' else s'.beginChangeover c.target
    | _ => s'
  else s'.raiseHub .sourceRefused

/-- R20: the pending change is judged by its frame distance. -/
def State.judgeChange (s : State) : State :=
  match s.sel.change with
  | none => s
  | some c =>
    if 1 ≤ s.frameDistance c.frame ∧ s.frameDistance c.frame ≤ 127 then s else s.changeDue c

/-! ### The emergency cut (R21, R22) -/

/-- ECUT_ASSERT: R21. While RESET is asserted only the pin changes (log 5). -/
def execEcutAssert (s : State) : Host.Outcome State Fault Refusal :=
  event State.enterCut { s with ecutPin := true }

/-- R22: CUT passes to START, where R10 is judged. -/
def State.leaveCut (s : State) : State :=
  if s.sel.state = .cut then ((s.setSel .start).closeUsable).judgeAuto else s

/-- ECUT_RELEASE: R22. -/
def execEcutRelease (s : State) : Host.Outcome State Fault Refusal :=
  event State.leaveCut { s with ecutPin := false }

end Sys2Proof.Machine
end

