-- ==== Sys2Proof/Machine/Resets.lean ====
section
/-! DEFINITION. The resets of the whole hub (R8, R151): power-on, the RESET input, and the effect a FULL RESET has
when its response is gone. -/

namespace Sys2Proof.Machine

/-- R8, R151: every block takes its reset values. Where RESET is not asserted the reset ends at once, and
with ECUT asserted the selector passes to CUT. -/
def State.hubReset (s : State) : State :=
  let r := State.afterReset s.pending s.now s.draws s.resetPin s.ecutPin
  if s.resetPin = false ∧ s.ecutPin = true then r.enterCut else r

/-- POWER_ON_RESET: R8. -/
def execPowerOnReset (s : State) : Host.Outcome State Fault Refusal := .next s.hubReset

/-- RESET_ASSERT: R151. -/
def execResetAssert (s : State) : Host.Outcome State Fault Refusal :=
  .next { s with resetPin := true }.hubReset

/-- RESET_RELEASE: R151. The reset ends, and what runs from the end of a reset runs from now. -/
def execResetRelease (s : State) : Host.Outcome State Fault Refusal :=
  .next (if s.resetPin then { s with resetPin := false }.hubReset else s)

end Sys2Proof.Machine
end

