-- ==== Sys2Proof/Machine/Routing.lean ====
section
/-! DEFINITION. The route unit (chapter 6) and the buffer manager's hand-off of a message (R114, R115, R137, R138). -/

namespace Sys2Proof.Machine

/-! ### Lookup (R105 to R108) -/

/-- R105: an entry's ingress describes a link. -/
def RouteIngress.describes : RouteIngress → Dest → Bool
  | .upstream, .u => true
  | .port q, .port p => decide (q = p)
  | .anyPort, .port _ => true
  | _, _ => false

/-- R105: an entry matches a message from a link. -/
def RouteEntry.matches (e : RouteEntry) (ingress : Dest) (channel : Byte) : Bool :=
  e.valid && e.ingress.describes ingress && decide (e.low ≤ channel.toNat) && decide (channel.toNat ≤ e.high)

/-- R105: the first entry in index order that matches. -/
def lookup (table : List RouteEntry) (ingress : Dest) (channel : Byte) : Option RouteEntry :=
  table.find? fun e => e.matches ingress channel

/-- What the route unit decides about a message: the destinations, and what R109 reads of the placement. -/
structure Decision where
  dests : List Dest
  cls : QueueClass
  late : LateAction
  align : Bool
deriving DecidableEq, Repr

/-- R106, R107: the decision for a directed or a default message, whose class follows its URGENT flag. -/
def Decision.plain (d : Dest) (urgent : Bool) : Decision :=
  { dests := [d], cls := if urgent then .urgent else .bulk, late := .send, align := false }

/-- R108: the decision of a matching entry, none when it drops the message or leaves no destination. -/
def RouteEntry.decision (e : RouteEntry) (ingress : Dest) : Option Decision :=
  match e.action with
  | .drop => none
  | .forward =>
    let dests := Dest.all.filter fun d => e.dests.get d && decide (d ≠ ingress)
    if dests = [] then none else some { dests := dests, cls := e.cls, late := e.late, align := e.align }

/-- Section 6.2: the routed handling of a message. -/
def State.routed (s : State) (ingress : Dest) (m : Message) : Option Decision :=
  match lookup s.tables.route ingress m.channel with
  | some e => e.decision ingress
  | none =>
    match ingress with
    | .u => none
    | .port _ => some (Decision.plain .u m.urgent)

/-- Section 6.2, R106: what the route unit decides, none for a message it drops. -/
def State.route (s : State) (ingress : Dest) (m : Message) : Option Decision :=
  match ingress, Port.ofNumber m.portField with
  | .u, some p => some (Decision.plain (.port p) m.urgent)
  | _, _ => s.routed ingress m

/-! ### Placement (R109, R110, R115, R137, R138) -/

/-- A placement at one destination (section 6.5). -/
inductive Placement where
  | queued (c : QueueClass)
  | framed (target : Byte) (late : LateAction)
deriving DecidableEq, Repr

/-- R110: the target frame of an aligned placement. -/
def State.alignedTarget (s : State) (d : Dest) : Byte :=
  if (s.phases.get d).released then s.timing.counter + 1 else s.timing.counter

/-- R109: the placement at a destination. -/
def State.placement (s : State) (m : Message) (x : Decision) (d : Dest) : Placement :=
  if m.timed then .framed m.target x.late
  else if x.align then .framed (s.alignedTarget d) x.late
  else .queued x.cls

/-- R115: an entry joins a queue of a destination and takes a reference, or finds it full. -/
def State.joinQueue (d : Dest) (c : QueueClass) (e : QEntry) (s : State) : State :=
  match c with
  | .urgent =>
    if (s.queues.get d).urgent.length < Config.queueSize then
      (s.modQueues d fun q => { q with urgent := q.urgent ++ [e] }).addRef e.slot
    else s.countEndpoint d EndpointCounters.addQueueFull
  | .bulk =>
    if (s.queues.get d).bulk.length < Config.queueSize then
      (s.modQueues d fun q => { q with bulk := q.bulk ++ [e] }).addRef e.slot
    else s.countEndpoint d EndpointCounters.addQueueFull

/-- R137: a held entry joins the timed list and takes a reference, or finds it full. -/
def State.joinTimed (d : Dest) (e : TimedEntry) (s : State) : State :=
  if (s.queues.get d).timed.length < Config.timedSize then
    (s.modQueues d fun q => { q with timed := q.timed ++ [e] }).addRef e.slot
  else s.countEndpoint d EndpointCounters.addQueueFull

/-- R138: a late message. -/
def State.placeLate (d : Dest) (slot : Nat) (late : LateAction) (s : State) : State :=
  match late with
  | .send => s.joinQueue d .urgent ⟨slot, true⟩
  | .drop => s.countEndpoint d EndpointCounters.addLateDrop

/-- R137: a target frame is late at a destination. -/
def State.isLate (s : State) (d : Dest) (target : Byte) : Bool :=
  let dist := (target - s.timing.counter).toNat
  decide (128 ≤ dist) || (decide (dist = 0) && (s.phases.get d).released)

/-- R115: one placement. -/
def State.place (slot : Nat) (d : Dest) (p : Placement) (s : State) : State :=
  match p with
  | .queued c => s.joinQueue d c ⟨slot, false⟩
  | .framed target late =>
    if s.isLate d target then s.placeLate d slot late else s.joinTimed d ⟨slot, target, late⟩

/-! ### The hand-off (R114) -/

/-- R114, stage 1: destinations whose link is DOWN are counted. -/
def State.countDown (ds : List Dest) (s : State) : State :=
  ds.foldl (fun s d => s.countEndpoint d (EndpointCounters.addLinkDown 1)) s

/-- R114, stage 2, R120: nothing can be taken. -/
def State.noBuffer (ingress : Dest) (s : State) : State :=
  let s' := s.countEndpoint ingress EndpointCounters.addNoBuffer
  if s'.held then s' else s'.enterHeld

/-- R114, stage 2, R120: a record is filled in a slot with no reference yet. -/
def State.take (slot : Nat) (ingress : Dest) (m : Message) (s : State) : State :=
  { s with records := s.records.set slot (some ⟨m, ingress, 0⟩) }.judgeTake

/-- R114, stage 3: every destination receives its placement, and a record left without a reference is freed. -/
def State.placeAll (slot : Nat) (m : Message) (x : Decision) (ds : List Dest) (s : State) : State :=
  (ds.foldl (fun s d => s.place slot d (s.placement m x d)) s).freeIfUnused slot

/-- R114: the take and the placements at destinations whose links are not DOWN. -/
def State.takeAndPlace (ingress : Dest) (m : Message) (x : Decision) (ds : List Dest) (s : State) : State :=
  if ds = [] then s
  else
    match s.freeSlot with
    | none => s.noBuffer ingress
    | some slot =>
      if s.freeCells < cellsFor m.payload.length then s.noBuffer ingress
      else (s.take slot ingress m).placeAll slot m x ds

/-- R114: a message and its delivery list are handed to the buffer manager. -/
def State.handOff (ingress : Dest) (m : Message) (x : Decision) (s : State) : State :=
  (s.countDown (x.dests.filter fun d => decide (s.linkState d = .down))).takeAndPlace ingress m x
    (x.dests.filter fun d => decide (s.linkState d ≠ .down))

/-- R105 to R111: a DATA message reaches the route unit. A message that it drops is counted at its ingress. -/
def State.routeData (ingress : Dest) (m : Message) (s : State) : State :=
  match s.route ingress m with
  | none => s.countEndpoint ingress EndpointCounters.addMalformed
  | some x => s.handOff ingress m x

end Sys2Proof.Machine
end

