-- ==== Sys2Proof/Machine/Links.lean ====
section
/-! DEFINITION. The link interfaces (chapter 5): receptions, completions, the line of U, and the commands
FRAME_RECEPTION, TRANSMISSION_COMPLETE, U_LINE_SILENT, U_LINE_ACTIVE and STRAY_START_DELIMITER. -/

namespace Sys2Proof.Machine

/-! ### Reception (R86, R88, R89, R91, R96, R143) -/

/-- R143: a request joins the input queue, or is discarded at a full one. -/
def State.requestArrives (r : Request) (s : State) : State :=
  if s.mgmt.input.length < Config.inputSize then s.modMgmt fun m => { m with input := m.input ++ [r] }
  else
    State.raiseHub .mgmtOverrun { s with counters := { s.counters with overruns := s.counters.overruns + 1 } }

/-- R96: the received-hold of a link. -/
def State.setReceivedHold (d : Dest) (b : Bool) (s : State) : State :=
  s.modLink d fun l => { l with receivedHold := b }

/-- R89: a good message is handed on. The remaining kinds never arrive good. -/
def State.handOn (link : Dest) (k : MsgKind) (m : Message) (s : State) : State :=
  match k, link with
  | .data, _ => s.routeData link m
  | .demand, .port p => s.demand p (wordAt m.payload 0)
  | .hold, _ => s.setReceivedHold link true
  | .resume, _ => s.setReceivedHold link false
  | .request, .u => s.requestArrives ⟨m.channel, m.payload⟩
  | _, _ => s

/-- R91: the first good reception in WAIT brings the link UP. -/
def State.wake (link : Dest) (s : State) : State :=
  if s.linkState link = .wait then s.linkUp link else s

/-- R88: the outcome of a judged frame. -/
def State.receive (link : Dest) (v : Verdict) (s : State) : State :=
  match v with
  | .malformed => s.countEndpoint link EndpointCounters.addMalformed
  | .checkError => s.countEndpoint link EndpointCounters.addCheckError
  | .good k m => ((s.countEndpoint link EndpointCounters.addGood).wake link).handOn link k m

/-- The link is DOWN and entered DOWN at this very moment (log 34). -/
def State.downNow (s : State) (link : Dest) : Bool :=
  decide ((s.links.get link).state = .down) && decide ((s.links.get link).downAt = some s.now)

/-- R53: a good DEMAND whose reception falls together with its port's leaving the powered states, the leaving taken
first. It is received good, and the admission unit drops and counts it (R89). No other frame is judged (R92). -/
def State.demandAtLeaving (link : Dest) (v : Verdict) (s : State) : State :=
  match v, link with
  | .good .demand m, .port p =>
    if s.downNow link then (s.countEndpoint link EndpointCounters.addGood).demand p (wordAt m.payload 0) else s
  | _, _ => s

/-- R88, R92: a frame whose end delimiter has come. On a link that is DOWN it is discarded, but for the DEMAND
of R53. -/
def State.frameReception (link : Dest) (bytes : List Byte) (s : State) : State :=
  if s.linkState link = .down then s.demandAtLeaving link (judgeFrame link bytes)
  else s.receive link (judgeFrame link bytes)

/-- FRAME_RECEPTION. -/
def execFrameReception (link : Dest) (bytes : List Byte) (s : State) : Host.Outcome State Fault Refusal :=
  event (State.frameReception link bytes) s

/-- R86: a start delimiter inside a frame; the frame in progress is malformed. -/
def State.strayStart (link : Dest) (s : State) : State :=
  if s.linkState link = .down then s else s.countEndpoint link EndpointCounters.addMalformed

/-- STRAY_START_DELIMITER. -/
def execStrayStartDelimiter (link : Dest) (s : State) : Host.Outcome State Fault Refusal :=
  quietEvent (State.strayStart link) s

/-! ### The end of a transmission (R100, R151, R157) -/

/-- R151: a transmission is the response that a FULL RESET in hand waits for. -/
def TxKind.endsFullReset (k : TxKind) (h : InHand) : Bool :=
  match k, h with
  | .response code payload _, .fullReset => decide (code = 49) && decide (payload = Status.ok.bytes)
  | _, _ => false

/-- R100: what the completion of a message of a kind does. -/
def State.completed (k : TxKind) (s : State) : State :=
  match k with
  | .data slot => s.releaseRef slot
  | .notice r => s.reportComplete r
  | .response _ _ r =>
    let s' := match r with
      | some r => s.reportComplete r
      | none => s
    if k.endsFullReset s.mgmt.inHand then s'.hubReset else s'
  | _ => s

/-- R100: the transmission in progress on a link completes. -/
def State.transmissionComplete (link : Dest) (s : State) : State :=
  match (s.links.get link).tx with
  | none => s
  | some t =>
    ((s.modLink link fun l => { l with tx := none }).countEndpoint link
      EndpointCounters.addTransmitted).completed t.kind

/-- TRANSMISSION_COMPLETE: where a transmission is in progress (log 4). -/
def execTransmissionComplete (link : Dest) (s : State) : Host.Outcome State Fault Refusal :=
  event (State.transmissionComplete link) s

/-! ### The line of U (R94, R95) -/

/-- A lane message in transmission, which a cut at U's passage to DOWN counts (R95). -/
def TxKind.isLane : TxKind → Bool
  | .response _ _ _ => true
  | .notice _ => true
  | _ => false

/-- A NOTICE in transmission. -/
def TxKind.isNotice : TxKind → Bool
  | .notice _ => true
  | _ => false

/-- A transmission in progress on U of a kind that a predicate names. -/
def State.uSends (s : State) (f : TxKind → Bool) : Bool := (s.links.get .u).tx.any fun t => f t.kind

/-- A NOTICE is in the lane or in transmission. -/
def State.noticeInFlight (s : State) : Bool := s.noticeWaits || s.uSends TxKind.isNotice

/-- R149: the responses of a dump in hand that are still to be placed. -/
def InHand.left : InHand → Nat
  | .dump left => left.length
  | _ => 0

/-- R95, R149: the lane messages lost as U goes DOWN: those in the lane, one in transmission, and those that
a dump in hand would still have placed. -/
def State.laneLosses (s : State) : Nat :=
  s.mgmt.lane.length + bit (s.uSends TxKind.isLane) 1 + s.mgmt.inHand.left

/-- R95, R149: the lane is emptied and a dump in hand ends. -/
def Mgmt.dropLane (m : Mgmt) : Mgmt :=
  { m with lane := [], inHand := match m.inHand with
      | .fullReset => .fullReset
      | _ => .nothing }

/-- R95: U enters DOWN. A FULL RESET in hand takes effect, its response being lost. -/
def State.uDown (s : State) : State :=
  let s1 := (((s.countEndpoint .u (EndpointCounters.addLinkDown s.laneLosses)).modMgmt
    Mgmt.dropLane).flushLink .u)
  let s2 := if s.noticeInFlight then s1.noticeLost else s1
  if s.mgmt.inHand = .fullReset then s2.hubReset else s2

/-- U_LINE_SILENT: R94, R95. -/
def execULineSilent (s : State) : Host.Outcome State Fault Refusal :=
  event (fun s => if s.linkState .u = .down then s else s.uDown) s

/-- U_LINE_ACTIVE: R94, R120. -/
def execULineActive (s : State) : Host.Outcome State Fault Refusal :=
  event (fun s => if s.linkState .u = .down then s.linkUp .u else s) s

end Sys2Proof.Machine
end

