-- ==== Sys2Proof/Machine/Timing.lean ====
section
/-! DEFINITION. The frame timing unit (chapter 8): phase releases, frame boundaries, the measuring of FSYNC and the
windows, and the commands PHASE_RELEASE, FRAME_BOUNDARY, FSYNC_EDGE and WINDOW_CLOSE_NO_EDGE. -/

namespace Sys2Proof.Machine

/-! ### Phase releases (R135, R136) -/

/-- R136: the mark interval of a destination has elapsed. -/
def State.markDue (s : State) (d : Dest) : Bool :=
  decide (s.tables.timing.markInterval.get d ≠ 0) &&
    decide (s.tables.timing.markInterval.get d ≤ (s.phases.get d).markCount)

/-- R136: a MARK is posted if the interval has elapsed, and the posting resets the count. -/
def State.releaseMark (d : Dest) (s : State) : State :=
  if s.markDue d then
    (s.postMark ⟨s.timing.counter, s.timing.sync⟩ d).modPhase d fun x => { x with markCount := 0 }
  else s

/-- R135: one entry of the timed list moves to the tail of the urgent queue, or finds it full. -/
def State.releaseEntry (d : Dest) (s : State) (e : TimedEntry) : State :=
  if (s.queues.get d).urgent.length < Config.queueSize then
    s.modQueues d fun q => { q with urgent := q.urgent ++ [⟨e.slot, false⟩] }
  else (s.countEndpoint d EndpointCounters.addQueueFull).releaseRef e.slot

/-- R135: the entries whose target frame is the current one leave the timed list in order. -/
def State.releaseTimed (d : Dest) (s : State) : State :=
  ((s.queues.get d).timed.filter fun e => decide (e.target = s.timing.counter)).foldl
    (State.releaseEntry d)
    (s.modQueues d fun q => { q with timed := q.timed.filter fun e => decide (e.target ≠ s.timing.counter) })

/-- R135: the release of a destination. -/
def State.releaseDest (d : Dest) (s : State) : State :=
  ((s.releaseMark d).releaseTimed d).modPhase d fun x => { x with released := true }

/-- A release of a destination that has not been released in the current frame. -/
def State.releaseUnreleased (s : State) (d : Dest) : State :=
  if (s.phases.get d).released then s else s.releaseDest d

/-- PHASE_RELEASE: R135. Each destination is released once in a frame (R127). -/
def execPhaseRelease (d : Dest) (s : State) : Host.Outcome State Fault Refusal :=
  event (fun s => s.releaseUnreleased d) s

/-! ### Frame boundaries (R127, R134) -/

/-- R134: the time from a boundary to a destination's release, from its active phase and the period in use. -/
def releaseDelay (phase period : Nat) : Nat := min phase (period - 1)

/-- R127, steps 3 to 6, R134, R136: a destination's part of a boundary at a time. -/
def Phase.newFrame (copy : Bool) (t period : Nat) (x : Phase) : Phase :=
  let active := if copy then x.shadow else x.active
  { active := active, shadow := x.shadow, released := false, releaseAt := t + releaseDelay active period,
    markCount := min (x.markCount + 1) 15 }

/-- R127, steps 2 to 6: the frame begins at a time, and the next boundary is predicted. -/
def State.beginFrame (t : Nat) (s : State) : State :=
  { s with
    phases := PerDest.ofFn fun d =>
      (s.phases.get d).newFrame s.timing.shadowWritten t s.timing.period
    timing := { s.timing with
      lastBoundary := t, nextBoundary := t + s.timing.period, counter := s.timing.counter + 1,
      shadowWritten := false } }

/-- R127, step 6: a destination whose release time is the boundary itself. -/
def State.releaseAtBoundary (t : Nat) (s : State) (d : Dest) : State :=
  if (s.phases.get d).releaseAt = t then s.releaseUnreleased d else s

/-- R127: a frame boundary at a time, catch-up releases first. The selector judges its pending change last. -/
def State.boundaryAt (t : Nat) (s : State) : State :=
  (Dest.all.foldl (State.releaseAtBoundary t)
    ((Dest.all.foldl State.releaseUnreleased s).beginFrame t)).judgeChange

/-- FRAME_BOUNDARY: R126. It happens at its predicted time (log 28). -/
def execFrameBoundary (s : State) : Host.Outcome State Fault Refusal :=
  event (fun s => s.boundaryAt s.timing.nextBoundary) s

/-! ### Windows (R131) -/

/-- R131: the window opens once its start is reached, with the tolerance that stands then (R125). -/
def Window.openAt (now tolerance : Nat) (w : Window) : Window :=
  if w.tol = none ∧ w.tp ≤ now + tolerance then { w with tol := some tolerance } else w

/-- R131: the awaited window opens if it is due. -/
def State.openWindow (s : State) : State :=
  s.modTiming fun t => { t with window := t.window.map (Window.openAt s.now s.tables.timing.tolerance) }

/-- R131: the window is open at a time. -/
def Window.isOpen (now : Nat) (w : Window) : Bool := w.tol.any fun t => decide (now ≤ w.tp + t)

/-! ### Measuring FSYNC (R128 to R133) -/

/-- How far two periods lie apart. -/
def distance (a b : Nat) : Nat := (a - b) + (b - a)

/-- R129, R131: a period lies in the lock window. -/
def TimingRecord.inLockWindow (r : TimingRecord) (period : Nat) : Bool :=
  decide (r.windowMin ≤ period) && decide (period ≤ r.windowMax)

/-- The time from the previous edge, 0 with no previous edge. -/
def State.measured (s : State) : Nat := s.now - s.timing.lastEdge.getD s.now

/-- R128, R132, R133: an acquisition begins at this edge. -/
def State.beginAcquiring (s : State) : State :=
  s.modTiming fun t =>
    { t with sync := .acquiring, lastEdge := some s.now, prevPeriod := none, consistent := 0, holdover := 0,
             window := none }

/-- R132, R133: a loss of lock is reported and counted. -/
def State.syncLost (s : State) : State :=
  State.raiseHub .syncLost { s with counters := { s.counters with syncLosses := s.counters.syncLosses + 1 } }

/-- The timer is re-anchored at this edge, whose period in use stands, and its window is awaited
(R130, R131). -/
def State.anchor (s : State) : State :=
  s.modTiming fun t =>
    { t with nextBoundary := s.now + t.period, lastEdge := some s.now,
             window := some ⟨s.now + t.period, none⟩ }

/-- R130: the fourth consistent period brings the lock. -/
def State.lock (period : Nat) (s : State) : State :=
  let s' := s.modTiming fun t =>
    { t with sync := .locked, period := period, accepted := true, prevPeriod := some period, consistent := 4 }
  ((if s.now - s.timing.lastBoundary < s.tables.timing.tolerance then s'
    else s'.boundaryAt s.now).anchor).raiseHub .syncLocked

/-- R129: the period that an edge measures in ACQUIRING is consistent. -/
def State.periodConsistent (s : State) : Bool :=
  s.tables.timing.inLockWindow s.measured &&
    s.timing.prevPeriod.all fun q => decide (distance s.measured q ≤ s.tables.timing.tolerance)

/-- R129: an edge in ACQUIRING. -/
def State.acquireEdge (s : State) : State :=
  if s.periodConsistent then
    if 4 ≤ s.timing.consistent + 1 then s.lock s.measured
    else s.modTiming fun t =>
      { t with lastEdge := some s.now, prevPeriod := some s.measured, consistent := t.consistent + 1 }
  else s.beginAcquiring

/-- R131: the measured period replaces the period in use when they agree. -/
def State.acceptPeriod (s : State) : State :=
  if distance s.measured s.timing.period ≤ s.tables.timing.tolerance ∧
      s.tables.timing.inLockWindow s.measured = true then
    s.modTiming fun t => { t with period := s.measured, accepted := true }
  else s

/-- R131: an edge in the open window of a predicted boundary. The boundary happens at the edge if it has not
happened yet. The measured period is accepted first, so that the release times of the frame that begins here are
clamped by it (R134); the bullets of R131 give no order, and this one is the model's (log 36). -/
def State.confirmEdge (w : Window) (s : State) : State :=
  let s' := s.acceptPeriod
  (if s'.timing.nextBoundary = w.tp then s'.boundaryAt s.now else s').anchor

/-- R133: an edge in an open window ends HOLDOVER. -/
def State.relock (w : Window) (s : State) : State :=
  ((s.modTiming fun t => { t with sync := .locked, holdover := 0 }).confirmEdge w).raiseHub .syncLocked

/-- R128 to R133: an FSYNC edge in each timing state. -/
def State.fsyncEdge (s : State) : State :=
  let s := s.openWindow
  match s.timing.sync, s.timing.window.filter (Window.isOpen s.now) with
  | .unlocked, _ => s.beginAcquiring
  | .acquiring, _ => s.acquireEdge
  | .locked, some w => s.confirmEdge w
  | .locked, none => s.beginAcquiring.syncLost
  | .holdover, some w => s.relock w
  | .holdover, none => s.beginAcquiring

/-- FSYNC_EDGE. -/
def execFsyncEdge (s : State) : Host.Outcome State Fault Refusal := event State.fsyncEdge s

/-- R132, R133: the window closes with no edge, and that of the next predicted boundary is awaited. -/
def State.windowClose (s : State) : State :=
  match s.timing.window, s.timing.sync with
  | some _, .locked =>
    (s.modTiming fun t =>
      { t with sync := .holdover, holdover := 1, window := some ⟨t.nextBoundary, none⟩ }).syncLost
  | some _, .holdover =>
    if Config.holdoverLimit ≤ s.timing.holdover + 1 then
      (s.modTiming fun t => { t with sync := .unlocked, holdover := 0, window := none }).syncLost
    else s.modTiming fun t =>
      { t with holdover := t.holdover + 1, window := some ⟨t.nextBoundary, none⟩ }
  | _, _ => s

/-- WINDOW_CLOSE_NO_EDGE: where a window is awaited or open (log 4). -/
def execWindowCloseNoEdge (s : State) : Host.Outcome State Fault Refusal := event State.windowClose s

end Sys2Proof.Machine
end

