-- ==== Sys2Proof/Machine/Reports.lean ====
section
/-! DEFINITION. What the read requests return (R148, R154): the layouts of READ STATUS, READ PORT and READ TABLE. -/

namespace Sys2Proof.Machine

/-! ### Codes -/

/-- The code of a selector state (R154). -/
def SelState.code : SelState → Nat
  | .start => 0
  | .active .line => 1
  | .active .batt => 2
  | .changeover _ => 3
  | .noSource => 4
  | .cut => 5

/-- The changeover target, NONE outside CHANGEOVER (R154). -/
def SelState.target : SelState → Option Source
  | .changeover t => some t
  | _ => none

def Qual.code : Qual → Nat
  | .unusable => 0
  | .qualifying => 1
  | .usable => 2

def Overcommit.code : Overcommit → Nat
  | .clear => 0
  | .timing => 1
  | .unresolved => 2

def PortState.code : PortState → Nat
  | .vacant => 0 | .debounce => 1 | .waiting => 2 | .ramp => 3 | .on => 4 | .limit => 5
  | .paused => 6 | .tripped => 7 | .locked => 8 | .denied => 9 | .disabled => 10

def LinkState.code : LinkState → Nat
  | .down => 0
  | .wait => 1
  | .up => 2

def Reason.code : Reason → Nat
  | .attach => 1 | .increase => 2 | .shed => 3 | .supply => 4 | .retry => 5 | .reset => 6

def TripReason.code : TripReason → Nat
  | .short => 1
  | .overdraw => 2
  | .rampStall => 3

/-! ### Free values of a response (log 14 to 17) -/

/-- Log 15, log 35: a field that is absent or that the layouts assign to nothing. -/
def State.absent (s : State) (f : AbsentField) : Nat := Config.absentField f s.draws

/-- A remaining time in whole units of some µs; 65,535 for an idle timer. The k-th rounding of a response is
a free value (log 14). -/
def State.remaining (s : State) (k unit : Nat) (timer : Option Nat) : Nat :=
  match timer with
  | none => 65535
  | some t =>
    if t % unit ≠ 0 ∧ Config.remainingRoundsUp (3 * s.draws + k) = true then t / unit + 1 else t / unit

/-! ### READ STATUS -/

/-- Two fields of four bits in a byte, the first in the high bits. -/
def nibbles : List Nat → List Byte
  | a :: b :: rest => byte (a * 16 + b) :: nibbles rest
  | _ => []

/-- Four fields of two bits in a byte, the first in the high bits. -/
def quarters : List Nat → List Byte
  | a :: b :: c :: d :: rest => byte (a * 64 + b * 16 + c * 4 + d) :: quarters rest
  | _ => []

/-- A signed number as two bytes in two's complement. -/
def signed16 (i : Int) : List Byte := be16 (BitVec.ofInt 16 i).toNat

/-- Offset 2: the selector, and the pending change. Bit 7 is assigned to nothing (log 35). -/
def State.selectorByte (s : State) : Byte :=
  byte (s.sel.state.code + sourceCode s.sel.state.target * 8 + bit s.sel.change.isSome 32 +
    (match s.sel.change with
      | some c => bit (decide (c.target = .batt)) 64
      | none => s.absent .changeTarget % 2 * 64) + s.absent .selectorBit % 2 * 128)

/-- Offset 3: the frame of the pending change. -/
def State.changeByte (s : State) : Byte :=
  match s.sel.change with
  | some c => c.frame
  | none => byte (s.absent .changeFrame)

/-- Offsets 0 to 4. Bit 7 of offset 1 is assigned to nothing (log 35). -/
def State.statusGate (s : State) : List Byte :=
  [byte Status.ok.code,
   byte (bit s.mgmt.operational 1 + bit s.mgmt.lineMark 2 + bit s.mgmt.battMark 4 + bit s.mgmt.budgetMark 8 +
     bit s.inForce 16 + bit s.timing.shadowWritten 32 + bit (s.phases.get .u).released 64 +
     s.absent .gateBit % 2 * 128),
   s.selectorByte, s.changeByte,
   byte (s.supply.line.qual.code + s.supply.batt.qual.code * 4 + s.budget.overcommit.code * 16 +
     bit s.held 64 + bit (s.links.get .u).receivedHold 128)]

/-- Offsets 5 to 25. -/
def State.statusPower (s : State) : List Byte :=
  be16 s.budget.d10 ++ be16 s.budget.cr ++ be16 s.budget.ci ++ be16 s.budget.c ++ be16 s.budget.b
    ++ be16 s.grantedSum ++ signed16 s.free ++ [byte (s.admission.length * 16 + s.granted.length)]
    ++ nibbles (s.ports.toList.map fun u => u.state.code)
    ++ quarters (s.links.ports.toList.map fun l => l.state.code)

/-- Offsets 26 to 37. -/
def State.statusPool (s : State) : List Byte :=
  [byte s.freeCells, byte s.freeRecords, byte s.tables.holdLevel]
    ++ nibbles (s.queues.toList.flatMap fun q => [q.urgent.length, q.bulk.length])

/-- Offsets 38 to 47. Bit 3 of offset 44 is assigned to nothing (log 35). -/
def State.statusFrame (s : State) : List Byte :=
  [byte (s.timing.sync.code * 64 + s.timing.holdover), s.timing.counter] ++ be16 s.timing.period
    ++ be16 (s.phases.get .u).active
    ++ [byte ((s.phases.get .u).markCount * 16 + (s.queues.get .u).timed.length + s.absent .timedBit % 2 * 8)]
    ++ be16 (hubWord s.events.report.hub) ++ [byte (markByte s.events.report.ports)]

/-- R148, R154: the READ STATUS response. -/
def State.statusBytes (s : State) : List Byte :=
  s.statusGate ++ s.statusPower ++ s.statusPool ++ s.statusFrame

/-! ### READ PORT -/

/-- The place of a thing on a list, 0 when it is absent. -/
def placeOf {α : Type} (f : α → Bool) (l : List α) : Nat :=
  match l.findIdx? f with
  | some i => i + 1
  | none => 0

/-- Offsets 0 to 4. -/
def State.portHead (s : State) (p : Port) : List Byte :=
  let u := s.ports.get p
  [byte Status.ok.code, byte p.number,
   byte (u.state.code + bit u.state.closed 16 + bit (decide (u.stable = .attached)) 32 +
     bit (decide (u.present = .attached)) 64 + bit u.debounce.isSome 128)] ++ be16 u.sense

/-- Offset 5. -/
def State.classByte (s : State) (p : Port) : Byte :=
  byte ((match (s.ports.get p).eff with
      | some e => e.cls.number + 8 + bit e.fixed 16
      | none => s.absent .classNumber % 8 + s.absent .classFixed % 2 * 16) +
    (match s.priority? p with
      | some n => n * 32 + 128
      | none => s.absent .priority % 4 * 32))

/-- Offsets 6 to 24. -/
def State.portAdmission (s : State) (p : Port) : List Byte :=
  let e := s.entryOf p
  be16 (s.ports.get p).grant
    ++ [byte (placeOf (fun q => decide (q = p)) s.granted),
        byte ((e.map fun e => e.reason.code).getD 0)]
    ++ be16 ((e.map (·.draw)).getD (s.absent .entryDraw))
    ++ [byte (placeOf (fun e => decide (e.port = p)) s.admission)]
    ++ be16 (s.remaining 0 100000 (e.bind (·.wait))) ++ be16 (s.remaining 1 100000 (e.bind (·.holdOff)))
    ++ be32 (s.counters.port.get p).grants.toNat ++ be32 (s.counters.port.get p).sheds.toNat

/-- p and t of the latest scan, 0 outside ON and LIMIT (log 16). -/
def State.portFigures (s : State) (p : Port) : Nat × Nat :=
  let u := s.ports.get p
  if u.state = .on ∨ u.state = .limit then
    u.figures.getD (Config.unjudgedPower s.draws, Config.unjudgedTolerance s.draws)
  else (0, 0)

/-- The timer that offset 35 reports in each state. -/
def PortUnit.reportedTimer (u : PortUnit) : Option Nat :=
  match u.state with
  | .limit => u.overdrawTimer
  | .tripped => u.retryTimer
  | .on => u.cleanTimer
  | _ => none

/-- Offsets 25 to 36. -/
def State.portPower (s : State) (p : Port) : List Byte :=
  let u := s.ports.get p
  be16 u.current ++ be16 (s.portFigures p).1 ++ be16 (s.portFigures p).2
    ++ [byte (u.rampPos + u.heldCount * 32),
        byte (u.retryCount + ((u.lastTrip.map TripReason.code).getD 0) * 32 +
          (if u.state = .locked then bit (decide (u.lockReason = some .senseShort)) 128
            else s.absent .lockReason % 2 * 128))]
    ++ be16 (u.retryDraw.getD (s.absent .retryDraw)) ++ be16 (s.remaining 2 1000 u.reportedTimer)

/-- Offsets 37 to 41. Bit 3 of offset 39 is assigned to nothing (log 35). -/
def State.portLink (s : State) (p : Port) : List Byte :=
  let l := s.links.get (.port p)
  let q := s.queues.get (.port p)
  let x := s.phases.get (.port p)
  [byte (l.state.code + bit l.receivedHold 4 + bit (s.grantSlots.get p).isSome 8 + bit l.markSlot.isSome 16 +
     bit l.flowSlot.isSome 32 + bit l.tx.isSome 64 + bit x.released 128),
   byte (q.urgent.length * 16 + q.bulk.length), byte (x.markCount * 16 + q.timed.length + s.absent .portTimedBit % 2 * 8)]
    ++ be16 x.active

/-- R148, R154: the READ PORT response. -/
def State.portBytes (s : State) (p : Port) : List Byte :=
  s.portHead p ++ [s.classByte p] ++ s.portAdmission p ++ s.portPower p ++ s.portLink p

/-! ### READ TABLE -/

/-- A record that READ TABLE can name (R148). -/
inductive TableRef where
  | source (src : Source)
  | selector
  | budget
  | cls (c : ClassNo)
  | port (p : Port)
  | route (i : Nat)
  | timing
  | traffic
  | events
deriving DecidableEq, Repr

/-- The record with an index, where the table has one. -/
def tableRef (table index : Nat) : Option TableRef :=
  match table with
  | 1 => (sourceOfCode index).map .source
  | 2 => if index = 0 then some .selector else none
  | 3 => if index = 0 then some .budget else none
  | 4 => (ClassNo.ofNumber index).map .cls
  | 5 => (Port.ofNumber index).map .port
  | 6 => if index < Config.routeEntries then some (.route index) else none
  | 7 => if index = 0 then some .timing else none
  | 8 => if index = 0 then some .traffic else none
  | 9 => if index = 0 then some .events else none
  | _ => none

/-- R148: READ TABLE, its table judged before its index. -/
def parseTable (p : List Byte) : Except Status TableRef :=
  if byteAt p 0 = 0 ∨ 9 < byteAt p 0 then .error .badValue
  else
    match tableRef (byteAt p 0) (byteAt p 1) with
    | some t => .ok t
    | none => .error .badIndex

/-- Log 17: the non-zero number that the k-th set flag of a response is read as. -/
def State.setFlag (s : State) (k : Nat) : Nat := 1 + Config.setFlag (2 * s.draws + k) % 255

/-- R148: a record in its load layout. -/
def State.tableBytes (s : State) : TableRef → List Byte
  | .source src => (s.tables.source.get src).bytes src
  | .selector => s.tables.selector.bytes
  | .budget => s.tables.budget.bytes
  | .cls c => (s.tables.cls.get c).bytes c
  | .port p => (s.tables.port.get p).bytes p
  | .route i => (s.tables.route.getD i RouteEntry.reset).bytes i (s.setFlag 0) (s.setFlag 1)
  | .timing => s.tables.timing.bytes (PerDest.ofFn fun d => (s.phases.get d).shadow)
  | .traffic => [byte s.tables.holdLevel]
  | .events => s.tables.events.bytes

end Sys2Proof.Machine
end

