-- ==== Sys2Proof/Machine/Management.lean ====
section
/-! DEFINITION. The management unit (chapter 9): the execution of the request at the head of the input queue, one
command for each form of request, and the commands DUMP_RESPONSE_PLACED and NOTICE_PLACED. -/

namespace Sys2Proof.Machine

/-! ### Execution (R144, R146) -/

/-- R146, step 2: the length suits the request code. -/
def Request.lengthOk (r : Request) : Bool :=
  (requestLength r.code.toNat).all fun n => decide (r.payload.length = n)

/-- R144: the request may begin execution. A TRAFFIC RESET of the wrong length waits for room like any other
(log 10). -/
def State.mayBegin (s : State) (r : Request) : Bool :=
  decide (s.mgmt.inHand = .nothing) &&
    (decide (s.mgmt.lane.length < Config.laneSize) || decide (s.linkState .u ≠ .up) ||
      (decide (r.row = .trafficReset) && r.lengthOk))

/-- A response that carries its status alone (R154). -/
def State.reply (r : Request) (st : Status) (s : State) : State := s.placeResponse r.code st.bytes none

/-- A response of OK with results and, for READ STATUS, its report. -/
def State.replyWith (r : Request) (payload : List Byte) (report : Option Report) (s : State) : State :=
  s.placeResponse r.code payload report

/-- R144, R146: a command executes the request at the head of the input queue, if that request is one of its
own form and may begin. -/
def State.serve (row : Instr) (act : Request → State → State) (s : State) : State :=
  match s.mgmt.input with
  | [] => s
  | r :: rest =>
    if r.row = row ∧ s.mayBegin r = true then
      let s' := s.modMgmt fun m => { m with input := rest }
      if r.lengthOk then act r s' else s'.reply r .badLength
    else s

/-- R146, R147: a request whose record is checked whole, and then takes effect and is answered OK. -/
def State.load {α : Type} (parse : List Byte → Except Status α) (write : α → State → State) (r : Request)
    (s : State) : State :=
  match parse r.payload with
  | .error st => s.reply r st
  | .ok x => (write x s).reply r .ok

/-! ### Reads (R148) -/

/-- READ_STATUS. -/
def State.readStatus (r : Request) (s : State) : State :=
  s.drawn.replyWith r s.statusBytes (some s.events.report)

def execReadStatus (s : State) : Host.Outcome State Fault Refusal :=
  event (State.serve .readStatus State.readStatus) s

/-- READ_PORT. -/
def State.readPort (r : Request) (s : State) : State :=
  match Port.ofNumber (byteAt r.payload 0) with
  | none => s.reply r .badIndex
  | some p => s.drawn.replyWith r (s.portBytes p) none

def execReadPort (s : State) : Host.Outcome State Fault Refusal :=
  event (State.serve .readPort State.readPort) s

/-- READ_TABLE. -/
def State.readTable (r : Request) (s : State) : State :=
  match parseTable r.payload with
  | .error st => s.reply r st
  | .ok t => s.drawn.replyWith r (Status.ok.bytes ++ s.tableBytes t) none

def execReadTable (s : State) : Host.Outcome State Fault Refusal :=
  event (State.serve .readTable State.readTable) s

/-! ### Loads (R147) -/

/-- R141: the loaded mark of a source. -/
def Mgmt.markSource (src : Source) (m : Mgmt) : Mgmt :=
  match src with
  | .line => { m with lineMark := true }
  | .batt => { m with battMark := true }

/-- R5, R6, R24. The computation runs for either source (log 18). -/
def State.loadSource (x : Source × SourceRecord) (s : State) : State :=
  ((s.modTables fun t => { t with source := t.source.set x.1 x.2 }).modMgmt (Mgmt.markSource x.1)).computeBudget

/-- LOAD_SOURCE. -/
def execLoadSource (s : State) : Host.Outcome State Fault Refusal :=
  event (State.serve .loadSource (State.load parseSource State.loadSource)) s

/-- R7, R17: the auto-return timer restarts or becomes idle. -/
def State.loadSelector (x : SelectorSettings) (s : State) : State :=
  ((s.modTables fun t => { t with selector := x }).modSel fun y => { y with autoTimer := none }).judgeAuto

/-- LOAD_SELECTOR. -/
def execLoadSelector (s : State) : Host.Outcome State Fault Refusal :=
  event (State.serve .loadSelector (State.load parseSelector State.loadSelector)) s

/-- R23, R24. -/
def State.loadBudget (x : BudgetParams) (s : State) : State :=
  ((s.modTables fun t => { t with budget := x }).modMgmt fun m => { m with budgetMark := true }).computeBudget

/-- LOAD_BUDGET. -/
def execLoadBudget (s : State) : Host.Outcome State Fault Refusal :=
  event (State.serve .loadBudget (State.load parseBudget State.loadBudget)) s

/-- R37, R38. -/
def State.loadClass (x : ClassNo × ClassRecord) (s : State) : State :=
  s.modTables fun t => { t with cls := t.cls.set x.1 x.2 }

/-- LOAD_CLASS. -/
def execLoadClass (s : State) : Host.Outcome State Fault Refusal :=
  event (State.serve .loadClass (State.load parseClass State.loadClass)) s

/-- R39. -/
def State.loadPort (x : Port × PortRecord) (s : State) : State :=
  s.modTables fun t => { t with port := t.port.set x.1 x.2 }

/-- LOAD_PORT. -/
def execLoadPort (s : State) : Host.Outcome State Fault Refusal :=
  event (State.serve .loadPort (State.load parsePort State.loadPort)) s

/-- R103, R104. -/
def State.loadRoute (x : Nat × RouteEntry) (s : State) : State :=
  s.modTables fun t => { t with route := t.route.set x.1 x.2 }

/-- LOAD_ROUTE. -/
def execLoadRoute (s : State) : Host.Outcome State Fault Refusal :=
  event (State.serve .loadRoute (State.load parseRoute State.loadRoute)) s

/-- R125: the nominal period becomes the period in use while no pulse has been trusted. -/
def Timing.loadNominal (nominal : Nat) (t : Timing) : Timing :=
  { t with shadowWritten := true,
           period := if t.sync = .unlocked ∧ t.accepted = false then nominal else t.period }

/-- R125. A window that is due to open has opened with the tolerance before the load. -/
def State.loadTiming (x : TimingRecord × PerDest Nat) (s : State) : State :=
  let s' := s.openWindow
  { s' with
    tables := { s'.tables with timing := x.1 }
    phases := PerDest.ofFn fun d => { s'.phases.get d with shadow := x.2.get d }
    timing := s'.timing.loadNominal x.1.nominal }

/-- LOAD_TIMING. -/
def execLoadTiming (s : State) : Host.Outcome State Fault Refusal :=
  event (State.serve .loadTiming (State.load parseTiming State.loadTiming)) s

/-- R119: the held state is judged against the new levels. -/
def State.loadTraffic (level : Nat) (s : State) : State :=
  ((s.modTables fun t => { t with holdLevel := level }).judgeTake).judgeFree

/-- LOAD_TRAFFIC. -/
def execLoadTraffic (s : State) : Host.Outcome State Fault Refusal :=
  event (State.serve .loadTraffic
    (State.load (fun p => .ok (parseHoldLevel p)) State.loadTraffic)) s

/-! ### Commands (R142, R152) -/

/-- R142: every required record has been loaded. -/
def Mgmt.complete (m : Mgmt) : Bool := m.lineMark && m.battMark && m.budgetMark

/-- START: R142. -/
def State.start (r : Request) (s : State) : State :=
  if s.mgmt.operational then s.reply r .ok
  else if s.mgmt.complete then
    ((s.modMgmt fun m => { m with operational := true }).evaluate).reply r .ok
  else s.reply r .incomplete

def execStart (s : State) : Host.Outcome State Fault Refusal := event (State.serve .start State.start) s

/-- R18, R19: what both forms of SET SOURCE judge first; then a source that is not active is acted on. -/
def State.setSource (r : Request) (act : Source → State → State) (s : State) : State :=
  match sourceOfCode (byteAt r.payload 0) with
  | none => s.reply r .badValue
  | some target =>
    match s.sel.state with
    | .changeover _ => s.reply r .busy
    | .active a =>
      if a = target then (s.modSel fun x => { x with change := none }).reply r .ok else act target s
    | _ => s.reply r .wrongState

/-- R18: the immediate form. -/
def State.setImmediate (r : Request) (target : Source) (s : State) : State :=
  if s.usable target then (s.beginChangeover target).reply r .ok else s.reply r .notUsable

/-- R19, R20: the frame-aligned form stores the change and judges it once. -/
def State.setAligned (r : Request) (target : Source) (s : State) : State :=
  ((s.modSel fun x =>
    { x with change := some ⟨target, byte (byteAt r.payload 2)⟩ }).judgeChange).reply r .ok

/-- SET_SOURCE_IMMEDIATE: R18. A form that is neither is refused (R152). -/
def State.setSourceImmediate (r : Request) (s : State) : State :=
  if byteAt r.payload 1 = 0 then s.setSource r (State.setImmediate r) else s.reply r .badValue

def execSetSourceImmediate (s : State) : Host.Outcome State Fault Refusal :=
  event (State.serve .setSourceImmediate State.setSourceImmediate) s

/-- SET_SOURCE_FRAME_ALIGNED: R19. -/
def State.setSourceFrameAligned (r : Request) (s : State) : State := s.setSource r (State.setAligned r)

def execSetSourceFrameAligned (s : State) : Host.Outcome State Fault Refusal :=
  event (State.serve .setSourceFrameAligned State.setSourceFrameAligned) s

/-- R152: PORT CONTROL is checked for its port and then its action. -/
def State.portControl (r : Request) (code : Nat) (act : Port → State → State) (s : State) : State :=
  match Port.ofNumber (byteAt r.payload 0) with
  | none => s.reply r .badIndex
  | some p => if byteAt r.payload 1 = code then act p s else s.reply r .badValue

/-- PORT_CONTROL_ENABLE: R83. An action that is none of the three is refused. -/
def State.portEnable (r : Request) (s : State) : State :=
  s.portControl r 1 fun p s => (s.enable p).reply r .ok

def execPortControlEnable (s : State) : Host.Outcome State Fault Refusal :=
  event (State.serve .portControlEnable (fun r s => s.portEnable r)) s

/-- PORT_CONTROL_DISABLE: R82. -/
def State.portDisable (r : Request) (s : State) : State :=
  s.portControl r 2 fun p s => (s.disable p).reply r .ok

def execPortControlDisable (s : State) : Host.Outcome State Fault Refusal :=
  event (State.serve .portControlDisable (fun r s => s.portDisable r)) s

/-- PORT_CONTROL_RESET: R84. -/
def State.portReset (r : Request) (s : State) : State :=
  s.portControl r 3 fun p s =>
    if (s.ports.get p).state.resettable then (s.resetPort p).reply r .ok else s.reply r .wrongState

def execPortControlReset (s : State) : Host.Outcome State Fault Refusal :=
  event (State.serve .portControlReset (fun r s => s.portReset r)) s

/-- R161, R162: the settings are written, and a set item now worth a notice asks for one. -/
def State.writeEvents (x : EventSettings) (s : State) : State :=
  let s' := s.modTables fun t => { t with events := x }
  if Item.all.any s'.unreported then s'.requestNotice else s'

/-- SET_EVENTS. -/
def execSetEvents (s : State) : Host.Outcome State Fault Refusal :=
  event (State.serve .setEvents (State.load (fun p => .ok (parseEvents p)) State.writeEvents)) s

/-- R163: the items that a CLEAR EVENTS names. -/
def State.clearEvents (r : Request) (s : State) : State :=
  (s.clearItems (named (wordAt r.payload 0) (byteAt r.payload 2))).reply r .ok

/-- CLEAR_EVENTS. -/
def execClearEvents (s : State) : Host.Outcome State Fault Refusal :=
  event (State.serve .clearEvents (fun r s => s.clearEvents r)) s

/-! ### The counter dump (R149, R155, R165) -/

/-- The request code of DUMP COUNTERS, which its responses carry (R154). -/
def dumpCode : Byte := 37

/-- R155: counters k × 12 onward of a snapshot, 12 of them or what is left. -/
def dumpPayload (c : Counters) (k : Nat) : List Byte :=
  ((c.toList.drop (12 * k)).take 12).flatMap fun v => be32 v.toNat

/-- R149: the responses of a dump after the first. -/
def dumpRest (c : Counters) : List (List Byte) := (List.range 8).map fun k => dumpPayload c (k + 1)

/-- R149: the responses still to be placed. While U is DOWN they are formed and discarded at once. -/
def State.dumpOthers (left : List (List Byte)) (s : State) : State :=
  if s.linkState .u = .up then s.modMgmt fun m => { m with inHand := .dump left }
  else s.countEndpoint .u (EndpointCounters.addLinkDown left.length)

/-- R149: a dump of a snapshot begins; its first response finds the place that let it begin (log 11). -/
def State.beginDump (snapshot : Counters) (s : State) : State :=
  (s.placeResponse dumpCode (dumpPayload snapshot 0) none).dumpOthers (dumpRest snapshot)

/-- DUMP_COUNTERS: R149. A form that is neither is refused. -/
def State.dumpPlain (r : Request) (s : State) : State :=
  if byteAt r.payload 0 = 0 then s.beginDump s.counters else s.reply r .badValue

def execDumpCounters (s : State) : Host.Outcome State Fault Refusal :=
  event (State.serve .dumpCounters State.dumpPlain) s

/-- DUMP_COUNTERS_WITH_CLEAR: R149, R165. -/
def State.dumpClear (s : State) : State := { s with counters := Counters.zero }.beginDump s.counters

def execDumpCountersWithClear (s : State) : Host.Outcome State Fault Refusal :=
  event (State.serve .dumpCountersWithClear (fun _ s => s.dumpClear)) s

/-- R149: a further response of the dump in hand may be placed. -/
def State.dumpMayGo (s : State) : Bool :=
  decide (s.linkState .u = .up) && decide (s.mgmt.lane.length < Config.laneSize)

/-- R149: what a dump in hand becomes as its next response is placed. -/
def InHand.afterPlacing : List (List Byte) → InHand
  | [] => .nothing
  | left => .dump left

/-- R149: the next response of a dump in hand is placed. -/
def State.dumpNext (s : State) : State :=
  match s.mgmt.inHand with
  | .dump (x :: left) =>
    if s.dumpMayGo then
      (s.modMgmt fun m => { m with inHand := InHand.afterPlacing left }).placeResponse dumpCode x none
    else s
  | _ => s

/-- DUMP_RESPONSE_PLACED: where a dump is in hand and the lane has room (log 4). -/
def execDumpResponsePlaced (s : State) : Host.Outcome State Fault Refusal := event State.dumpNext s

/-! ### Notices (R158) -/

/-- R158: a pending notice may be placed. -/
def State.noticeMayGo (s : State) : Bool :=
  s.events.noticePending && decide (s.linkState .u = .up) && !s.noticeWaits &&
    decide (s.mgmt.lane.length < Config.laneSize)

/-- R158: a pending notice is placed as soon as it may be. -/
def State.placeNotice (s : State) : State :=
  if s.noticeMayGo then
    { s with mgmt := { s.mgmt with lane := s.mgmt.lane ++ [.notice] },
             events := { s.events with noticePending := false } }
  else s

/-- NOTICE_PLACED. -/
def execNoticePlaced (s : State) : Host.Outcome State Fault Refusal := event State.placeNotice s

/-! ### The resets by request (R122, R123, R150, R151) -/

/-- R122: what a TRAFFIC RESET leaves of a link: no transmission, no flow and no MARK. -/
def Link.cleared (l : Link) : Link := { l with tx := none, flowSlot := none, markSlot := none }

/-- R122: stored traffic is removed uncounted. -/
def State.clearTraffic (s : State) : State :=
  { s with
    links := PerDest.ofFn fun d => (s.links.get d).cleared
    queues := PerDest.rep Queues.reset
    records := List.replicate Config.records none
    mgmt := { s.mgmt with lane := [] } }

/-- R123, step 2: a port link that is not DOWN enters WAIT. -/
def Link.toWait (l : Link) : Link :=
  if l.state = .down then l else { l with state := .wait, receivedHold := false }

/-- R123, step 2: every port link. -/
def State.portsToWait (s : State) : State :=
  { s with links := ⟨s.links.u, PerPort.ofFn fun p => (s.links.ports.get p).toWait⟩ }

/-- R122, R123: the effects of a TRAFFIC RESET before its response. -/
def State.resetTraffic (s : State) : State :=
  let s1 := ({ s.clearTraffic with held := false }.postFlowAll .resume).portsToWait
  if s.noticeInFlight then s1.noticeLost else s1

/-- TRAFFIC_RESET: R150. A notice made pending again stands behind the response (log 25). -/
def State.trafficReset (r : Request) (s : State) : State := (s.resetTraffic.reply r .ok).placeNotice

def execTrafficReset (s : State) : Host.Outcome State Fault Refusal :=
  event (State.serve .trafficReset State.trafficReset) s

/-- FULL_RESET: R151. It waits for its response, or takes effect at once while U is DOWN. -/
def State.fullReset (r : Request) (s : State) : State :=
  let s' := (s.modMgmt fun m => { m with inHand := .fullReset }).reply r .ok
  if s.linkState .u = .up then s' else s'.hubReset

def execFullReset (s : State) : Host.Outcome State Fault Refusal :=
  event (State.serve .fullReset State.fullReset) s

/-- UNKNOWN_REQUEST: R146, step 1. -/
def execUnknownRequest (s : State) : Host.Outcome State Fault Refusal :=
  event (State.serve .unknownRequest (fun r s => s.reply r .unknown)) s

end Sys2Proof.Machine
end

