-- ==== Sys2Proof/Machine/Scan.lean ====
section
/-! DEFINITION. The scan completion (R1, R2) and its users. -/

namespace Sys2Proof.Machine

/-- R1: a reading in converter steps, held at full scale, in mV or mA. -/
def sampled (fullScale steps : Nat) : Nat := min steps fullScale * 10

/-- R2: the newest sample replaces the oldest; the first fills the ring. -/
def SourceMonitor.push (m : SourceMonitor) (v : Nat) : SourceMonitor :=
  { m with ring := if m.ring = [] then List.replicate 8 v else m.ring.tail ++ [v] }

/-- R1, R2: the samples of a scan are handed on together. -/
def State.storeSamples (x : Samples) (s : State) : State :=
  { s with
    supply := ⟨s.supply.line.push (sampled 4095 x.line), s.supply.batt.push (sampled 4095 x.batt)⟩
    busVolts := sampled 4095 x.bus
    ports := PerPort.ofFn fun p =>
      { s.ports.get p with sense := sampled 511 (x.sense.get p), current := sampled 1023 (x.current.get p) } }

/-- The users of a scan in the order in which file 95 names them. -/
def scanParts : List ScanPart :=
  [.source .line, .source .batt, .budget] ++ Port.all.map .detect ++ Port.all.map .judge

/-- The users of a scan, those an order names first; a second naming says nothing (log 7). -/
def scanOrder (order : List ScanPart) : List ScanPart :=
  order.eraseDups ++ scanParts.filter fun x => decide (x ∉ order)

/-- One user takes the scan. -/
def State.scanPart (x : ScanPart) (s : State) : State :=
  match x with
  | .source src => s.scanSource src
  | .budget => s.scanBudget
  | .detect p => s.scanDetect p
  | .judge p => s.scanJudge p

/-- R1: every user takes the scan once. -/
def State.scan (x : Samples) (order : List ScanPart) (s : State) : State :=
  (scanOrder order).foldl (fun s part => s.scanPart part) (s.storeSamples x)

/-- SCAN_COMPLETION. -/
def execScanCompletion (x : Samples) (order : List ScanPart) (s : State) :
    Host.Outcome State Fault Refusal :=
  event (State.scan x order) s

end Sys2Proof.Machine
end

