-- ==== Sys2Proof/Machine/Clock.lean ====
section
/-! DEFINITION. What happens while no command waits: one microsecond passes, or the hub queues a command that its
own timers, frames, requests or notices call for (log 2). -/

namespace Sys2Proof.Machine

/-! ### One microsecond -/

/-- A timer that runs for one microsecond. -/
def runDown (t : Option Nat) : Option Nat := t.map (· - 1)

/-- The timers of a source run down. -/
def SourceMonitor.elapse (m : SourceMonitor) : SourceMonitor :=
  { m with qualifyTimer := runDown m.qualifyTimer, failTimer := runDown m.failTimer }

/-- The timers of a port run down. The debounce timer is counted in scans (R64, log 23). -/
def PortUnit.elapse (u : PortUnit) : PortUnit :=
  { u with stepTimer := runDown u.stepTimer, overdrawTimer := runDown u.overdrawTimer,
           retryTimer := runDown u.retryTimer, cleanTimer := runDown u.cleanTimer }

/-- R44: the timers of an admission entry. A wait timer stands still while evaluation is suspended. -/
def Entry.elapse (inForce : Bool) (e : Entry) : Entry :=
  { e with wait := if inForce then runDown e.wait else e.wait, holdOff := runDown e.holdOff }

/-- One microsecond passes. While RESET is asserted no timer runs. -/
def State.elapse (s : State) : State :=
  if s.resetPin then { s with now := s.now + 1 }
  else
    State.openWindow
      { s with
        now := s.now + 1
        supply := ⟨s.supply.line.elapse, s.supply.batt.elapse⟩
        sel := { s.sel with deadTimer := runDown s.sel.deadTimer, autoTimer := runDown s.sel.autoTimer }
        budget := { s.budget with shedTimer := runDown s.budget.shedTimer }
        admission := s.admission.map (Entry.elapse s.inForce)
        ports := PerPort.ofFn fun p => (s.ports.get p).elapse }

/-! ### What is due -/

/-- A command if a condition holds. -/
def dueIf (b : Bool) (i : Instr) : List Instr := if b then [i] else []

/-- A timer that has run out. -/
def expired (t : Option Nat) : Bool := decide (t = some 0)

/-- The timers of the sources, the selector and the budget unit that have run out. -/
def State.dueSupply (s : State) : List Instr :=
  dueIf (expired s.supply.line.qualifyTimer) (.qualifyTimerExpiry .line)
    ++ dueIf (expired s.supply.batt.qualifyTimer) (.qualifyTimerExpiry .batt)
    ++ dueIf (expired s.supply.line.failTimer) (.failTimerExpiry .line)
    ++ dueIf (expired s.supply.batt.failTimer) (.failTimerExpiry .batt)
    ++ dueIf (expired s.sel.deadTimer) .deadTimeExpiry ++ dueIf (expired s.sel.autoTimer) .autoReturnExpiry
    ++ dueIf (expired s.budget.shedTimer) .shedDelayExpiry

/-- The timers of an entry that have run out. -/
def State.dueEntry (s : State) (e : Entry) : List Instr :=
  dueIf (expired e.holdOff) (.holdOffExpiry e.port)
    ++ dueIf (expired e.wait && s.inForce)
        (if e.reason = .increase then .increaseWaitExpiry e.port else .waitTimerExpiry e.port)

/-- The timers of a port that have run out. -/
def State.duePort (s : State) (p : Port) : List Instr :=
  dueIf (expired (s.ports.get p).stepTimer) (.stepTimerExpiry p)
    ++ dueIf (expired (s.ports.get p).overdrawTimer) (.overdrawTimerExpiry p)
    ++ dueIf (expired (s.ports.get p).retryTimer) (.retryDelayExpiry p)
    ++ dueIf (expired (s.ports.get p).cleanTimer) (.cleanRunExpiry p)

/-- R131: the window has reached its end. -/
def Window.ended (now : Nat) (w : Window) : Bool := w.tol.any fun t => decide (w.tp + t ≤ now)

/-- The boundary, the phase releases and the window's close that are due. -/
def State.dueFrame (s : State) : List Instr :=
  dueIf (decide (s.timing.nextBoundary ≤ s.now)) .frameBoundary
    ++ (Dest.all.flatMap fun d =>
        dueIf (!(s.phases.get d).released && decide ((s.phases.get d).releaseAt ≤ s.now)) (.phaseRelease d))
    ++ dueIf (s.timing.window.any (Window.ended s.now)) .windowCloseNoEdge

/-- The request that may begin, the dump response and the notice that may be placed. -/
def State.dueLane (s : State) : List Instr :=
  (match s.mgmt.input with
    | [] => []
    | r :: _ => dueIf (s.mayBegin r) r.row)
    ++ dueIf (decide (0 < s.mgmt.inHand.left) && s.dumpMayGo) .dumpResponsePlaced
    ++ dueIf s.noticeMayGo .noticePlaced

/-- Every command that the hub itself owes now. -/
def State.due (s : State) : List Instr :=
  s.dueSupply ++ s.admission.flatMap s.dueEntry ++ Port.all.flatMap s.duePort ++ s.dueFrame ++ s.dueLane

/-- An empty queue: one of the commands that are due is queued, or a microsecond passes (log 2). Where several
are due any of them may be first (log 32). -/
def State.idle (s : State) : State :=
  if s.resetPin then s.elapse
  else
    match s.due with
    | [] => s.elapse
    | [i] => { s with pending := [i] }
    | i :: rest =>
      { s.drawn with pending := [(i :: rest).getD (Config.firstDue s.draws % (rest.length + 1)) i] }

end Sys2Proof.Machine
end

