-- ==== Sys2Proof/Machine/Dispatch.lean ====
section
/-! DEFINITION. The dispatch: one arm per command, in the order of spec/opcode_table.json. -/

namespace Sys2Proof.Machine

/-- What a command does to everything but the queue. -/
def exec (i : Instr) (s : State) : Host.Outcome State Fault Refusal :=
  match i with
  | .powerOnReset => Sys2Proof.Machine.execPowerOnReset s
  | .resetAssert => Sys2Proof.Machine.execResetAssert s
  | .resetRelease => Sys2Proof.Machine.execResetRelease s
  | .scanCompletion samples order => Sys2Proof.Machine.execScanCompletion samples order s
  | .qualifyTimerExpiry src => Sys2Proof.Machine.execQualifyTimerExpiry src s
  | .failTimerExpiry src => Sys2Proof.Machine.execFailTimerExpiry src s
  | .deadTimeExpiry => Sys2Proof.Machine.execDeadTimeExpiry s
  | .autoReturnExpiry => Sys2Proof.Machine.execAutoReturnExpiry s
  | .ecutAssert => Sys2Proof.Machine.execEcutAssert s
  | .ecutRelease => Sys2Proof.Machine.execEcutRelease s
  | .shedDelayExpiry => Sys2Proof.Machine.execShedDelayExpiry s
  | .holdOffExpiry p => Sys2Proof.Machine.execHoldOffExpiry p s
  | .waitTimerExpiry p => Sys2Proof.Machine.execWaitTimerExpiry p s
  | .increaseWaitExpiry p => Sys2Proof.Machine.execIncreaseWaitExpiry p s
  | .frameReception link bytes => Sys2Proof.Machine.execFrameReception link bytes s
  | .transmissionComplete link => Sys2Proof.Machine.execTransmissionComplete link s
  | .uLineSilent => Sys2Proof.Machine.execULineSilent s
  | .uLineActive => Sys2Proof.Machine.execULineActive s
  | .debounceExpiry p => Sys2Proof.Machine.execDebounceExpiry p s
  | .stepTimerExpiry p => Sys2Proof.Machine.execStepTimerExpiry p s
  | .overdrawTimerExpiry p => Sys2Proof.Machine.execOverdrawTimerExpiry p s
  | .hardTrip p => Sys2Proof.Machine.execHardTrip p s
  | .retryDelayExpiry p => Sys2Proof.Machine.execRetryDelayExpiry p s
  | .cleanRunExpiry p => Sys2Proof.Machine.execCleanRunExpiry p s
  | .fsyncEdge => Sys2Proof.Machine.execFsyncEdge s
  | .windowCloseNoEdge => Sys2Proof.Machine.execWindowCloseNoEdge s
  | .frameBoundary => Sys2Proof.Machine.execFrameBoundary s
  | .phaseRelease d => Sys2Proof.Machine.execPhaseRelease d s
  | .readStatus => Sys2Proof.Machine.execReadStatus s
  | .readPort => Sys2Proof.Machine.execReadPort s
  | .readTable => Sys2Proof.Machine.execReadTable s
  | .loadSource => Sys2Proof.Machine.execLoadSource s
  | .loadSelector => Sys2Proof.Machine.execLoadSelector s
  | .loadBudget => Sys2Proof.Machine.execLoadBudget s
  | .loadClass => Sys2Proof.Machine.execLoadClass s
  | .loadPort => Sys2Proof.Machine.execLoadPort s
  | .loadRoute => Sys2Proof.Machine.execLoadRoute s
  | .loadTiming => Sys2Proof.Machine.execLoadTiming s
  | .loadTraffic => Sys2Proof.Machine.execLoadTraffic s
  | .start => Sys2Proof.Machine.execStart s
  | .setSourceImmediate => Sys2Proof.Machine.execSetSourceImmediate s
  | .setSourceFrameAligned => Sys2Proof.Machine.execSetSourceFrameAligned s
  | .portControlEnable => Sys2Proof.Machine.execPortControlEnable s
  | .portControlDisable => Sys2Proof.Machine.execPortControlDisable s
  | .portControlReset => Sys2Proof.Machine.execPortControlReset s
  | .setEvents => Sys2Proof.Machine.execSetEvents s
  | .clearEvents => Sys2Proof.Machine.execClearEvents s
  | .dumpCounters => Sys2Proof.Machine.execDumpCounters s
  | .dumpCountersWithClear => Sys2Proof.Machine.execDumpCountersWithClear s
  | .dumpResponsePlaced => Sys2Proof.Machine.execDumpResponsePlaced s
  | .trafficReset => Sys2Proof.Machine.execTrafficReset s
  | .fullReset => Sys2Proof.Machine.execFullReset s
  | .unknownRequest => Sys2Proof.Machine.execUnknownRequest s
  | .noticePlaced => Sys2Proof.Machine.execNoticePlaced s
  | .strayStartDelimiter link => Sys2Proof.Machine.execStrayStartDelimiter link s

end Sys2Proof.Machine
end

