-- ==== Sys2Proof/Safety.lean ====
section
/-! DEFINITION. What counts as a safe state of the hub, in the terms that the statements use: capacities, references,
the pool's levels, power only under a grant, records in range, and transmitters that are never idle for nothing. -/

namespace Sys2Proof.Machine

/-! ### Capacities (R113, R136, R137, R143, R145) -/

/-- The queues and the timed list of a destination hold no more than they may. -/
def Queues.Bounded (q : Queues) : Prop :=
  q.urgent.length ≤ 8 ∧ q.bulk.length ≤ 8 ∧ q.timed.length ≤ 6

/-- Every queue of the hub holds no more than it may, and the lane holds at most one NOTICE. -/
def State.Bounded (s : State) : Prop :=
  s.mgmt.input.length ≤ 4 ∧ s.mgmt.lane.length ≤ 4 ∧ s.mgmt.lane.count .notice ≤ 1 ∧
    (∀ d, (s.queues.get d).Bounded) ∧ (∀ d, (s.phases.get d).markCount ≤ 15) ∧ s.records.length = 64

/-! ### References (R116) -/

/-- The references that stand to a record, over all nine destinations. -/
def State.refsTo (s : State) (i : Nat) : Nat := (Dest.all.map fun d => (s.refsAt d).count i).sum

/-- R116: a record in use counts its references and has one, and nothing refers to a free record. -/
def State.RefsCounted (s : State) : Prop :=
  ∀ i, match s.record i with
    | some r => r.refs = s.refsTo i ∧ 1 ≤ r.refs
    | none => s.refsTo i = 0

/-! ### The pool's levels (R119 to R121) -/

/-- The hold level is in its range, and a pool that is CLEAR has more free cells than the hold level. -/
def State.PoolJudged (s : State) : Prop :=
  8 ≤ s.tables.holdLevel ∧ s.tables.holdLevel ≤ 64 ∧ (s.held = false → s.tables.holdLevel < s.freeCells)

/-! ### Power only under a grant (R41, R43, R58, R62) -/

/-- The states in which a port holds a grant: powered, or paused for a changeover. -/
def PortState.holdsGrant (st : PortState) : Bool := st.closed || decide (st = .paused)

/-- The selector states in which a source feeds the bus or is about to. -/
def SelState.feeds : SelState → Bool
  | .active _ => true
  | .changeover _ => true
  | _ => false

/-- The state of a port fits the reason of its entry (R41): an INCREASE stands for a powered port, every other
entry for a port in WAITING. -/
def State.EntryFits (s : State) (e : Entry) : Prop :=
  if e.reason = .increase then (s.ports.get e.port).state.closed = true
  else (s.ports.get e.port).state = .waiting

/-- The states of a port that keeps an effective class for an entry, a grant or a retry (R40). -/
def PortState.classed (st : PortState) : Bool :=
  st.holdsGrant || decide (st = .waiting) || decide (st = .tripped)

/-- The granted list names, once each, exactly the ports that hold a grant (R43); only a port on it has a grant
figure; the admission list names a port once (R41) and fits its state; a port with an entry, a grant or a
retry has an effective class (R40); only a changeover pauses a port; and no port holds a grant while the hub
is UNCONFIGURED or in START, NO_SOURCE or CUT (R62). -/
def State.Powered (s : State) : Prop :=
  s.granted.Nodup ∧ (s.admission.map (·.port)).Nodup ∧
    (∀ p, p ∈ s.granted ↔ (s.ports.get p).state.holdsGrant = true) ∧
    (∀ p, p ∉ s.granted → (s.ports.get p).grant = 0) ∧
    (∀ e ∈ s.admission, s.EntryFits e) ∧
    (∀ p, (s.ports.get p).state.classed = true → (s.ports.get p).eff.isSome = true) ∧
    (∀ p, (s.ports.get p).state = .paused → s.sel.state.target ≠ none) ∧
    (s.sel.state.feeds = false ∨ s.mgmt.operational = false → s.granted = [])

/-! ### The figures of the budget (R30, R31, R47) -/

/-- The available budget and the granted sum are at most 6000 dW, and every grant, requested draw and retry
draw at most 1200 dW. -/
def State.Budgeted (s : State) : Prop :=
  s.budget.b ≤ 6000 ∧ s.grantedSum ≤ 6000 ∧ (∀ e ∈ s.admission, e.draw ≤ 1200) ∧
    ∀ p, (s.ports.get p).grant ≤ 1200 ∧ ∀ n ∈ (s.ports.get p).retryDraw, n ≤ 1200

/-! ### Port links follow port states (R91) -/

/-- R91: a port's link is DOWN exactly while its switch is open. -/
def State.LinksFollow (s : State) : Prop :=
  ∀ p, s.linkState (.port p) = .down ↔ (s.ports.get p).state.closed = false

/-! ### Records in range -/

/-- The ranges of a source record (R5). -/
def SourceRecord.InRange (r : SourceRecord) : Prop :=
  r.valid = true ∧ r.qualifyTime < 256 ∧ r.failTime < 256 ∧ r.rated ≤ 6000 ∧ r.limit ≤ 30000

/-- The ranges of the selector settings (R7). -/
def SelectorSettings.InRange (r : SelectorSettings) : Prop :=
  r.autoReturn < 256 ∧ 1 ≤ r.deadTime ∧ r.deadTime < 256

/-- The ranges of the budget parameters (R23). -/
def BudgetParams.InRange (r : BudgetParams) : Prop :=
  r.allowance.line ≤ 6000 ∧ r.allowance.batt ≤ 6000 ∧ r.headroom ≤ 1000 ∧ r.shedDelay ≤ 2000 ∧
    r.readmit ≤ 60

/-- The ranges of a class record (R37). -/
def ClassRecord.InRange (r : ClassRecord) : Prop :=
  r.maxDemand ≤ 1200 ∧ r.idleDraw ≤ r.defaultDemand ∧ r.defaultDemand ≤ r.maxDemand ∧ r.priority ≤ 3 ∧
    r.tolerance ≤ 50 ∧ r.overdrawTime ≤ 5000 ∧ 100 ≤ r.inrush ∧ r.inrush ≤ 8000 ∧ 1 ≤ r.rampFactor ∧
    r.rampFactor ≤ 63 ∧ r.retryLimit ≤ 15 ∧ 1 ≤ r.retryDelay ∧ r.retryDelay < 256 ∧ r.waitLimit < 256

/-- The ranges of a port record (R39). -/
def PortRecord.InRange (r : PortRecord) : Prop := (∀ n ∈ r.override, n ≤ 3) ∧ r.debounce < 256

/-- The ranges of a route entry (R103); an invalid one holds the reset contents (R102). -/
def RouteEntry.InRange (e : RouteEntry) : Prop :=
  e.low ≤ e.high ∧ e.high < 256 ∧ (e.valid = false → e = RouteEntry.reset)

/-- The ranges of the timing record (R125). -/
def TimingRecord.InRange (r : TimingRecord) : Prop :=
  10000 ≤ r.nominal ∧ r.nominal ≤ 50000 ∧ 10000 ≤ r.windowMin ∧ r.windowMin ≤ r.windowMax ∧
    r.windowMax ≤ 50000 ∧ 1 ≤ r.tolerance ∧ r.tolerance ≤ 255 ∧ ∀ d, r.markInterval.get d ≤ 15

/-- The level of an event setting (R161). -/
def EventSetting.InRange (e : EventSetting) : Prop := e.level ≤ 3

/-- Every table holds only what a load may write. -/
def Tables.InRange (t : Tables) : Prop :=
  (∀ src, (t.source.get src).InRange) ∧ t.selector.InRange ∧ t.budget.InRange ∧
    (∀ c, (t.cls.get c).InRange) ∧ (∀ p, (t.port.get p).InRange) ∧ t.route.length = 48 ∧
    (∀ e ∈ t.route, e.InRange) ∧ t.timing.InRange ∧ 8 ≤ t.holdLevel ∧ t.holdLevel ≤ 64 ∧
    (∀ i, (t.events.hub.get i).InRange) ∧ t.events.marks.InRange

/-! ### Transmitters (R99) -/

/-- R99: no link whose transmitter is idle is offered a message. -/
def State.Settled (s : State) : Prop := ∀ d, (s.links.get d).tx = none → s.firstOffer d = none

/-! ### The period in use (R125 to R131) -/

/-- The period in use stays in the range that the timing record allows a period. -/
def State.PeriodInRange (s : State) : Prop := 10000 ≤ s.timing.period ∧ s.timing.period ≤ 50000

/-! ### Timers (R3, R4, R13, R17, R33, R70, R74, R77, R79) -/

/-- The timers of a source run only in the qualifications that they belong to. -/
def SourceMonitor.TimersPlaced (m : SourceMonitor) : Prop :=
  (m.qualifyTimer.isSome = true ↔ m.qual = .qualifying) ∧ (m.failTimer.isSome = true → m.qual = .usable)

/-- The timers of the selector run only in the states that they belong to, and a change is pending only in
LINE or BATT (R19). -/
def Selector.TimersPlaced (x : Selector) : Prop :=
  (x.deadTimer.isSome = true ↔ x.state.target ≠ none) ∧ (x.autoTimer.isSome = true → x.state.isActive = true) ∧
    (x.change.isSome = true → x.state.isActive = true)

/-- The timers of a port run only in the states that they belong to. -/
def PortUnit.TimersPlaced (u : PortUnit) : Prop :=
  (u.stepTimer.isSome = true ↔ u.state = .ramp) ∧ (u.overdrawTimer.isSome = true ↔ u.state = .limit) ∧
    (u.retryTimer.isSome = true ↔ u.state = .tripped) ∧ (u.cleanTimer.isSome = true → u.state = .on)

/-- Every timer of the power side runs only in the state that it belongs to. -/
def State.TimersPlaced (s : State) : Prop :=
  (∀ src, (s.supply.get src).TimersPlaced) ∧ s.sel.TimersPlaced ∧
    (s.budget.shedTimer.isSome = true ↔ s.budget.overcommit = .timing) ∧ ∀ p, (s.ports.get p).TimersPlaced

/-! ### A request that may begin -/

/-- R144: the request at the head of the input queue may begin: RESET is not asserted, no execution is in hand,
and the lane has room or U is DOWN. -/
def State.Executes (s : State) (r : Request) (rest : List Request) : Prop :=
  s.resetPin = false ∧ s.mgmt.input = r :: rest ∧ s.mgmt.inHand = .nothing ∧
    (s.mgmt.lane.length < 4 ∨ s.linkState .u ≠ .up)

/-- The state with the head request gone from the input queue. -/
def State.popped (s : State) (rest : List Request) : State := { s with mgmt := { s.mgmt with input := rest } }

/-! ### What a command leaves as it was -/

/-- The parts of the state, one for each field. -/
inductive Part where
  | pending | now | draws | resetPin | ecutPin | supply | busVolts | tables | sel | budget | admission | granted
  | grantSlots | ports | links | queues | records | held | phases | timing | mgmt | events | counters
deriving DecidableEq, Repr

/-- A part is the same in two states. -/
def State.SameAt (a b : State) : Part → Prop
  | .pending => a.pending = b.pending
  | .now => a.now = b.now
  | .draws => a.draws = b.draws
  | .resetPin => a.resetPin = b.resetPin
  | .ecutPin => a.ecutPin = b.ecutPin
  | .supply => a.supply = b.supply
  | .busVolts => a.busVolts = b.busVolts
  | .tables => a.tables = b.tables
  | .sel => a.sel = b.sel
  | .budget => a.budget = b.budget
  | .admission => a.admission = b.admission
  | .granted => a.granted = b.granted
  | .grantSlots => a.grantSlots = b.grantSlots
  | .ports => a.ports = b.ports
  | .links => a.links = b.links
  | .queues => a.queues = b.queues
  | .records => a.records = b.records
  | .held => a.held = b.held
  | .phases => a.phases = b.phases
  | .timing => a.timing = b.timing
  | .mgmt => a.mgmt = b.mgmt
  | .events => a.events = b.events
  | .counters => a.counters = b.counters

/-- Two states are the same but for the parts of a list. -/
def State.SameBut (changed : List Part) (a b : State) : Prop := ∀ x, x ∉ changed → a.SameAt b x

end Sys2Proof.Machine
end

