-- ==== Sys2Proof/Certificates/Slice0/Obligations.lean ====
section
/-! DEFINITION. The statements for the provers. A command that puts something before a transmitter ends with
transmit selection (R99); such a statement gives the state that selection starts from. -/

open Sys2Proof Sys2Proof.Machine

/-! ### The machine -/

/-- File 95, "steps, each whole and indivisible": the command at the front of the queue runs with the queue's
rest. -/
def Obligations.StepRunsTheFrontCommand : Prop :=
  ∀ (c : Instr) (rest : List Instr) (s : State), s.pending = c :: rest →
    step s = exec c { s with pending := rest }

/-- File 95: no command stops the hub, takes time or touches the queue, whatever the state. Two clauses of it are
the model's: a command that finds nothing to act on completes and changes nothing (log 4), and the resets, FULL
RESET among them, leave the clock and the queue (log 33). -/
def Obligations.EveryCommandCompletes : Prop :=
  ∀ (c : Instr) (s : State), ∃ t, exec c s = .next t ∧ t.pending = s.pending ∧ t.now = s.now

/-- The model's choice (log 2, log 32; log 5 while RESET is asserted): on an empty queue the hub queues one command
that is due and changes nothing else but the count of free values used; with none due a microsecond passes, every
running timer runs down by one, and a window that is reached opens with the tolerance that stands (R131). Wait timers
stand still while evaluation is suspended (R44), and the debounce is not a timer in time (log 23). -/
def Obligations.IdleStep : Prop :=
  ∀ s : State, s.pending = [] →
    (s.resetPin = true → step s = .next { s with now := s.now + 1 }) ∧
    (s.resetPin = false → s.due ≠ [] →
      ∃ i ∈ s.due, step s = .next
        { s with pending := [i], draws := if s.due.length = 1 then s.draws else s.draws + 1 }) ∧
    (s.resetPin = false → s.due = [] → step s = .next { s with
      now := s.now + 1
      supply :=
        ⟨{ s.supply.line with qualifyTimer := s.supply.line.qualifyTimer.map (· - 1)
                              failTimer := s.supply.line.failTimer.map (· - 1) },
         { s.supply.batt with qualifyTimer := s.supply.batt.qualifyTimer.map (· - 1)
                              failTimer := s.supply.batt.failTimer.map (· - 1) }⟩
      sel := { s.sel with deadTimer := s.sel.deadTimer.map (· - 1), autoTimer := s.sel.autoTimer.map (· - 1) }
      budget := { s.budget with shedTimer := s.budget.shedTimer.map (· - 1) }
      admission := s.admission.map fun e =>
        { e with wait := if s.inForce then e.wait.map (· - 1) else e.wait, holdOff := e.holdOff.map (· - 1) }
      ports := PerPort.ofFn fun p =>
        { s.ports.get p with
          stepTimer := (s.ports.get p).stepTimer.map (· - 1)
          overdrawTimer := (s.ports.get p).overdrawTimer.map (· - 1)
          retryTimer := (s.ports.get p).retryTimer.map (· - 1)
          cleanTimer := (s.ports.get p).cleanTimer.map (· - 1) }
      timing := { s.timing with
        window := s.timing.window.map fun w =>
          if w.tol = none ∧ w.tp ≤ s.now + 1 + s.tables.timing.tolerance then
            ⟨w.tp, some s.tables.timing.tolerance⟩
          else w } })

/-! ### Resets -/

/-- The reset values that the spec gives: of the units (R2, R4, R8, R25, R60, R61, R91, R94, R96 to R98, R112, R113,
R119, R125, R126, R128, R134, R136, R137, R141, R143, R145, R156, R164) and of the tables (R5, R7, R23, R37, R39, R102,
R119, R125, R156). -/
def Obligations.ResetValues : Prop :=
  State.reset.sel = { state := .start, deadTimer := none, autoTimer := none, change := none } ∧
  (∀ src, State.reset.supply.get src =
    { ring := [], qual := .unusable, qualifyTimer := none, failTimer := none }) ∧
  State.reset.budget = { d10 := 0, cr := 0, ci := 0, c := 0, b := 0, overcommit := .clear, shedTimer := none } ∧
  State.reset.admission = [] ∧ State.reset.granted = [] ∧
  (∀ p u, State.reset.ports.get p = u →
    u.state = .vacant ∧ u.stable = .open ∧ u.present = .open ∧ u.debounce = none ∧ u.eff = none ∧
    u.rampPos = 0 ∧ u.heldCount = 0 ∧ u.stepTimer = none ∧ u.overdrawTimer = none ∧ u.retryCount = 0 ∧
    u.retryDraw = none ∧ u.retryTimer = none ∧ u.cleanTimer = none ∧ u.lastTrip = none ∧ u.lockReason = none ∧
    u.grant = 0 ∧ State.reset.grantSlots.get p = none) ∧
  (∀ d l, State.reset.links.get d = l →
    l.state = .down ∧ l.receivedHold = false ∧ l.flowSlot = none ∧ l.markSlot = none ∧ l.tx = none) ∧
  (∀ d, State.reset.queues.get d = { urgent := [], bulk := [], timed := [] }) ∧
  State.reset.freeCells = 128 ∧ State.reset.freeRecords = 64 ∧ State.reset.held = false ∧
  State.reset.timing =
      { sync := .unlocked, period := 40000, accepted := false, lastBoundary := State.reset.now,
        nextBoundary := State.reset.now + 40000, counter := 0, shadowWritten := false, lastEdge := none,
        prevPeriod := none, consistent := 0, holdover := 0, window := none } ∧
  (∀ d, (State.reset.phases.get d).active = 0 ∧ (State.reset.phases.get d).shadow = 0 ∧
    (State.reset.phases.get d).markCount = 0 ∧ (State.reset.phases.get d).releaseAt = State.reset.now) ∧
  State.reset.mgmt =
      { operational := false, lineMark := false, battMark := false, budgetMark := false, input := [], lane := [],
        inHand := .nothing } ∧
  (∀ i, State.reset.events.marks i = { set := false, reported := false, reoccurred := false }) ∧
  State.reset.events.noticePending = false ∧ State.reset.attention = false ∧
  (∀ d, State.reset.counters.endpoint.get d =
      { good := 0, checkError := 0, malformed := 0, transmitted := 0, queueFull := 0, noBuffer := 0,
        linkDown := 0, lateDrop := 0 }) ∧
  (∀ p, State.reset.counters.port.get p = { grants := 0, sheds := 0, trips := 0 }) ∧
  State.reset.counters.changeovers = 0 ∧ State.reset.counters.sourceFailures = 0 ∧
  State.reset.counters.syncLosses = 0 ∧ State.reset.counters.overruns = 0 ∧
  (∀ src, State.reset.tables.source.get src =
      { cutoff := 10500, hysteresis := 500, overVoltage := 34000, qualifyTime := 50, failTime := 20, rated := 0,
        limit := 0, curve := [⟨10500, 0⟩, ⟨34000, 100⟩] }) ∧
  State.reset.tables.selector = { preferred := some .line, autoReturn := 10, deadTime := 20 } ∧
  State.reset.tables.budget =
    { allowance := ⟨0, 0⟩, headroom := 0, shedDelay := 200, readmit := 5 } ∧
  (∀ c, State.reset.tables.cls.get c =
      { defaultDemand := 50, idleDraw := 10, maxDemand := 120, priority := 1, tolerance := 20,
        overdrawTime := 100, inrush := 2000, rampFactor := 4, retryLimit := 3, retryDelay := 20, waitLimit := 0,
        sheddable := true, rideThrough := false }) ∧
  (∀ p, State.reset.tables.port.get p = { classSource := .detected, override := none, debounce := 50 }) ∧
  State.reset.tables.route.length = 48 ∧
  (∀ e ∈ State.reset.tables.route, e =
      { valid := false, ingress := .upstream, low := 0, high := 255, action := .drop, dests := PerDest.rep false,
        cls := .bulk, late := .send, align := false }) ∧
  State.reset.tables.timing =
      { nominal := 40000, windowMin := 16000, windowMax := 42000, tolerance := 20, markInterval := PerDest.rep 0 } ∧
  State.reset.tables.holdLevel = 24 ∧
  (∀ i, State.reset.tables.events.of i = { enable := false, level := 0 })

/-- R8, R151: the three reset commands. A reset that ends takes every block to its reset values from this
moment on, and to CUT where ECUT is asserted; that pins, clock and queue stand is the model's choice (log 33).
While RESET is asserted the reset values stand, and its release begins them anew. -/
def Obligations.ResetCommands : Prop :=
  ∀ s : State,
    exec .resetAssert s = .next (State.afterReset s.pending s.now s.draws true s.ecutPin) ∧
    (s.resetPin = true →
      exec .powerOnReset s = .next (State.afterReset s.pending s.now s.draws true s.ecutPin)) ∧
    (s.resetPin = false → exec .resetRelease s = .next s) ∧
    (s.ecutPin = false →
      (s.resetPin = false →
        exec .powerOnReset s = .next (State.afterReset s.pending s.now s.draws false false)) ∧
      (s.resetPin = true →
        exec .resetRelease s = .next (State.afterReset s.pending s.now s.draws false false))) ∧
    (s.ecutPin = true →
      ∃ t, (s.resetPin = false → exec .powerOnReset s = .next t) ∧
        (s.resetPin = true → exec .resetRelease s = .next t) ∧
        t.sel.state = .cut ∧ (t.events.marks (.hub .cut)).set = true ∧ t.budget = Budget.reset ∧
        t.SameBut [.sel, .events, .budget] (State.afterReset s.pending s.now s.draws false true))

/-! ### Invariants -/

/-- Every invariant below holds right after reset. -/
def Obligations.ResetIsSafe : Prop :=
  State.reset.Bounded ∧ State.reset.RefsCounted ∧ State.reset.PoolJudged ∧ State.reset.Powered ∧
    State.reset.LinksFollow ∧ State.reset.tables.InRange ∧ State.reset.Settled ∧
    State.reset.PeriodInRange ∧ State.reset.Budgeted ∧ State.reset.TimersPlaced

/-- R113, R136, R137, R143, R145: no queue, lane, list or count ever passes its bound, and the lane never
holds two NOTICE messages. -/
def Obligations.StepKeepsBounded : Prop :=
  ∀ s t : State, s.Bounded → step s = .next t → t.Bounded

/-- R116: every record in use counts the queue entries, timed entries and transmissions that refer to it, and
has at least one. -/
def Obligations.StepKeepsRefsCounted : Prop :=
  ∀ s t : State, s.RefsCounted → step s = .next t → t.RefsCounted

/-- R119, R120, R121: a pool that is CLEAR has more free cells than the hold level, which stays in 8 to 64. -/
def Obligations.StepKeepsPoolJudged : Prop :=
  ∀ s t : State, s.PoolJudged → step s = .next t → t.PoolJudged

/-- R40, R41, R43, R62: a port is powered or paused exactly while it stands on the granted list, and none is
while the hub is UNCONFIGURED or the selector in START, NO_SOURCE or CUT. -/
def Obligations.StepKeepsPowered : Prop :=
  ∀ s t : State, s.Powered → step s = .next t → t.Powered

/-- R91: a port link is DOWN exactly while its port's switch is open. -/
def Obligations.StepKeepsLinksFollowing : Prop :=
  ∀ s t : State, s.Powered → s.LinksFollow → step s = .next t → t.LinksFollow

/-- R5, R7, R23, R37, R39, R102, R103, R119, R125, R130, R131, R161: the tables hold only what a load may write, and
the period in use stays within 10,000 to 50,000 µs. -/
def Obligations.StepKeepsRanges : Prop :=
  (∀ s t : State, s.tables.InRange → step s = .next t → t.tables.InRange) ∧
  (∀ s t : State, s.tables.InRange → s.PeriodInRange → step s = .next t → t.PeriodInRange)

/-- R3, R4, R13, R17, R19, R33, R70, R74, R77, R79: a timer of a source, the selector, the budget unit or a port runs
only in the state that it belongs to, and a change is pending only in LINE or BATT. -/
def Obligations.StepKeepsTimersPlaced : Prop :=
  ∀ s t : State, s.Powered → s.TimersPlaced → step s = .next t → t.TimersPlaced

/-- R99: no transmitter is idle while a message is offered to it. -/
def Obligations.StepKeepsSettled : Prop :=
  ∀ s t : State, s.Settled → step s = .next t → t.Settled

/-- R30, R31, R47: the available budget and the granted sum never exceed 6000 dW, and no grant 1200 dW. -/
def Obligations.StepKeepsBudgeted : Prop :=
  ∀ s t : State, s.Powered → s.tables.InRange → s.Budgeted → step s = .next t → t.Budgeted

/-! ### Admission -/

/-- R44, R45: the steps of an evaluation. One not in force does nothing. One in force stops with no eligible entry;
grants the head whose need F meets and goes on; sheds by pre-emption until F meets it, where F and the pre-emptable sum
together do, grants the head and goes on; and stops otherwise. So it ends with no eligible entry, or with a head whose
need neither F nor F and the pre-emptable sum together meet. -/
def Obligations.EvaluationRunsToItsEnd : Prop :=
  ∀ s : State,
    (s.inForce = false → s.evaluate = s) ∧
    (s.inForce = true → s.head = none → s.evaluate = s) ∧
    (∀ e, s.inForce = true → s.head = some e →
      (s.need e ≤ s.free → s.evaluate = (s.grantHead e).evaluate) ∧
      (s.free < s.need e → s.need e ≤ s.free + (s.preemptable (s.priority e.port) : Int) →
        s.evaluate =
          ((s.shedUntil (State.preemptCandidate (s.priority e.port)) (s.need e)).grantHead e).evaluate) ∧
      (s.free + (s.preemptable (s.priority e.port) : Int) < s.need e → s.evaluate = s)) ∧
    (∀ n, s.preemptable n = ((s.granted.filter fun p => s.sheddable p && decide (s.priority p < n) &&
      decide ((s.ports.get p).state ≠ .paused)).map fun p => (s.ports.get p).grant).sum) ∧
    (∀ e, s.need e = (e.draw : Int) - (if e.reason = .increase then ((s.ports.get e.port).grant : Int) else 0)) ∧
    (s.inForce = true → ∀ e, s.evaluate.head = some e →
      s.evaluate.free + (s.evaluate.preemptable (s.evaluate.priority e.port) : Int) < s.evaluate.need e)

/-- R42, R46: the head is the eligible entry of the highest priority, and of those the nearest to the front. The
victim is the candidate of the lowest priority, and of those the latest on the granted list; shedding takes nobody
when F is enough, and else goes on until it is or no candidate is left. -/
def Obligations.HeadVictimAndShedding : Prop :=
  (∀ s : State,
     (s.head = none ↔ ∀ e ∈ s.admission, e.holdOff.isSome = true) ∧
     (∀ e, s.head = some e → ∃ before behind, s.admission = before ++ e :: behind ∧ e.holdOff = none ∧
       (∀ x ∈ before, x.holdOff = none → s.priority x.port < s.priority e.port) ∧
       (∀ x ∈ behind, x.holdOff = none → s.priority x.port ≤ s.priority e.port))) ∧
  (∀ (s : State) (candidate : Port → Bool),
     (s.victim candidate = none ↔ ∀ p ∈ s.granted, candidate p = false) ∧
     (∀ p, s.victim candidate = some p → ∃ before behind, s.granted = before ++ p :: behind ∧
       candidate p = true ∧
       (∀ q ∈ before, candidate q = true → s.priority p ≤ s.priority q) ∧
       (∀ q ∈ behind, candidate q = true → s.priority p < s.priority q))) ∧
  (∀ (candidate : State → Port → Bool) (need : Int) (s : State),
     (need ≤ s.free → s.shedUntil candidate need = s) ∧
     (need ≤ (s.shedUntil candidate need).free ∨
       ∀ p ∈ (s.shedUntil candidate need).granted, candidate (s.shedUntil candidate need) p = false))

/-- R49: what shedding a victim does, and what it leaves; with it the passage of its link to DOWN, which counts each
flushed entry and a cut DATA transmission as a link-down drop of the port (R92, R118). -/
def Obligations.ShedEffect : Prop :=
  ∀ (s : State) (p : Port), s.Powered → s.LinksFollow → p ∈ s.granted →
    (s.shed p).granted = s.granted.filter (fun q => decide (q ≠ p)) ∧
    ((s.shed p).ports.get p).state = .waiting ∧ ((s.shed p).ports.get p).grant = 0 ∧
    ((s.shed p).ports.get p).stepTimer = none ∧ ((s.shed p).ports.get p).overdrawTimer = none ∧
    ((s.shed p).ports.get p).rampPos = 0 ∧
    ((s.shed p).ports.get p).retryCount = (s.ports.get p).retryCount ∧
    (∀ q, q ≠ p → (s.shed p).ports.get q = s.ports.get q) ∧
    (s.shed p).free = s.free + ((s.ports.get p).grant : Int) ∧
    (s.shed p).linkState (.port p) = .down ∧
    (s.linkState (.port p) ≠ .down → (s.shed p).queues.get (.port p) = Queues.reset ∧
      ((s.shed p).links.get (.port p)).receivedHold = false ∧ ((s.shed p).links.get (.port p)).flowSlot = none ∧
      ((s.shed p).links.get (.port p)).markSlot = none ∧ ((s.shed p).links.get (.port p)).tx = none) ∧
    (∀ d, (s.shed p).counters.endpoint.get d =
      (if d = .port p ∧ s.linkState d ≠ .down then
        { s.counters.endpoint.get d with
          linkDown := (s.counters.endpoint.get d).linkDown + BitVec.ofNat 32 ((match (s.links.get (.port p)).tx with
            | some ⟨.data _, _⟩ => 1
            | _ => 0) + (s.queues.get (.port p)).urgent.length + (s.queues.get (.port p)).bulk.length +
            (s.queues.get (.port p)).timed.length) }
      else s.counters.endpoint.get d)) ∧
    (s.shed p).entryOf p = some
      { port := p, reason := .shed, draw := s.clampDraw p (s.ports.get p).grant, wait := none,
        holdOff := if s.tables.budget.readmit = 0 then none
          else some (s.tables.budget.readmit * 1000000) } ∧
    (s.shed p).admission.map (·.port) =
      (if (s.entryOf p).isSome then s.admission.map (·.port) else s.admission.map (·.port) ++ [p]) ∧
    (∀ q, q ≠ p → (s.shed p).entryOf q = s.entryOf q) ∧
    ((s.shed p).counters.port.get p).sheds = (s.counters.port.get p).sheds + 1 ∧
    (∀ q, (s.shed p).grantSlots.get q = s.grantSlots.get q ∨
      (q = p ∧ (s.shed p).grantSlots.get q = none)) ∧
    (s.shed p).SameBut [.admission, .granted, .grantSlots, .ports, .links, .queues, .records, .held, .events,
      .counters] s

/-- R47: granting the head, from WAITING or as an increase, and what it leaves. -/
def Obligations.GrantEffect : Prop :=
  ∀ (s : State) (e : Entry), s.Powered → s.LinksFollow → e ∈ s.admission →
    (s.grantHead e).granted = s.granted.filter (fun q => decide (q ≠ e.port)) ++ [e.port] ∧
    (s.grantHead e).admission = s.admission.filter (fun x => decide (x.port ≠ e.port)) ∧
    ((s.grantHead e).ports.get e.port).grant = e.draw ∧
    (s.grantHead e).free = s.free - s.need e ∧
    (e.reason ≠ .increase →
      ((s.grantHead e).ports.get e.port).state = .ramp ∧
      ((s.grantHead e).ports.get e.port).rampPos = 0 ∧
      ((s.grantHead e).ports.get e.port).heldCount = 0 ∧
      (∀ c, s.classOf e.port = some c →
        ((s.grantHead e).ports.get e.port).stepTimer = some (c.rampFactor * 1000)) ∧
      (s.grantHead e).linkState (.port e.port) = .wait) ∧
    (e.reason = .increase →
      ((s.grantHead e).ports.get e.port).state = (s.ports.get e.port).state ∧
      (s.grantHead e).links = s.links) ∧
    (∀ c, s.classOf e.port = some c →
      (s.grantHead e).grantSlots.get e.port = some
        { grant := e.draw, tolerance := c.tolerance,
          status := if (s.ports.get e.port).state = .limit then .limit else .on }) ∧
    (∀ q, q ≠ e.port → (s.grantHead e).ports.get q = s.ports.get q ∧
      (s.grantHead e).grantSlots.get q = s.grantSlots.get q) ∧
    ((s.grantHead e).counters.port.get e.port).grants = (s.counters.port.get e.port).grants + 1 ∧
    (s.grantHead e).SameBut [.admission, .granted, .grantSlots, .ports, .links, .events, .counters] s

/-- R52 to R56: a DEMAND of a port in RAMP, ON or LIMIT is clamped into its class and then reduces, repeats or
seeks to raise the grant; of any other port it is dropped and counted. -/
def Obligations.DemandEffect : Prop :=
  ∀ (s : State) (p : Port) (n : Nat) (c : ClassRecord),
    ((s.ports.get p).state.closed = false →
      s.demand p n = s.countEndpoint (.port p) EndpointCounters.addMalformed) ∧
    ((s.ports.get p).state.closed = true → s.classOf p = some c →
      (min (max n c.idleDraw) c.maxDemand < (s.ports.get p).grant →
        s.demand p n = (State.postGrant p (if (s.ports.get p).state = .limit then .limit else .on)
          { s with
            ports := s.ports.set p { s.ports.get p with grant := min (max n c.idleDraw) c.maxDemand }
            admission := s.admission.filter fun e =>
              !(decide (e.port = p) && decide (e.reason = .increase)) }).evaluate) ∧
      (min (max n c.idleDraw) c.maxDemand = (s.ports.get p).grant →
        s.demand p n = State.postGrant p (if (s.ports.get p).state = .limit then .limit else .on)
          { s with
            admission := s.admission.filter fun e =>
              !(decide (e.port = p) && decide (e.reason = .increase)) }) ∧
      ((s.ports.get p).grant < min (max n c.idleDraw) c.maxDemand → s.entryOf p = none →
        s.demand p n = (State.postGrant p .pending
          { s with
            admission := s.admission ++
              [{ port := p, reason := .increase, draw := min (max n c.idleDraw) c.maxDemand,
                 wait := if c.waitLimit = 0 then none else some (c.waitLimit * 1000000),
                 holdOff := none }] }).evaluate) ∧
      (∀ x, (s.ports.get p).grant < min (max n c.idleDraw) c.maxDemand → s.entryOf p = some x →
        s.demand p n = (State.postGrant p .pending
          { s with
            admission := s.admission.map fun e =>
              if e.port = p then
                { port := p, reason := .increase, draw := min (max n c.idleDraw) c.maxDemand,
                  wait := x.wait, holdOff := none }
              else e }).evaluate))

/-- R48, R50, R51: what the three timers of an admission entry do when they run out. -/
def Obligations.AdmissionTimerExpiries : Prop :=
  ∀ (s : State) (p : Port) (e : Entry), s.resetPin = false → e ∈ s.admission → e.port = p →
    (e.holdOff.isSome = true →
      exec (.holdOffExpiry p) s = .next
        (State.selectAll (State.evaluate
          { s with
            admission := s.admission.map fun x => if x.port = p then { x with holdOff := none } else x }))) ∧
    (e.wait.isSome = true → s.inForce = true → e.reason ≠ .increase →
      ∃ t, exec (.waitTimerExpiry p) s = .next t ∧ t.entryOf p = none ∧
        t.admission = s.admission.filter (fun x => decide (x.port ≠ p)) ∧
        (t.ports.get p).state = .denied ∧ (∀ q, q ≠ p → t.ports.get q = s.ports.get q) ∧
        (t.events.marks (.hub .admitDenied)).set = true ∧
        t.SameBut [.admission, .ports, .events, .links, .queues, .grantSlots, .mgmt] s) ∧
    (e.wait.isSome = true → s.inForce = true → e.reason = .increase →
      exec (.increaseWaitExpiry p) s = .next
        (State.selectAll (State.postGrant p .refused
          { s with admission := s.admission.filter fun x => decide (x.port ≠ p) })))

/-- R12, R58: a loss of supply takes every port of the granted list to WAITING, and makes their SUPPLY entries in
the order of that list. -/
def Obligations.SupplyLossOrder : Prop :=
  ∀ s : State, s.Powered →
    s.supplyLoss.granted = [] ∧ s.supplyLoss.grantedSum = 0 ∧
    s.supplyLoss.admission =
      s.admission.filter (fun e => !(decide (e.reason = .increase) && decide (e.port ∈ s.granted))) ++
      s.granted.map (fun p =>
        { port := p, reason := .supply, draw := s.clampDraw p (s.ports.get p).grant, wait := none,
          holdOff := none }) ∧
    (∀ p ∈ s.granted, (s.supplyLoss.ports.get p).state = .waiting ∧
      (s.supplyLoss.ports.get p).grant = 0 ∧ s.supplyLoss.linkState (.port p) = .down) ∧
    (∀ p, p ∉ s.granted → s.supplyLoss.ports.get p = s.ports.get p) ∧
    s.supplyLoss.SameBut [.admission, .granted, .grantSlots, .ports, .links, .queues, .records, .held, .events,
      .counters] s

/-! ### Sources and the selector -/

/-- R1, R2: a scan completion replaces the oldest sample of each ring, fills an empty ring, and replaces the latest
samples; then every user takes the scan once: the two sources (R3, R4), the budget unit (R32), and each port's detect
line (R64) and power unit (R70, R73). The order in which they take it is an operand, and users that it does not name
follow in the order of file 95; both are the model's choice (log 7). -/
def Obligations.ScanStoresSamples : Prop :=
  (∀ (x : Samples) (order : List ScanPart) (s u : State), s.resetPin = false →
    u = { s with
      supply := ⟨{ s.supply.line with ring := if s.supply.line.ring = [] then List.replicate 8 (min x.line 4095 * 10)
                     else s.supply.line.ring.tail ++ [min x.line 4095 * 10] },
                 { s.supply.batt with ring := if s.supply.batt.ring = [] then List.replicate 8 (min x.batt 4095 * 10)
                     else s.supply.batt.ring.tail ++ [min x.batt 4095 * 10] }⟩
      busVolts := min x.bus 4095 * 10
      ports := PerPort.ofFn fun p => { s.ports.get p with
        sense := min (x.sense.get p) 511 * 10, current := min (x.current.get p) 1023 * 10 } } →
    exec (.scanCompletion x order) s =
      .next (State.selectAll ((scanOrder order).foldl (fun v part => v.scanPart part) u))) ∧
  (∀ order : List ScanPart,
    (scanOrder order).Nodup ∧ (∀ part, part ∈ scanOrder order) ∧
    (order.Nodup → ∃ rest, scanOrder order = order ++ rest ∧
      rest.Sublist ([.source .line, .source .batt, .budget] ++ Port.all.map .detect ++ Port.all.map .judge))) ∧
  (∀ (s : State) (src : Source) (p : Port),
    s.scanPart (.source src) = s.scanSource src ∧ s.scanPart .budget = s.scanBudget ∧
    s.scanPart (.detect p) = s.scanDetect p ∧ s.scanPart (.judge p) = s.scanJudge p) ∧
  ∀ (x : Samples) (order : List ScanPart) (s : State), s.resetPin = false →
    ∃ t, exec (.scanCompletion x order) s = .next t ∧
      (t.supply.get .line).ring =
        (if (s.supply.get .line).ring = [] then List.replicate 8 (min x.line 4095 * 10)
          else (s.supply.get .line).ring.tail ++ [min x.line 4095 * 10]) ∧
      (t.supply.get .batt).ring =
        (if (s.supply.get .batt).ring = [] then List.replicate 8 (min x.batt 4095 * 10)
          else (s.supply.get .batt).ring.tail ++ [min x.batt 4095 * 10]) ∧
      t.busVolts = min x.bus 4095 * 10 ∧
      (∀ p, (t.ports.get p).sense = min (x.sense.get p) 511 * 10 ∧
        (t.ports.get p).current = min (x.current.get p) 1023 * 10) ∧
      t.SameBut [.supply, .busVolts, .sel, .budget, .admission, .granted, .grantSlots, .ports, .links, .queues,
        .records, .held, .events, .counters, .mgmt] s

/-- R3, R4: how a source is judged at a scan. A voltage above the over-voltage limit, and with a fail time of 0 one
below the cutoff, makes a USABLE source UNUSABLE at that scan, with all that the expiry of its fail timer would bring;
a qualify time of 0 likewise makes it USABLE with all that the expiry of its qualify timer would bring. -/
def Obligations.SourceJudgement : Prop :=
  ∀ (s : State) (src : Source) (v : Nat) (r : SourceRecord),
    (s.supply.get src).average = some v → s.tables.source.get src = r →
    ((s.supply.get src).qual = .unusable → ¬(r.cutoff + r.hysteresis ≤ v ∧ v ≤ r.overVoltage) →
      s.scanSource src = s) ∧
    ((s.supply.get src).qual = .unusable → r.cutoff + r.hysteresis ≤ v → v ≤ r.overVoltage →
      r.qualifyTime ≠ 0 →
      s.scanSource src = s.modSource src fun m =>
        { m with qual := .qualifying, qualifyTimer := some (r.qualifyTime * 10000) }) ∧
    ((s.supply.get src).qual = .unusable → r.cutoff + r.hysteresis ≤ v → v ≤ r.overVoltage →
      r.qualifyTime = 0 → ((s.scanSource src).supply.get src).qual = .usable ∧
      (s.resetPin = false →
        exec (.qualifyTimerExpiry src)
          (s.modSource src fun m => { m with qual := .qualifying, qualifyTimer := some 0 }) =
          .next (s.scanSource src).selectAll)) ∧
    ((s.supply.get src).qual = .qualifying → r.cutoff + r.hysteresis ≤ v → v ≤ r.overVoltage →
      s.scanSource src = s) ∧
    ((s.supply.get src).qual = .qualifying → ¬(r.cutoff + r.hysteresis ≤ v ∧ v ≤ r.overVoltage) →
      s.scanSource src = s.modSource src fun m => { m with qual := .unusable, qualifyTimer := none }) ∧
    ((s.supply.get src).qual = .usable → r.cutoff ≤ v → v ≤ r.overVoltage →
      s.scanSource src = s.modSource src fun m => { m with failTimer := none }) ∧
    ((s.supply.get src).qual = .usable → v < r.cutoff → v ≤ r.overVoltage → r.failTime ≠ 0 →
      s.scanSource src = s.modSource src fun m =>
        { m with failTimer := if m.failTimer.isSome then m.failTimer else some (r.failTime * 1000) }) ∧
    ((s.supply.get src).qual = .usable → v < r.cutoff → v ≤ r.overVoltage → r.failTime = 0 →
      (s.supply.get src).failTimer.isSome = true → s.scanSource src = s) ∧
    ((s.supply.get src).qual = .usable →
      r.overVoltage < v ∨ (v < r.cutoff ∧ r.failTime = 0 ∧ (s.supply.get src).failTimer = none) →
      ((s.scanSource src).supply.get src).qual = .unusable ∧
      ((s.scanSource src).supply.get src).failTimer = none ∧
      (s.scanSource src).counters.sourceFailures = s.counters.sourceFailures + 1 ∧
      ((s.scanSource src).events.marks (.hub .sourceFailed)).set = true ∧
      (s.resetPin = false →
        exec (.failTimerExpiry src) (s.modSource src fun m => { m with failTimer := some 0 }) =
          .next (s.scanSource src).selectAll))

/-- R3, R4, R10, R11, R12: the two timers of a source. The qualify timer makes it USABLE, and START or NO_SOURCE
close a source; the fail timer makes it UNUSABLE, counted and reported, and where the source feeds the bus a
changeover begins, or the selector enters NO_SOURCE and every port loses its supply. -/
def Obligations.SourceTimerExpiries : Prop :=
  (∀ (s : State) (src : Source), s.resetPin = false → (s.supply.get src).qual = .qualifying →
     (s.supply.get src).qualifyTimer.isSome = true →
     ∃ t, exec (.qualifyTimerExpiry src) s = .next t ∧
       (t.supply.get src).qual = .usable ∧ (t.supply.get src).qualifyTimer = none ∧
       t.supply.get src.other = s.supply.get src.other ∧ t.counters.changeovers = s.counters.changeovers ∧
       (s.sel.state = .start ∨ s.sel.state = .noSource →
         t.sel.state = .active (if (s.supply.get src.other).qual = .usable then
           s.tables.selector.preferred.getD .line else src)) ∧
       (s.sel.state = .noSource → (t.events.marks (.hub .sourceChanged)).set = true) ∧
       (s.sel.state = .start → t.events = s.events) ∧
       (s.sel.state = .cut → t.sel.state = .cut) ∧
       t.SameBut [.supply, .sel, .budget, .admission, .granted, .grantSlots, .ports, .links, .queues, .records,
         .held, .events, .counters, .mgmt] s) ∧
  (∀ (s : State) (src : Source), s.resetPin = false → (s.supply.get src).qual = .usable →
     (s.supply.get src).failTimer.isSome = true →
     ∃ t, exec (.failTimerExpiry src) s = .next t ∧
       (t.supply.get src).qual = .unusable ∧ (t.supply.get src).failTimer = none ∧
       t.supply.get src.other = s.supply.get src.other ∧
       t.counters.sourceFailures = s.counters.sourceFailures + 1 ∧
       (t.events.marks (.hub .sourceFailed)).set = true ∧
       (s.sel.state ≠ .active src → t.sel.state = s.sel.state) ∧
       (s.sel.state = .active src → (s.supply.get src.other).qual = .usable →
         t.sel = { state := .changeover src.other, deadTimer := some (s.tables.selector.deadTime * 10),
                   autoTimer := none, change := none }) ∧
       (s.sel.state = .active src → (s.supply.get src.other).qual ≠ .usable →
         t.sel = { state := .noSource, deadTimer := none, autoTimer := none, change := none } ∧
         t.granted = [] ∧ t.budget = Budget.reset ∧ (t.events.marks (.hub .noSource)).set = true) ∧
       t.SameBut [.supply, .sel, .budget, .admission, .granted, .grantSlots, .ports, .links, .queues, .records,
         .held, .events, .counters, .mgmt] s)

/-- R13, R80: how a changeover begins; and R17, when the auto-return timer starts, runs on and goes idle, and that it
begins a changeover, with a delay of 0 at once. -/
def Obligations.ChangeoverBegins : Prop :=
  (∀ (s : State) (target : Source),
    (s.beginChangeover target).sel =
      { state := .changeover target, deadTimer := some (s.tables.selector.deadTime * 10), autoTimer := none,
        change := none } ∧
    (s.beginChangeover target).budget = { s.budget with overcommit := .clear, shedTimer := none } ∧
    (s.beginChangeover target).granted = s.granted ∧
    (s.beginChangeover target).inForce = false ∧
    (∀ p, (s.ports.get p).state.closed = true → s.rideThrough p = false →
      ((s.beginChangeover target).ports.get p).state = .paused ∧
      ((s.beginChangeover target).ports.get p).grant = (s.ports.get p).grant ∧
      ((s.beginChangeover target).ports.get p).stepTimer = none ∧
      (s.beginChangeover target).linkState (.port p) = .down) ∧
    (∀ p, (s.ports.get p).state.closed = false ∨ s.rideThrough p = true →
      (s.beginChangeover target).ports.get p = s.ports.get p ∧
      (s.beginChangeover target).linkState (.port p) = s.linkState (.port p)) ∧
    (s.beginChangeover target).admission = s.admission.filter (fun e =>
      !(decide (e.reason = .increase) && (s.ports.get e.port).state.closed && !s.rideThrough e.port))) ∧
  (∀ (s : State) (a q : Source), s.resetPin = false → s.sel.state = .active a → s.sel.autoTimer.isSome = true →
    s.tables.selector.preferred = some q → q ≠ a → (s.supply.get q).qual = .usable →
    exec .autoReturnExpiry s = .next (s.beginChangeover q).selectAll) ∧
  (∀ s : State,
    (∀ a q, s.sel.state = .active a → s.tables.selector.preferred = some q → q ≠ a →
      (s.supply.get q).qual = .usable →
      (s.sel.autoTimer.isSome = true → s.judgeAuto = s) ∧
      (s.sel.autoTimer = none → s.tables.selector.autoReturn ≠ 0 → s.judgeAuto = { s with
        sel := { s.sel with autoTimer := some (s.tables.selector.autoReturn * 1000000) } }) ∧
      (s.sel.autoTimer = none → s.tables.selector.autoReturn = 0 → s.judgeAuto = s.beginChangeover q)) ∧
    ((∀ a q, s.sel.state = .active a → s.tables.selector.preferred = some q → q ≠ a →
      (s.supply.get q).qual ≠ .usable) → s.judgeAuto = { s with sel := { s.sel with autoTimer := none } }))

/-- R15, R16, R17: how a changeover ends: at its target, in a fallback, or in NO_SOURCE. With an auto-return delay
of 0 the selector may set out at once for the preferred source. The second part gives steps 1 to 6 of R15 in full: `w`
has the budget computed from the source that feeds the bus now, `u` has the ports shed at once, PAUSED ones included,
and in `v` every port still PAUSED ramps again with a GRANT for the grant it kept. That the auto-return timer is
judged last is the model's choice (log 12). -/
def Obligations.DeadTimeExpiry : Prop :=
  (∀ (s w u : State) (target a : Source), s.resetPin = false → s.sel.state = .changeover target →
    s.sel.deadTimer.isSome = true → (s.supply.get a).qual = .usable →
    a = target ∨ (a = target.other ∧ (s.supply.get target).qual ≠ .usable) →
    w = State.computeBudget { s with sel := { s.sel with state := .active a, deadTimer := none } } →
    u = w.shedUntil State.sheddable 0 →
    ∃ v : State,
      exec .deadTimeExpiry s = .next (State.selectAll (State.judgeAuto (State.evaluate
        (if a = target then State.raise (.hub .sourceChanged)
          { v with counters := { v.counters with changeovers := v.counters.changeovers + 1 } }
        else v.raise (.hub .sourceRefused))))) ∧
      (0 ≤ u.free → v.budget = { u.budget with overcommit := .clear, shedTimer := none }) ∧
      (u.free < 0 → v.budget = { u.budget with overcommit := .unresolved, shedTimer := none } ∧
        (v.events.marks (.hub .overcommit)).set = true ∧ ∀ p ∈ u.granted, u.sheddable p = false) ∧
      (∀ p c, (u.ports.get p).state = .paused → u.classOf p = some c →
        v.ports.get p = { u.ports.get p with
          state := .ramp, rampPos := 0, heldCount := 0, periodHeld := false
          stepTimer := some (c.rampFactor * 1000) } ∧
        v.links.get (.port p) = { u.links.get (.port p) with state := .wait, receivedHold := false } ∧
        v.grantSlots.get p = some ⟨(u.ports.get p).grant, .on, c.tolerance⟩) ∧
      (∀ p, (u.ports.get p).state ≠ .paused → v.ports.get p = u.ports.get p ∧
        v.links.get (.port p) = u.links.get (.port p) ∧ v.grantSlots.get p = u.grantSlots.get p) ∧
      v.SameBut [.budget, .events, .ports, .links, .grantSlots] u) ∧
  (∀ (s : State) (target : Source), s.resetPin = false → s.TimersPlaced → s.sel.state = .changeover target →
    ∃ t, exec .deadTimeExpiry s = .next t ∧
      ((s.supply.get target).qual = .usable →
        t.sel.state = (if s.tables.selector.autoReturn = 0 ∧
            s.tables.selector.preferred = some target.other ∧ (s.supply.get target.other).qual = .usable
          then .changeover target.other else .active target) ∧
        t.counters.changeovers = s.counters.changeovers + 1 ∧
        (t.events.marks (.hub .sourceChanged)).set = true) ∧
      ((s.supply.get target).qual ≠ .usable → (s.supply.get target.other).qual = .usable →
        t.sel.state = .active target.other ∧ t.counters.changeovers = s.counters.changeovers ∧
        (t.events.marks (.hub .sourceRefused)).set = true) ∧
      ((s.supply.get target).qual ≠ .usable → (s.supply.get target.other).qual ≠ .usable →
        t.sel = { state := .noSource, deadTimer := none, autoTimer := none, change := none } ∧
        t.granted = [] ∧ t.budget = Budget.reset ∧ t.counters.changeovers = s.counters.changeovers ∧
        (t.events.marks (.hub .sourceRefused)).set = true ∧
        (t.events.marks (.hub .noSource)).set = true) ∧
      (∀ a, t.sel.state = .active a → ∀ p, (t.ports.get p).state ≠ .paused) ∧
      t.SameBut [.sel, .budget, .admission, .granted, .grantSlots, .ports, .links, .queues, .records, .held,
        .events, .counters, .mgmt] s)

/-- R12, R21, R22: ECUT cuts every accessory off in any selector state, and its release goes through START. The
first clause is the model's choice (log 5): while RESET is asserted an edge of ECUT moves the pin alone, and the
level at the end of the reset decides (compare R8, R151). -/
def Obligations.EcutCommands : Prop :=
  ∀ s : State,
    (s.resetPin = true → exec .ecutAssert s = .next { s with ecutPin := true } ∧
      exec .ecutRelease s = .next { s with ecutPin := false }) ∧
    (s.resetPin = false → s.Powered →
      ∃ t, exec .ecutAssert s = .next t ∧ t.ecutPin = true ∧
        t.sel = { state := .cut, deadTimer := none, autoTimer := none, change := none } ∧
        t.budget = Budget.reset ∧ t.granted = [] ∧ (t.events.marks (.hub .cut)).set = true ∧
        (∀ p, (t.ports.get p).state.closed = false) ∧
        (∀ p, p ∉ s.granted → t.ports.get p = s.ports.get p) ∧
        t.SameBut [.ecutPin, .sel, .budget, .admission, .granted, .grantSlots, .ports, .links, .queues,
          .records, .held, .events, .counters, .mgmt] s) ∧
    (s.resetPin = false →
      ∃ t, exec .ecutRelease s = .next t ∧ t.ecutPin = false ∧
        (s.sel.state ≠ .cut → t.sel = s.sel) ∧
        (s.sel.state = .cut → t.sel.state =
          (if (s.supply.get .line).qual = .usable then
            if (s.supply.get .batt).qual = .usable then .active (s.tables.selector.preferred.getD .line)
            else .active .line
          else if (s.supply.get .batt).qual = .usable then .active .batt else .start)) ∧
        t.SameBut [.ecutPin, .sel, .grantSlots, .links, .queues, .mgmt] s)

/-! ### The budget -/

/-- R27, R28: the derating at, below, above and between the points of an ascending curve; between two points the
whole exact value is rounded down, and the result lies between the two end values. -/
def Obligations.Derating : Prop :=
  ∀ (curve : List CurvePoint) (v : Nat), ascending curve = true →
    (∀ a ∈ curve, a.volts = v → derate curve v = a.percent * 10) ∧
    (∀ a rest, curve = a :: rest → v < a.volts → derate curve v = a.percent * 10) ∧
    (∀ before a, curve = before ++ [a] → a.volts ≤ v → derate curve v = a.percent * 10) ∧
    (∀ before a b rest, curve = before ++ a :: b :: rest → a.volts < v → v < b.volts →
      (derate curve v : Int) =
        ((a.percent : Int) * 10 * (b.volts - a.volts) + (b.percent - a.percent) * 10 * (v - a.volts)) /
          (b.volts - a.volts) ∧
      min a.percent b.percent * 10 ≤ derate curve v ∧ derate curve v ≤ max a.percent b.percent * 10)

/-- R26, R29, R30: what a budget computation gives, the range of its figures, and when it gives nothing. -/
def Obligations.BudgetFigures : Prop :=
  ∀ s : State,
    (s.sel.state.feeds = false → s.computeBudget = s) ∧
    (∀ src v r, s.sel.state = .active src ∨ s.sel.state = .changeover src →
      (s.supply.get src).average = some v → s.tables.source.get src = r →
      s.computeBudget = { s with budget := { s.budget with
        d10 := derate r.curve v
        cr := r.rated * derate r.curve v / 1000
        ci := v * r.limit / 100000
        c := min (r.rated * derate r.curve v / 1000) (v * r.limit / 100000)
        b := min (r.rated * derate r.curve v / 1000) (v * r.limit / 100000)
          - s.tables.budget.allowance.get src - s.tables.budget.headroom } }) ∧
    (∀ src v, s.sel.state = .active src ∨ s.sel.state = .changeover src →
      (s.supply.get src).average = some v →
      ((s.tables.source.get src).rated = 0 ∨ (s.tables.source.get src).limit = 0 →
        s.computeBudget.budget.c = 0) ∧
      (s.tables.InRange → s.computeBudget.budget.cr ≤ 6000 ∧ s.computeBudget.budget.c ≤ 6000 ∧
        s.computeBudget.budget.b ≤ 6000)) ∧
    (∀ src, s.sel.state.budgetSource = some src → (s.supply.get src).ring = [] → s.computeBudget = s)

/-- R32 to R35: the overcommit state. At a scan the budget is computed, in LINE or BATT the state is judged by F, and
the admission unit evaluates; a shed delay of 0 expires at the scan that starts it. When the delay runs out, `u` is
the state with candidates shed until F is not negative, and `v` is `u` with the state CLEAR, or UNRESOLVED and reported
while F is still negative. That one evaluation follows where a port was shed is the model's choice (log 13). -/
def Obligations.OvercommitAndShedDelay : Prop :=
  ∀ s u v w : State,
    u = State.shedUntil State.overcommitCandidate 0
      { s with budget := { s.budget with overcommit := .clear, shedTimer := none } } →
    v = (if 0 ≤ u.free then u
      else State.raise (.hub .overcommit) { u with budget := { u.budget with overcommit := .unresolved } }) →
    w = (if u.granted = s.granted then v else v.evaluate) →
    (s.resetPin = false → s.budget.shedTimer.isSome = true →
      exec .shedDelayExpiry s = .next w.selectAll) ∧
    (u.free < 0 → ∀ p ∈ u.granted, u.sheddable p = false ∨ (u.ports.get p).state = .paused) ∧
    u.SameBut [.budget, .admission, .granted, .grantSlots, .ports, .links, .queues, .records, .held, .events,
      .counters] s ∧
    u.budget = { s.budget with overcommit := .clear, shedTimer := none } ∧
    (0 ≤ s.free → s.judgeOvercommit =
      { s with budget := { s.budget with overcommit := .clear, shedTimer := none } }) ∧
    (s.free < 0 → s.budget.overcommit = .timing → s.judgeOvercommit = s) ∧
    (s.free < 0 → s.budget.overcommit = .unresolved →
      (∀ p ∈ s.granted, s.sheddable p = false ∨ (s.ports.get p).state = .paused) → s.judgeOvercommit = s) ∧
    (s.free < 0 →
      s.budget.overcommit = .clear ∨ (s.budget.overcommit = .unresolved ∧
        ∃ p ∈ s.granted, s.sheddable p = true ∧ (s.ports.get p).state ≠ .paused) →
      (s.tables.budget.shedDelay ≠ 0 → s.judgeOvercommit =
        { s with budget := { s.budget with
          overcommit := .timing, shedTimer := some (s.tables.budget.shedDelay * 1000) } }) ∧
      (s.tables.budget.shedDelay = 0 → s.judgeOvercommit = w)) ∧
    (∀ a, s.sel.state = .active a → s.scanBudget = s.computeBudget.judgeOvercommit.evaluate) ∧
    ((∀ a, s.sel.state ≠ .active a) → s.scanBudget = s.computeBudget)

/-! ### Port power units -/

/-- R64 to R69: the sense bands, which a fixed class does not read; the debounce timer at a scan completion, which an
edge starts and another scan runs down by one; and what the end of a debounce does, by the level of the latest scan,
with each of the three readings of an accepted attach; in DISABLED an accepted attach only makes the stable level
ATTACHED. A debounce of 0 expires at the scan whose edge starts it. That the scan which runs the timer out has the effect of the
expiry within itself is the model's choice (log 23). -/
def Obligations.DetectLine : Prop :=
  (∀ mv : Nat,
     (mv < 300 → readSense mv = .short) ∧
     (∀ c : ClassNo, 300 + 450 * c.number ≤ mv → mv < 300 + 450 * (c.number + 1) →
       readSense mv = .cls c false) ∧
     (3900 ≤ mv → readSense mv = .open)) ∧
  (∀ (s : State) (p : Port),
     ((s.tables.port.get p).classSource = .detected → s.reading p = readSense (s.ports.get p).sense) ∧
     (∀ c, (s.tables.port.get p).classSource = .fixed c → s.reading p = .cls c true)) ∧
  (∀ (s : State) (p : Port) (level : Level), level = (if (s.ports.get p).sense < 3900 then .attached else .open) →
     (level ≠ (s.ports.get p).present → (s.tables.port.get p).debounce ≠ 0 →
       ((s.scanDetect p).ports.get p).debounce = some (s.tables.port.get p).debounce ∧
       ((s.scanDetect p).ports.get p).present = level ∧
       ((s.scanDetect p).ports.get p).state =
         (if (s.ports.get p).state = .vacant ∧ level = .attached then .debounce else (s.ports.get p).state)) ∧
     (∀ n, level = (s.ports.get p).present → (s.ports.get p).debounce = some (n + 2) →
       s.scanDetect p = s.modPort p fun u => { u with debounce := some (n + 1) }) ∧
     (level = (s.ports.get p).present → (s.ports.get p).debounce = none → s.scanDetect p = s) ∧
     (level = (s.ports.get p).present → (s.ports.get p).debounce = some 1 → s.resetPin = false →
       exec (.debounceExpiry p) s = .next (s.scanDetect p).selectAll) ∧
     (∀ u : State, u = (s.modPort p fun x => { x with present := level, debounce := some 0 }) →
       level ≠ (s.ports.get p).present → (s.tables.port.get p).debounce = 0 → s.resetPin = false →
       exec (.debounceExpiry p) (if (s.ports.get p).state = .vacant ∧ level = .attached
         then u.setPortState p .debounce else u) = .next (s.scanDetect p).selectAll)) ∧
  (∀ (s : State) (p : Port), s.resetPin = false → (s.ports.get p).debounce.isSome = true →
     (s.ports.get p).present = .attached → (s.ports.get p).stable = .open → (s.ports.get p).state = .disabled →
     exec (.debounceExpiry p) s = .next (State.selectAll
       { s with ports := s.ports.set p { s.ports.get p with debounce := none, stable := .attached } })) ∧
  (∀ (s : State) (p : Port), s.resetPin = false → s.Powered → (s.ports.get p).debounce.isSome = true →
     ∃ t, exec (.debounceExpiry p) s = .next t ∧
       (t.ports.get p).debounce = none ∧
       ((s.ports.get p).present = (s.ports.get p).stable →
         (t.ports.get p).state =
           (if (s.ports.get p).state = .debounce then .vacant else (s.ports.get p).state) ∧
         (t.ports.get p).stable = (s.ports.get p).stable ∧ t.admission = s.admission) ∧
       ((s.ports.get p).present = .open → (s.ports.get p).stable = .attached →
         (s.ports.get p).state ≠ .disabled →
         (t.ports.get p).state = .vacant ∧ (t.ports.get p).stable = .open ∧ (t.ports.get p).eff = none ∧
         (t.ports.get p).grant = 0 ∧ p ∉ t.granted ∧ t.entryOf p = none ∧
         (t.events.marks (.hub .portDetach)).set = true) ∧
       ((s.ports.get p).present = .open → (s.ports.get p).stable = .attached →
         (s.ports.get p).state = .disabled →
         (t.ports.get p).state = .disabled ∧ (t.ports.get p).stable = .open ∧
         (t.events.marks (.hub .portDetach)).set = true) ∧
       (∀ c fixed, (s.ports.get p).present = .attached → (s.ports.get p).stable = .open →
         (s.ports.get p).state = .debounce ∨ (s.ports.get p).state = .vacant → s.inForce = false →
         s.reading p = .cls c fixed →
         (t.ports.get p).state = .waiting ∧ (t.ports.get p).stable = .attached ∧
         (t.ports.get p).eff = some ⟨c, fixed⟩ ∧ (t.events.marks (.hub .portAttach)).set = true ∧
         t.admission = s.admission ++
           [{ port := p, reason := .attach,
              draw := min (max (s.tables.cls.get c).defaultDemand (s.tables.cls.get c).idleDraw)
                (s.tables.cls.get c).maxDemand,
              wait := if (s.tables.cls.get c).waitLimit = 0 then none
                else some ((s.tables.cls.get c).waitLimit * 1000000),
              holdOff := none }]) ∧
       t.SameBut [.ports, .admission, .granted, .grantSlots, .links, .queues, .records, .held, .events,
         .counters, .mgmt] s) ∧
  (∀ (s : State) (p : Port), s.resetPin = false → (s.ports.get p).debounce.isSome = true →
     (s.ports.get p).present = .attached → (s.ports.get p).stable = .open →
     (s.ports.get p).state = .debounce ∨ (s.ports.get p).state = .vacant →
     (∀ c fixed, s.reading p = .cls c fixed →
       ∃ u : State, exec (.debounceExpiry p) s = .next (State.selectAll u.evaluate) ∧
         u.ports.get p = { s.ports.get p with
           state := .waiting, stable := .attached, debounce := none, eff := some ⟨c, fixed⟩ } ∧
         (∀ q, q ≠ p → u.ports.get q = s.ports.get q) ∧
         u.admission = s.admission ++
           [{ port := p, reason := .attach,
              draw := min (max (s.tables.cls.get c).defaultDemand (s.tables.cls.get c).idleDraw)
                (s.tables.cls.get c).maxDemand,
              wait := if (s.tables.cls.get c).waitLimit = 0 then none
                else some ((s.tables.cls.get c).waitLimit * 1000000),
              holdOff := none }] ∧
         (u.events.marks (.hub .portAttach)).set = true ∧ u.SameBut [.ports, .admission, .events] s) ∧
     (s.reading p = .short →
       ∃ u : State, exec (.debounceExpiry p) s = .next u.selectAll ∧
         u.ports.get p = { s.ports.get p with
           state := .locked, stable := .attached, debounce := none, eff := none
           lockReason := some .senseShort } ∧
         (∀ q, q ≠ p → u.ports.get q = s.ports.get q) ∧
         (u.events.marks (.hub .portLocked)).set = true ∧ u.SameBut [.ports, .events] s) ∧
     (s.reading p = .open →
       ∃ u : State, exec (.debounceExpiry p) s = .next u.selectAll ∧
         u.ports.get p = { s.ports.get p with
           state := .vacant, stable := .open, debounce := none, eff := none } ∧
         (∀ q, q ≠ p → u.ports.get q = s.ports.get q) ∧
         (u.events.marks (.hub .portDetach)).set = true ∧ u.SameBut [.ports, .events] s))

/-- R70, R71: a scan in RAMP marks the step period held while the current is above the inrush ceiling; and a step
period ends. -/
def Obligations.StepTimerExpiry : Prop :=
  (∀ (s : State) (p : Port) (c : ClassRecord), (s.ports.get p).state = .ramp → s.classOf p = some c →
    (c.inrush < (s.ports.get p).current →
      s.scanJudge p = { s with ports := s.ports.set p { s.ports.get p with periodHeld := true } }) ∧
    ((s.ports.get p).current ≤ c.inrush → s.scanJudge p = s)) ∧
  (∀ (s : State) (p : Port) (c : ClassRecord) (u : PortUnit), s.resetPin = false → s.ports.get p = u →
    u.state = .ramp → u.stepTimer.isSome = true → s.classOf p = some c →
    ∃ t, exec (.stepTimerExpiry p) s = .next t ∧
      (u.periodHeld = false → u.rampPos < 15 →
        t.ports.get p = { u with rampPos := u.rampPos + 1, heldCount := 0,
                                 stepTimer := some (c.rampFactor * 1000) }) ∧
      (u.periodHeld = false → 15 ≤ u.rampPos →
        t.ports.get p = { u with state := .on, rampPos := 16, heldCount := 0, stepTimer := none,
                                 cleanTimer := some 60000000, figures := none } ∧
        (t.events.marks (.mark p)).set = true) ∧
      (u.periodHeld = true → u.heldCount < 3 →
        t.ports.get p = { u with heldCount := u.heldCount + 1, periodHeld := false,
                                 stepTimer := some (c.rampFactor * 1000) }) ∧
      (u.periodHeld = true → 3 ≤ u.heldCount → s.Powered →
        (t.ports.get p).state.closed = false ∧ (t.ports.get p).lastTrip = some .rampStall ∧
        p ∉ t.granted) ∧
      (u.periodHeld = false ∨ u.heldCount < 3 →
        (∀ q, q ≠ p → t.ports.get q = s.ports.get q) ∧ t.granted = s.granted ∧
        t.admission = s.admission) ∧
      t.SameBut [.ports, .admission, .granted, .grantSlots, .links, .queues, .records, .held, .events,
        .counters, .mgmt] s)

/-- R57, R75, R76, R77, R92, R118: what a trip of a port does, with the drops that it counts, and the commands that trip it; a
comparator edge on an open switch finds nothing to act on. -/
def Obligations.Trips : Prop :=
  (∀ (s : State) (p : Port) (reason : TripReason) (c : ClassRecord) (u : PortUnit), s.Powered → s.LinksFollow →
     s.ports.get p = u → u.state.closed = true → s.classOf p = some c →
     (s.trip p reason).ports.get p = { u with
       state := if c.retryLimit < u.retryCount + 1 then .locked else .tripped,
       rampPos := 0, heldCount := 0, periodHeld := false, stepTimer := none, overdrawTimer := none,
       cleanTimer := none, figures := none, grant := 0, retryCount := u.retryCount + 1,
       retryDraw := some u.grant, lastTrip := some reason,
       retryTimer := if c.retryLimit < u.retryCount + 1 then none else some (c.retryDelay * 100000),
       lockReason := if c.retryLimit < u.retryCount + 1 then some .retries else none } ∧
     p ∉ (s.trip p reason).granted ∧ (s.trip p reason).entryOf p = none ∧
     (s.trip p reason).linkState (.port p) = .down ∧ (s.trip p reason).grantSlots.get p = none ∧
     (s.trip p reason).queues.get (.port p) = Queues.reset ∧
     (s.trip p reason).counters.endpoint.get (.port p) = { s.counters.endpoint.get (.port p) with
       linkDown := (s.counters.endpoint.get (.port p)).linkDown + BitVec.ofNat 32 ((match (s.links.get (.port p)).tx with
            | some ⟨.data _, _⟩ => 1
            | _ => 0) + (s.queues.get (.port p)).urgent.length + (s.queues.get (.port p)).bulk.length +
            (s.queues.get (.port p)).timed.length) } ∧
     ((s.trip p reason).counters.port.get p).trips = (s.counters.port.get p).trips + 1 ∧
     ((s.trip p reason).events.marks (.hub .portTrip)).set = true ∧
     (c.retryLimit < u.retryCount + 1 → ((s.trip p reason).events.marks (.hub .portLocked)).set = true) ∧
     (s.trip p reason).SameBut [.ports, .admission, .granted, .grantSlots, .links, .queues, .records, .held,
       .events, .counters] s) ∧
  (∀ (s : State) (p : Port), s.resetPin = false →
     ((s.ports.get p).state = .ramp ∨ (s.ports.get p).state = .on ∨ (s.ports.get p).state = .limit →
       exec (.hardTrip p) s = .next (s.trip p .short).selectAll) ∧
     ((s.ports.get p).state.closed = false → exec (.hardTrip p) s = .next s.selectAll) ∧
     ((s.ports.get p).state = .limit → (s.ports.get p).overdrawTimer.isSome = true →
       exec (.overdrawTimerExpiry p) s = .next (s.trip p .overdraw).selectAll))

/-- R78, R79: a retry delay and a clean run end. -/
def Obligations.RetryAndCleanRun : Prop :=
  ∀ (s : State) (p : Port), s.resetPin = false →
    (∀ c n, (s.ports.get p).state = .tripped → (s.ports.get p).retryTimer.isSome = true →
      s.classOf p = some c → (s.ports.get p).retryDraw = some n →
      ∃ u : State, exec (.retryDelayExpiry p) s = .next u.evaluate.selectAll ∧
        u.ports.get p = { s.ports.get p with state := .waiting, retryTimer := none } ∧
        (∀ q, q ≠ p → u.ports.get q = s.ports.get q) ∧
        u.admission = s.admission ++
          [{ port := p, reason := .retry, draw := min (max n c.idleDraw) c.maxDemand,
             wait := if c.waitLimit = 0 then none else some (c.waitLimit * 1000000), holdOff := none }] ∧
        u.SameBut [.ports, .admission, .events] s) ∧
    ((s.ports.get p).state = .on → (s.ports.get p).cleanTimer.isSome = true →
      exec (.cleanRunExpiry p) s = .next
        { s with ports := s.ports.set p { s.ports.get p with cleanTimer := none, retryCount := 0 } })

/-- R73, R74, R75: the over-draw judgement of a scan in ON and LIMIT. An over-draw time of 0 trips the port at that scan;
Trips says what the trip does. -/
def Obligations.OverdrawJudgement : Prop :=
  ∀ (s : State) (p : Port) (c : ClassRecord) (u : PortUnit) (power t : Nat), s.ports.get p = u →
    s.classOf p = some c → power = s.busVolts * u.current / 100000 → t = u.grant * c.tolerance / 100 →
    (u.state = .on → power ≤ u.grant + t →
      (s.scanJudge p).ports.get p = { u with figures := some (power, t) } ∧
      (s.scanJudge p).SameBut [.ports] s) ∧
    (u.state = .on → u.grant + t < power → c.overdrawTime ≠ 0 →
      (s.scanJudge p).ports.get p = { u with
        state := .limit, figures := some (power, t), cleanTimer := none,
        overdrawTimer := some (c.overdrawTime * 1000) } ∧
      (s.linkState (.port p) ≠ .down →
        (s.scanJudge p).grantSlots.get p = some ⟨u.grant, .limit, c.tolerance⟩) ∧
      (s.scanJudge p).SameBut [.ports, .events, .grantSlots] s) ∧
    (u.state = .on → u.grant + t < power → c.overdrawTime = 0 →
      s.scanJudge p = State.trip p .overdraw
        { s with ports := s.ports.set p { u with figures := some (power, t) } } ∧
      ((s.scanJudge p).ports.get p).lastTrip = some .overdraw) ∧
    (u.state = .limit → u.grant + t < power →
      (s.scanJudge p).ports.get p = { u with figures := some (power, t) } ∧
      (s.scanJudge p).SameBut [.ports] s) ∧
    (u.state = .limit → power ≤ u.grant + t →
      (s.scanJudge p).ports.get p = { u with
        state := .on, figures := some (power, t), overdrawTimer := none,
        cleanTimer := some 60000000 } ∧
      (s.linkState (.port p) ≠ .down →
        (s.scanJudge p).grantSlots.get p = some ⟨u.grant, .on, c.tolerance⟩) ∧
      (s.scanJudge p).SameBut [.ports, .events, .grantSlots] s)

/-! ### Messages -/

/-- R86 to R89, R153: a message that may arrive on a link is judged good with its header and payload, whatever
they are, from the bytes that carry it. -/
def Obligations.WireIsJudgedGood : Prop :=
  ∀ (k : MsgKind) (link : Dest) (m : Message), m.payload.length ≤ 48 → m.portField ≤ 15 →
    k.mayArrive link = true → k.portFieldAllowed link m.portField = true →
    (∀ n ∈ k.fixedLength, m.payload.length = n) →
    judgeFrame link (wire k m) = .good k m

/-- R53, R86 to R89, R92: a frame of fewer than 7 or more than 55 bytes is malformed, and any other whose last two bytes
are not the check over the rest is a check error; with the check right, an unknown kind, a wrong length, a kind that
the link does not take and a port field it does not allow are malformed or refused, and every other frame is good. A
frame that is not good leaves no trace beyond its count, on a link that is UP or in WAIT, and none at all on one
that is DOWN; nor does a stray start delimiter. The one frame judged on a link that is DOWN is a DEMAND that arrives
at the moment of the leaving (R53; that moment is the model's choice, log 34): it is counted good, and dropped and
counted. -/
def Obligations.BadFramesAreOnlyCounted : Prop :=
  (∀ (link : Dest) (bytes body : List Byte) (hi lo : Byte),
     (bytes.length < 7 → judgeFrame link bytes = .malformed) ∧
     (55 < bytes.length → judgeFrame link bytes = .malformed) ∧
     (bytes = body ++ [hi, lo] → 7 ≤ bytes.length → bytes.length ≤ 55 → hi ++ lo ≠ crc body →
       judgeFrame link bytes = .checkError)) ∧
  (∀ (link : Dest) (b0 b1 channel target len : Byte) (payload body : List Byte) (kind field : Nat),
     body = b0 :: b1 :: channel :: target :: len :: payload → kind = b0.toNat / 16 → field = b1.toNat / 16 →
     (judgeFrame link (body ++ be16 (crc body).toNat) = .malformed ↔
       kind = 0 ∨ kind = 7 ∨ 10 < kind ∨ 48 < len.toNat ∨ payload.length ≠ len.toNat ∨
       (kind = 2 ∧ len.toNat ≠ 2) ∨ ((kind = 4 ∨ kind = 5) ∧ len.toNat ≠ 0) ∨
       (link = .u ∧ kind = 2) ∨ (link ≠ .u ∧ kind = 8) ∨ kind = 3 ∨ kind = 6 ∨ kind = 9 ∨ kind = 10 ∨
       ((link ≠ .u ∨ kind ≠ 1) ∧ field ≠ 0) ∨
       (link = .u ∧ kind = 1 ∧ (field = 0 ∨ (8 < field ∧ field ≠ 15)))) ∧
     (judgeFrame link (body ++ be16 (crc body).toNat) ≠ .malformed →
       ∃ k, k.code = kind ∧ judgeFrame link (body ++ be16 (crc body).toNat) =
         .good k ⟨b0.getLsbD 3, b0.getLsbD 2, b0.getLsbD 1, field, channel, target, payload⟩)) ∧
  (∀ (s : State) (link : Dest) (bytes : List Byte), s.resetPin = false → s.Settled →
     (s.linkState link = .down → exec (.strayStartDelimiter link) s = .next s ∧
       ((s.links.get link).downAt ≠ some s.now ∨ (∀ m, judgeFrame link bytes ≠ .good .demand m) →
         exec (.frameReception link bytes) s = .next s)) ∧
     (∀ p m, link = .port p → s.linkState link = .down → (s.ports.get p).state.closed = false →
       (s.links.get link).downAt = some s.now → judgeFrame link bytes = .good .demand m →
       exec (.frameReception link bytes) s = .next (State.countEndpoint link EndpointCounters.addMalformed
         (s.countEndpoint link EndpointCounters.addGood))) ∧
     (s.linkState link ≠ .down → judgeFrame link bytes = .malformed →
       exec (.frameReception link bytes) s = .next (s.countEndpoint link EndpointCounters.addMalformed)) ∧
     (s.linkState link ≠ .down → judgeFrame link bytes = .checkError →
       exec (.frameReception link bytes) s = .next (s.countEndpoint link EndpointCounters.addCheckError)) ∧
     (s.linkState link ≠ .down →
       exec (.strayStartDelimiter link) s = .next (s.countEndpoint link EndpointCounters.addMalformed)))

/-- R89, R91, R96, R143: a good HOLD, RESUME, DEMAND, DATA or REQUEST is counted, brings a link in WAIT UP and is
handed on. -/
def Obligations.GoodFramesAreHandedOn : Prop :=
  ∀ (s u : State) (link : Dest) (bytes : List Byte) (k : MsgKind) (m : Message), s.resetPin = false →
    s.linkState link ≠ .down → judgeFrame link bytes = .good k m →
    u = (if s.linkState link = .wait then (s.countEndpoint link EndpointCounters.addGood).linkUp link
      else s.countEndpoint link EndpointCounters.addGood) →
    (k = .hold → exec (.frameReception link bytes) s = .next
      (State.selectAll { u with links := u.links.set link { u.links.get link with receivedHold := true } })) ∧
    (k = .resume → exec (.frameReception link bytes) s = .next
      (State.selectAll { u with links := u.links.set link { u.links.get link with receivedHold := false } })) ∧
    (k = .data → exec (.frameReception link bytes) s = .next (u.routeData link m).selectAll) ∧
    (∀ p, k = .demand → link = .port p →
      exec (.frameReception link bytes) s = .next (u.demand p (wordAt m.payload 0)).selectAll) ∧
    (k = .request → link = .u → s.mgmt.input.length < 4 → exec (.frameReception link bytes) s = .next
      (State.selectAll { u with mgmt := { u.mgmt with input := u.mgmt.input ++ [⟨m.channel, m.payload⟩] } })) ∧
    (k = .request → link = .u → 4 ≤ s.mgmt.input.length →
      ∃ t, exec (.frameReception link bytes) s = .next t ∧ t.mgmt.input = s.mgmt.input ∧
        t.counters.overruns = s.counters.overruns + 1 ∧
        (t.counters.endpoint.get .u).good = (s.counters.endpoint.get .u).good + 1 ∧
        (t.events.marks (.hub .mgmtOverrun)).set = true ∧
        t.SameBut [.links, .queues, .grantSlots, .mgmt, .events, .counters] s)

/-- R105 to R108, R111: the first entry in index order that matches decides; directed messages, the two defaults, DROP
and FORWARD. A message that the route unit drops is counted once at its ingress as malformed or refused, and leaves no
other trace; any other is handed to the buffer manager with its decision. -/
def Obligations.Routing : Prop :=
  (∀ (table : List RouteEntry) (ingress : Dest) (channel : Byte),
     (∀ before e behind, table = before ++ e :: behind → e.matches ingress channel = true →
       (∀ x ∈ before, x.matches ingress channel = false) → lookup table ingress channel = some e) ∧
     ((∀ x ∈ table, x.matches ingress channel = false) → lookup table ingress channel = none) ∧
     (∀ e : RouteEntry, e.matches ingress channel = true ↔
       e.valid = true ∧ e.low ≤ channel.toNat ∧ channel.toNat ≤ e.high ∧
       (match e.ingress with
         | .upstream => ingress = .u
         | .port q => ingress = .port q
         | .anyPort => ingress ≠ .u))) ∧
  (∀ (s : State) (m : Message) (p : Port) (d : Dest) (e : RouteEntry),
     (m.portField = p.number → s.route .u m =
       some { dests := [.port p], cls := if m.urgent then .urgent else .bulk, late := .send, align := false }) ∧
     (m.portField = 15 → lookup s.tables.route .u m.channel = none → s.route .u m = none) ∧
     (lookup s.tables.route (.port p) m.channel = none → s.route (.port p) m =
       some { dests := [.u], cls := if m.urgent then .urgent else .bulk, late := .send, align := false }) ∧
     (d ≠ .u ∨ m.portField = 15 → lookup s.tables.route d m.channel = some e → e.action = .drop →
       s.route d m = none) ∧
     (d ≠ .u ∨ m.portField = 15 → lookup s.tables.route d m.channel = some e → e.action = .forward →
       (∀ x, e.dests.get x = true → x = d) → s.route d m = none) ∧
     (∀ x, d ≠ .u ∨ m.portField = 15 → lookup s.tables.route d m.channel = some e → e.action = .forward →
       e.dests.get x = true → x ≠ d →
       ∃ y, s.route d m = some y ∧ y.cls = e.cls ∧ y.late = e.late ∧ y.align = e.align ∧ y.dests.Nodup ∧
         ∀ z, z ∈ y.dests ↔ e.dests.get z = true ∧ z ≠ d)) ∧
  (∀ (s : State) (ingress : Dest) (m : Message),
     (s.route ingress m = none → s.routeData ingress m = s.countEndpoint ingress EndpointCounters.addMalformed) ∧
     (∀ x, s.route ingress m = some x → s.routeData ingress m = s.handOff ingress m x))

/-- R93, R109, R110, R112, R114, R115, R116, R120, R137, R138: which placement a destination receives; what it does:
queued, held for a frame, late, or counted as a drop; what a hand-off drops before it: to links that are all DOWN, or
for want of a record or of cells, which enters HELD; and a hand-off that takes a record and its cells, with one
reference for each placement, or frees them where every destination refuses. -/
def Obligations.Placement : Prop :=
  (∀ (s : State) (m : Message) (x : Decision) (d : Dest),
     (m.timed = true → s.placement m x d = .framed m.target x.late) ∧
     (m.timed = false → x.align = false → s.placement m x d = .queued x.cls) ∧
     (m.timed = false → x.align = true → (s.phases.get d).released = false →
       s.placement m x d = .framed s.timing.counter x.late) ∧
     (m.timed = false → x.align = true → (s.phases.get d).released = true →
       s.placement m x d = .framed (s.timing.counter + 1) x.late)) ∧
  (∀ (s : State) (slot : Nat) (d : Dest) (target : Byte) (late : LateAction) (dist : Nat),
     dist = (target - s.timing.counter).toNat →
     ((s.queues.get d).bulk.length < 8 → s.place slot d (.queued .bulk) =
       (s.modQueues d fun q => { q with bulk := q.bulk ++ [⟨slot, false⟩] }).addRef slot) ∧
     (8 ≤ (s.queues.get d).bulk.length →
       s.place slot d (.queued .bulk) = s.countEndpoint d EndpointCounters.addQueueFull) ∧
     ((s.queues.get d).urgent.length < 8 → s.place slot d (.queued .urgent) =
       (s.modQueues d fun q => { q with urgent := q.urgent ++ [⟨slot, false⟩] }).addRef slot) ∧
     (8 ≤ (s.queues.get d).urgent.length →
       s.place slot d (.queued .urgent) = s.countEndpoint d EndpointCounters.addQueueFull) ∧
     ((1 ≤ dist ∧ dist ≤ 127) ∨ (dist = 0 ∧ (s.phases.get d).released = false) →
       ((s.queues.get d).timed.length < 6 → s.place slot d (.framed target late) =
         (s.modQueues d fun q => { q with timed := q.timed ++ [⟨slot, target, late⟩] }).addRef slot) ∧
       (6 ≤ (s.queues.get d).timed.length →
         s.place slot d (.framed target late) = s.countEndpoint d EndpointCounters.addQueueFull)) ∧
     (128 ≤ dist ∨ (dist = 0 ∧ (s.phases.get d).released = true) →
       s.place slot d (.framed target .drop) = s.countEndpoint d EndpointCounters.addLateDrop ∧
       ((s.queues.get d).urgent.length < 8 → s.place slot d (.framed target .send) =
         (s.modQueues d fun q => { q with urgent := q.urgent ++ [⟨slot, true⟩] }).addRef slot) ∧
       (8 ≤ (s.queues.get d).urgent.length →
         s.place slot d (.framed target .send) = s.countEndpoint d EndpointCounters.addQueueFull))) ∧
  (∀ (s : State) (ingress : Dest) (m : Message) (x : Decision),
     ((∀ d ∈ x.dests, s.linkState d = .down) → x.dests.Nodup →
       (s.handOff ingress m x).SameBut [.counters] s ∧
       ∀ d, (s.handOff ingress m x).counters.endpoint.get d =
         (if d ∈ x.dests then
           { s.counters.endpoint.get d with linkDown := (s.counters.endpoint.get d).linkDown + 1 }
         else s.counters.endpoint.get d)) ∧
     ((∃ d ∈ x.dests, s.linkState d ≠ .down) →
       s.freeRecords = 0 ∨ s.freeCells < cellsFor m.payload.length →
       ((s.handOff ingress m x).counters.endpoint.get ingress).noBuffer =
         (s.counters.endpoint.get ingress).noBuffer + 1 ∧
       (s.handOff ingress m x).records = s.records ∧ (s.handOff ingress m x).queues = s.queues ∧
       (s.handOff ingress m x).held = true ∧
       (s.held = false → ((s.handOff ingress m x).events.marks (.hub .poolHold)).set = true))) ∧
  (∀ (s t : State) (ingress : Dest) (m : Message) (x : Decision) (ds : List Dest), t = s.handOff ingress m x →
     ds = x.dests.filter (fun d => decide (s.linkState d ≠ .down)) → ds ≠ [] → x.dests.Nodup →
     0 < s.freeRecords → cellsFor m.payload.length ≤ s.freeCells → m.timed = false → x.align = false →
     ((∀ d ∈ ds, (s.queues.get d).urgent.length < 8 ∧ (s.queues.get d).bulk.length < 8) →
       (∃ slot, s.record slot = none ∧ t.record slot = some ⟨m, ingress, ds.length⟩ ∧
         (∀ i, i ≠ slot → t.record i = s.record i) ∧
         ∀ d, t.queues.get d =
           (if d ∈ ds then
             match x.cls with
             | .urgent =>
               { s.queues.get d with urgent := (s.queues.get d).urgent ++ [⟨slot, false⟩] }
             | .bulk => { s.queues.get d with bulk := (s.queues.get d).bulk ++ [⟨slot, false⟩] }
           else s.queues.get d)) ∧
       t.freeRecords + 1 = s.freeRecords ∧ t.freeCells + cellsFor m.payload.length = s.freeCells ∧
       t.held = (s.held || decide (t.freeCells ≤ s.tables.holdLevel)) ∧
       (s.held = false → t.held = true → (t.events.marks (.hub .poolHold)).set = true)) ∧
     ((∀ d ∈ ds, 8 ≤ (s.queues.get d).urgent.length ∧ 8 ≤ (s.queues.get d).bulk.length) →
       t.records = s.records ∧ t.queues = s.queues ∧
       ∀ d ∈ ds, (t.counters.endpoint.get d).queueFull = (s.counters.endpoint.get d).queueFull + 1))

/-- R100, R116, R117, R151, R157: a transmission completes, is counted, and has the effect of its kind; a DATA message
releases its reference, and the last one frees the record and its cells; a NOTICE and a READ STATUS response mark the
items that they report. -/
def Obligations.Transmission : Prop :=
  (∀ (s : State) (i : Nat) (r : Record), s.record i = some r →
     (2 ≤ r.refs → (s.releaseRef i).record i = some { r with refs := r.refs - 1 } ∧
       (s.releaseRef i).freeCells = s.freeCells ∧ (s.releaseRef i).held = s.held) ∧
     (r.refs = 1 → (s.releaseRef i).record i = none ∧
       (s.releaseRef i).freeRecords = s.freeRecords + 1 ∧
       (s.heldCells ≤ 128 → (s.releaseRef i).freeCells = s.freeCells + cellsFor r.msg.payload.length)) ∧
     (∀ j, j ≠ i → (s.releaseRef i).record j = s.record j)) ∧
  (∀ (s u : State) (link : Dest) (k : TxKind) (bytes : List Byte), s.resetPin = false →
     (s.links.get link).tx = some ⟨k, bytes⟩ →
     u = State.countEndpoint link EndpointCounters.addTransmitted
       { s with links := s.links.set link { s.links.get link with tx := none } } →
     (∀ slot, k = .data slot → exec (.transmissionComplete link) s = .next (u.releaseRef slot).selectAll) ∧
     (k = .mark ∨ k = .grant ∨ k = .flow .hold ∨ k = .flow .resume →
       exec (.transmissionComplete link) s = .next u.selectAll) ∧
     (∀ r, k = .notice r ∨ (∃ code payload, k = .response code payload (some r) ∧
         (s.mgmt.inHand ≠ .fullReset ∨ code ≠ 49 ∨ payload ≠ [0])) →
       ∃ t, exec (.transmissionComplete link) s = .next (State.selectAll t) ∧ t.SameBut [.events] u ∧
         ∀ i, t.events.marks i =
           (if r.carries i = true ∧ (s.events.marks i).set = true then
             { s.events.marks i with reported := true } else s.events.marks i)) ∧
     (∀ code payload, k = .response code payload none →
       s.mgmt.inHand ≠ .fullReset ∨ code ≠ 49 ∨ payload ≠ [0] →
       exec (.transmissionComplete link) s = .next u.selectAll) ∧
     (k = .response 49 [0] none → s.mgmt.inHand = .fullReset →
       exec (.transmissionComplete link) s = .next u.hubReset.selectAll))

/-- R94, R95, R120, R149, R151: U goes DOWN and comes UP. -/
def Obligations.UpstreamLine : Prop :=
  ∀ s : State, s.resetPin = false →
    (s.linkState .u = .up → s.mgmt.inHand ≠ .fullReset →
      ∃ t, exec .uLineSilent s = .next t ∧ t.links.get .u = Link.reset ∧
        t.queues.get .u = Queues.reset ∧ t.mgmt.lane = [] ∧ t.mgmt.input = s.mgmt.input ∧
        t.mgmt.inHand = .nothing ∧
        (t.counters.endpoint.get .u).linkDown = (s.counters.endpoint.get .u).linkDown +
          BitVec.ofNat 32 (s.laneLosses + (s.refsAt .u).length) ∧
        (s.noticeInFlight = true → t.events.noticePending = true) ∧
        t.SameBut [.links, .queues, .grantSlots, .records, .held, .mgmt, .events, .counters] s) ∧
    (s.linkState .u = .up → s.mgmt.inHand = .fullReset → s.ecutPin = false →
      ∃ t, exec .uLineSilent s = .next t ∧ t.mgmt = Mgmt.reset ∧ t.counters = Counters.zero ∧
        t.tables = Tables.reset ∧ t.sel = Selector.reset) ∧
    (s.linkState .u = .down →
      ∃ u, exec .uLineActive s = .next (State.selectAll u) ∧
        u.links.get .u = { s.links.get .u with
          state := .up, flowSlot := if s.held then some .hold else (s.links.get .u).flowSlot } ∧
        (∀ p, u.links.get (.port p) = s.links.get (.port p)) ∧ u.SameBut [.links] s)

/-- R90, R97 to R99, R153, R159: what an idle transmitter begins, with its bytes: the flow slot in UP, then the MARK
slot and the GRANT slot unless DOWN, then U's lane, the urgent and the bulk queue in UP, DATA only while the
received-hold is clear. A NOTICE takes the marks as they stand. With nothing offered nothing begins, and a busy
transmitter goes on. The selection that ends an event is made on U and P1 to P8, one after another (the model's choice,
log 8). -/
def Obligations.SelectionOrder : Prop :=
  (∀ s : State, s.selectAll =
    [Dest.u, .port .p1, .port .p2, .port .p3, .port .p4, .port .p5, .port .p6, .port .p7, .port .p8].foldl
      (fun x d => x.select d) s) ∧
  (∀ (k : MsgKind) (m : Message) (body : List Byte),
    body = byte (k.code * 16 + (if m.timed then 8 else 0) + (if m.urgent then 4 else 0) +
        (if m.late then 2 else 0)) ::
      byte (m.portField * 16) :: m.channel :: m.target :: byte m.payload.length :: m.payload →
    wire k m = body ++ [(crc body).extractLsb' 8 8, (crc body).extractLsb' 0 8]) ∧
  (∀ (s : State) (d : Dest) (l : Link), s.links.get d = l →
    (l.tx.isSome = true ∨ l.state = .down ∨
      (l.state = .wait ∧ l.markSlot = none ∧ s.grantSlot d = none) ∨
      (l.state = .up ∧ l.flowSlot = none ∧ l.markSlot = none ∧ s.grantSlot d = none ∧
        (d ≠ .u ∨ s.mgmt.lane = []) ∧
        (l.receivedHold = true ∨ ((s.queues.get d).urgent = [] ∧ (s.queues.get d).bulk = []))) →
      s.select d = s) ∧
    (∀ k, l.tx = none → l.flowSlot = some k → l.state = .up →
      s.select d = { s with links := s.links.set d { l with
        flowSlot := none
        tx := some ⟨.flow k, wire (match k with | .hold => .hold | .resume => .resume)
          ⟨false, false, false, 0, 0, 0, []⟩⟩ } }) ∧
    (∀ m, l.tx = none → l.flowSlot = none ∨ l.state ≠ .up → l.markSlot = some m → l.state ≠ .down →
      s.select d = { s with links := s.links.set d { l with
        markSlot := none
        tx := some ⟨.mark, wire .mark ⟨false, false, false, 0, 0, 0, [m.counter, match m.sync with
          | .unlocked => 0 | .acquiring => 1 | .locked => 2 | .holdover => 3]⟩⟩ } }) ∧
    (∀ p g, l.tx = none → l.flowSlot = none ∨ l.state ≠ .up → l.markSlot = none → d = .port p →
      s.grantSlots.get p = some g → l.state ≠ .down →
      s.select d = { s with
        grantSlots := s.grantSlots.set p none
        links := s.links.set d { l with
          tx := some ⟨.grant, wire .grant ⟨false, false, false, 0, 0, 0, be16 g.grant ++ [match g.status with
            | .on => 1 | .limit => 2 | .pending => 3 | .refused => 4, byte g.tolerance]⟩⟩ } }) ∧
    (l.tx = none → l.flowSlot = none → l.markSlot = none → d = .u → l.state = .up →
      (∀ code payload report rest, s.mgmt.lane = .response code payload report :: rest →
        s.select d = { s with
          mgmt := { s.mgmt with lane := rest }
          links := s.links.set d { l with
            tx := some ⟨.response code payload report,
              wire .response ⟨false, false, false, 0, code, 0, payload⟩⟩ } }) ∧
      (∀ rest, s.mgmt.lane = .notice :: rest →
        ∃ report payload, s.select d = { s with
            mgmt := { s.mgmt with lane := rest }
            links := s.links.set d { l with
              tx := some ⟨.notice report, wire .notice ⟨false, false, false, 0, 0, 0, payload⟩⟩ } } ∧
          (∀ i, report.carries i = (s.events.marks i).set) ∧ payload.length = 6 ∧
          wordAt payload 0 < 32768 ∧ wordAt payload 2 < 32768 ∧
          (∀ h : HubItem, (wordAt payload 0).testBit h.number = (s.events.marks (.hub h)).set ∧
            (wordAt payload 2).testBit h.number = (s.events.marks (.hub h)).reoccurred) ∧
          (∀ p : Port, (byteAt payload 4).testBit (p.number - 1) = (s.events.marks (.mark p)).set) ∧
          (s.tables.InRange →
            (∀ i, (s.events.marks i).set = true → (s.tables.events.of i).enable = true →
              (s.tables.events.of i).level ≤ byteAt payload 5) ∧
            (byteAt payload 5 = 0 ∨ ∃ i, (s.events.marks i).set = true ∧
              (s.tables.events.of i).enable = true ∧ (s.tables.events.of i).level = byteAt payload 5)))) ∧
    (l.tx = none → l.flowSlot = none → l.markSlot = none → s.grantSlot d = none →
      d ≠ .u ∨ s.mgmt.lane = [] → l.state = .up → l.receivedHold = false →
      (∀ e rest r, (s.queues.get d).urgent = e :: rest → s.record e.slot = some r →
        s.select d = { s with
          queues := s.queues.set d { s.queues.get d with urgent := rest }
          links := s.links.set d { l with
            tx := some ⟨.data e.slot, wire .data { r.msg with
              urgent := true, late := e.late
              portField := match r.ingress with | .u => 0 | .port p => p.number }⟩ } }) ∧
      (∀ e rest r, (s.queues.get d).urgent = [] → (s.queues.get d).bulk = e :: rest →
        s.record e.slot = some r →
        s.select d = { s with
          queues := s.queues.set d { s.queues.get d with bulk := rest }
          links := s.links.set d { l with
            tx := some ⟨.data e.slot, wire .data { r.msg with
              urgent := false, late := e.late
              portField := match r.ingress with | .u => 0 | .port p => p.number }⟩ } })))

/-! ### Frames -/

/-- R20, R127, R134 to R136: a frame boundary at its predicted time. `u` is the state after the catch-up releases, `w`
the state as the frame begins, and `v` the state after the releases at the boundary itself; the selector judges its
pending change last, against the advanced counter. The second part says of a boundary at any time what stands before
that judgement: the mark counts, the MARKs posted, and the timed entries of the two frames that were released. -/
def Obligations.FrameBoundary : Prop :=
  (∀ s : State, s.resetPin = false →
    exec .frameBoundary s = .next (s.boundaryAt s.timing.nextBoundary).selectAll) ∧
  (∀ (t : Nat) (s u w v : State),
    u = Dest.all.foldl (fun x d => x.releaseUnreleased d) s →
    w = { u with
      phases := PerDest.ofFn fun d => { u.phases.get d with
        active := if u.timing.shadowWritten then (u.phases.get d).shadow else (u.phases.get d).active
        released := false
        releaseAt := t + min (if u.timing.shadowWritten then (u.phases.get d).shadow else (u.phases.get d).active)
          (u.timing.period - 1)
        markCount := min ((u.phases.get d).markCount + 1) 15 }
      timing := { u.timing with
        counter := u.timing.counter + 1, lastBoundary := t, nextBoundary := t + u.timing.period
        shadowWritten := false } } →
    v = Dest.all.foldl (fun x d => if (x.phases.get d).releaseAt = t then x.releaseUnreleased d else x) w →
    s.boundaryAt t = v.judgeChange ∧
    v.timing = { s.timing with
      counter := s.timing.counter + 1, lastBoundary := t, nextBoundary := t + s.timing.period
      shadowWritten := false } ∧
    v.SameBut [.links, .queues, .records, .held, .phases, .timing, .counters] s ∧
    (∀ (d : Dest) (active interval before : Nat) (now : Bool),
      active = (if s.timing.shadowWritten then (s.phases.get d).shadow else (s.phases.get d).active) →
      interval = s.tables.timing.markInterval.get d → now = decide (min active (s.timing.period - 1) = 0) →
      before = min ((if (s.phases.get d).released = false ∧ interval ≠ 0 ∧ interval ≤ (s.phases.get d).markCount
        then 0 else (s.phases.get d).markCount) + 1) 15 →
      v.phases.get d =
        { active := active, shadow := (s.phases.get d).shadow, released := now
          releaseAt := t + min active (s.timing.period - 1)
          markCount := if now = true ∧ interval ≠ 0 ∧ interval ≤ before then 0 else before } ∧
      (v.links.get d).markSlot =
        (if s.linkState d = .down then (s.links.get d).markSlot
        else if now = true ∧ interval ≠ 0 ∧ interval ≤ before then some ⟨s.timing.counter + 1, s.timing.sync⟩
        else if (s.phases.get d).released = false ∧ interval ≠ 0 ∧ interval ≤ (s.phases.get d).markCount then
          some ⟨s.timing.counter, s.timing.sync⟩
        else (s.links.get d).markSlot) ∧
      v.linkState d = s.linkState d ∧
      (v.queues.get d).timed = (s.queues.get d).timed.filter (fun e =>
        !((decide (e.target = s.timing.counter) && !(s.phases.get d).released) ||
          (decide (e.target = s.timing.counter + 1) && now))) ∧
      (v.queues.get d).urgent = (s.queues.get d).urgent ++
        ((((if (s.phases.get d).released then []
            else (s.queues.get d).timed.filter fun e => decide (e.target = s.timing.counter)) ++
          (if now then (s.queues.get d).timed.filter fun e => decide (e.target = s.timing.counter + 1)
            else [])).map fun e => (⟨e.slot, false⟩ : QEntry)).take (8 - (s.queues.get d).urgent.length)) ∧
      (v.queues.get d).bulk = (s.queues.get d).bulk)) ∧
  (∀ s : State, s.resetPin = false →
    ∃ t, exec .frameBoundary s = .next t ∧
      t.timing = { s.timing with
        counter := s.timing.counter + 1, lastBoundary := s.timing.nextBoundary,
        nextBoundary := s.timing.nextBoundary + s.timing.period, shadowWritten := false } ∧
      (∀ d, (t.phases.get d).active =
          (if s.timing.shadowWritten then (s.phases.get d).shadow else (s.phases.get d).active) ∧
        (t.phases.get d).shadow = (s.phases.get d).shadow ∧
        (t.phases.get d).releaseAt =
          s.timing.nextBoundary + min (t.phases.get d).active (s.timing.period - 1) ∧
        (t.phases.get d).released = decide (min (t.phases.get d).active (s.timing.period - 1) = 0) ∧
        ((s.phases.get d).released = true → s.tables.timing.markInterval.get d = 0 →
          (t.phases.get d).markCount = min ((s.phases.get d).markCount + 1) 15)) ∧
      t.SameBut [.sel, .budget, .admission, .grantSlots, .ports, .links, .queues, .records, .held, .phases,
        .timing, .mgmt, .events, .counters] s)

/-- R135, R136: the release of a destination that has not been released in the frame; a second one does nothing.
FrameBoundary takes the same release, `releaseUnreleased`, at a boundary. -/
def Obligations.PhaseRelease : Prop :=
  ∀ (s u : State) (d : Dest), u = s.releaseUnreleased d →
    (s.resetPin = false → exec (.phaseRelease d) s = .next u.selectAll) ∧
    ((s.phases.get d).released = true → u = s) ∧
    ((s.phases.get d).released = false →
      (u.phases.get d).released = true ∧
        (u.queues.get d).timed =
          (s.queues.get d).timed.filter (fun e => decide (e.target ≠ s.timing.counter)) ∧
        (u.queues.get d).urgent = (s.queues.get d).urgent ++
          ((((s.queues.get d).timed.filter fun e => decide (e.target = s.timing.counter)).map
            fun e => (⟨e.slot, false⟩ : QEntry)).take (8 - (s.queues.get d).urgent.length)) ∧
        (u.queues.get d).bulk = (s.queues.get d).bulk ∧
        (s.tables.timing.markInterval.get d ≠ 0 →
          s.tables.timing.markInterval.get d ≤ (s.phases.get d).markCount →
          (u.phases.get d).markCount = 0 ∧
          (s.linkState d ≠ .down →
            (u.links.get d).markSlot = some ⟨s.timing.counter, s.timing.sync⟩)) ∧
        (s.tables.timing.markInterval.get d = 0 ∨
            (s.phases.get d).markCount < s.tables.timing.markInterval.get d →
          (u.phases.get d).markCount = (s.phases.get d).markCount) ∧
        (∀ x, x ≠ d → u.phases.get x = s.phases.get x ∧ u.queues.get x = s.queues.get x) ∧
        u.SameBut [.phases, .links, .queues, .records, .held, .counters] s)

/-- R128 to R133: the timing state after an FSYNC edge. An edge in the open window of a predicted boundary confirms the
lock: one before the boundary brings it forward, a late one adds none, and the timer is anchored to the edge in both.
The fourth consistent period and a confirming edge give the whole next state, with the boundary that FrameBoundary
describes. That a measured period is accepted before the boundary at its edge is made, so that the phases of the new
frame are clamped by it (R134), is the model's choice (log 36). -/
def Obligations.FsyncEdge : Prop :=
  (∀ (s : State) (last period : Nat), s.resetPin = false →
     (s.timing.sync = .unlocked →
       ∃ t, exec .fsyncEdge s = .next t ∧ t.timing.sync = .acquiring ∧ t.timing.lastEdge = some s.now ∧
         t.timing.consistent = 0 ∧ t.timing.period = s.timing.period ∧
         t.timing.nextBoundary = s.timing.nextBoundary ∧ t.timing.counter = s.timing.counter ∧
         t.SameBut [.timing, .grantSlots, .links, .queues, .mgmt] s) ∧
     (s.timing.sync = .acquiring → s.timing.lastEdge = some last → period = s.now - last →
       s.tables.timing.windowMin ≤ period → period ≤ s.tables.timing.windowMax →
       (∀ q ∈ s.timing.prevPeriod,
         period ≤ q + s.tables.timing.tolerance ∧ q ≤ period + s.tables.timing.tolerance) →
       (s.timing.consistent < 3 →
         ∃ t, exec .fsyncEdge s = .next t ∧ t.timing.sync = .acquiring ∧
           t.timing.consistent = s.timing.consistent + 1 ∧ t.timing.prevPeriod = some period ∧
           t.timing.lastEdge = some s.now ∧ t.timing.period = s.timing.period ∧
           t.timing.nextBoundary = s.timing.nextBoundary ∧
           t.SameBut [.timing, .grantSlots, .links, .queues, .mgmt] s) ∧
       (s.timing.consistent = 3 → ∀ w v : State,
         w = { s with timing := { s.timing with
           sync := .locked, period := period, accepted := true, prevPeriod := some period, consistent := 4
           window := s.openWindow.timing.window } } →
         v = (if s.now - s.timing.lastBoundary < s.tables.timing.tolerance then w else w.boundaryAt s.now) →
         exec .fsyncEdge s = .next (State.selectAll (State.raise (.hub .syncLocked) { v with timing := { v.timing with
           nextBoundary := s.now + period, lastEdge := some s.now, window := some ⟨s.now + period, none⟩ } }))) ∧
       (s.timing.consistent = 3 →
         ∃ t, exec .fsyncEdge s = .next t ∧ t.timing.sync = .locked ∧ t.timing.period = period ∧
           t.timing.nextBoundary = s.now + period ∧ t.timing.lastEdge = some s.now ∧
           t.timing.counter = (if s.now - s.timing.lastBoundary < s.tables.timing.tolerance
             then s.timing.counter else s.timing.counter + 1) ∧
           (t.events.marks (.hub .syncLocked)).set = true ∧
           t.SameBut [.sel, .budget, .admission, .grantSlots, .ports, .links, .queues, .records, .held,
             .phases, .timing, .mgmt, .events, .counters] s)) ∧
     (s.timing.sync = .acquiring → s.timing.lastEdge = some last → period = s.now - last →
       period < s.tables.timing.windowMin ∨ s.tables.timing.windowMax < period ∨
         (∃ q ∈ s.timing.prevPeriod,
           q + s.tables.timing.tolerance < period ∨ period + s.tables.timing.tolerance < q) →
       ∃ t, exec .fsyncEdge s = .next t ∧ t.timing.sync = .acquiring ∧ t.timing.consistent = 0 ∧
         t.timing.prevPeriod = none ∧ t.timing.lastEdge = some s.now ∧
         t.SameBut [.timing, .grantSlots, .links, .queues, .mgmt] s) ∧
     (∀ tp, s.timing.sync = .locked → s.timing.window = some ⟨tp, none⟩ →
       s.now + s.tables.timing.tolerance < tp →
       ∃ t, exec .fsyncEdge s = .next t ∧ t.timing.sync = .acquiring ∧ t.timing.lastEdge = some s.now ∧
         t.timing.nextBoundary = s.timing.nextBoundary ∧
         t.counters.syncLosses = s.counters.syncLosses + 1 ∧
         (t.events.marks (.hub .syncLost)).set = true ∧
         t.SameBut [.timing, .grantSlots, .links, .queues, .mgmt, .events, .counters] s) ∧
     (∀ tp, s.timing.sync = .holdover → s.timing.window = some ⟨tp, none⟩ →
       s.now + s.tables.timing.tolerance < tp →
       ∃ t, exec .fsyncEdge s = .next t ∧ t.timing.sync = .acquiring ∧ t.timing.holdover = 0 ∧
         t.SameBut [.timing, .grantSlots, .links, .queues, .mgmt] s)) ∧
  (∀ (s : State) (last tp tol period : Nat), s.resetPin = false →
     s.timing.sync = .locked ∨ s.timing.sync = .holdover →
     s.timing.window = some ⟨tp, some tol⟩ → s.now ≤ tp + tol → s.timing.lastEdge = some last →
     period = (if s.now - last ≤ s.timing.period + s.tables.timing.tolerance ∧
         s.timing.period ≤ s.now - last + s.tables.timing.tolerance ∧
         s.tables.timing.windowMin ≤ s.now - last ∧ s.now - last ≤ s.tables.timing.windowMax
       then s.now - last else s.timing.period) →
     ∃ t, exec .fsyncEdge s = .next t ∧ t.timing.sync = .locked ∧ t.timing.period = period ∧
       t.timing.nextBoundary = s.now + period ∧ t.timing.lastEdge = some s.now ∧
       t.timing.window = some ⟨s.now + period, none⟩ ∧
       (s.timing.nextBoundary = tp → t.timing.counter = s.timing.counter + 1 ∧
         t.timing.lastBoundary = s.now) ∧
       (s.timing.nextBoundary ≠ tp → t.timing.counter = s.timing.counter ∧
         t.timing.lastBoundary = s.timing.lastBoundary ∧ t.phases = s.phases) ∧
       (s.timing.sync = .holdover → t.timing.holdover = 0 ∧ (t.events.marks (.hub .syncLocked)).set = true) ∧
       t.counters.syncLosses = s.counters.syncLosses ∧
       t.SameBut [.sel, .budget, .admission, .grantSlots, .ports, .links, .queues, .records, .held, .phases,
         .timing, .mgmt, .events, .counters] s) ∧
  (∀ (s w v x : State) (last tp tol period : Nat) (agrees : Bool), s.resetPin = false →
     s.timing.sync = .locked ∨ s.timing.sync = .holdover →
     s.timing.window = some ⟨tp, some tol⟩ → s.now ≤ tp + tol → s.timing.lastEdge = some last →
     agrees = decide (s.now - last ≤ s.timing.period + s.tables.timing.tolerance ∧
       s.timing.period ≤ s.now - last + s.tables.timing.tolerance ∧
       s.tables.timing.windowMin ≤ s.now - last ∧ s.now - last ≤ s.tables.timing.windowMax) →
     period = (if agrees then s.now - last else s.timing.period) →
     w = { s with timing := { s.timing with
       sync := .locked, holdover := if s.timing.sync = .holdover then 0 else s.timing.holdover
       period := period, accepted := s.timing.accepted || agrees } } →
     v = (if s.timing.nextBoundary = tp then w.boundaryAt s.now else w) →
     x = { v with timing := { v.timing with
       nextBoundary := s.now + period, lastEdge := some s.now, window := some ⟨s.now + period, none⟩ } } →
     exec .fsyncEdge s = .next (State.selectAll
       (if s.timing.sync = .holdover then State.raise (.hub .syncLocked) x else x)))

/-- R132, R133: a window closes with no edge. -/
def Obligations.WindowClosesWithNoEdge : Prop :=
  ∀ (s : State) (w : Window), s.resetPin = false → s.timing.window = some w →
    (s.timing.sync = .locked →
      ∃ t, exec .windowCloseNoEdge s = .next t ∧
        t.timing = { s.timing with
          sync := .holdover, holdover := 1, window := some ⟨s.timing.nextBoundary, none⟩ } ∧
        t.counters.syncLosses = s.counters.syncLosses + 1 ∧
        (t.events.marks (.hub .syncLost)).set = true ∧
        t.SameBut [.timing, .grantSlots, .links, .queues, .mgmt, .events, .counters] s) ∧
    (s.timing.sync = .holdover → s.timing.holdover < 63 →
      ∃ t, exec .windowCloseNoEdge s = .next t ∧
        t.timing = { s.timing with
          holdover := s.timing.holdover + 1, window := some ⟨s.timing.nextBoundary, none⟩ } ∧
        t.SameBut [.timing, .grantSlots, .links, .queues, .mgmt] s) ∧
    (s.timing.sync = .holdover → s.timing.holdover = 63 →
      ∃ t, exec .windowCloseNoEdge s = .next t ∧
        t.timing = { s.timing with sync := .unlocked, holdover := 0, window := none } ∧
        t.counters.syncLosses = s.counters.syncLosses + 1 ∧
        (t.events.marks (.hub .syncLost)).set = true ∧
        t.SameBut [.timing, .grantSlots, .links, .queues, .mgmt, .events, .counters] s)

/-! ### Requests -/

/-- R144, R146: an unknown code, a wrong length, and a request that has to wait. -/
def Obligations.RequestsRefusedOrWaiting : Prop :=
  (∀ (s u : State) (r : Request) (rest : List Request), s.Executes r rest → u = s.popped rest →
    (requestLength r.code.toNat = none →
      exec .unknownRequest s = .next (u.placeResponse r.code [8] none).selectAll) ∧
    (∀ n, requestLength r.code.toNat = some n → r.payload.length ≠ n →
      exec r.row s = .next (u.placeResponse r.code [4] none).selectAll)) ∧
  (∀ (s : State) (r : Request) (rest : List Request), s.resetPin = false → s.mgmt.input = r :: rest →
    s.mgmt.inHand ≠ .nothing ∨ (4 ≤ s.mgmt.lane.length ∧ s.linkState .u = .up ∧ r.row ≠ .trafficReset) →
    exec r.row s = .next s.selectAll)

/-- R146, R148, R154: the three reads, with the layouts of their results, field by field. A number is reported modulo
the width of its field. That offset 31 of READ PORT reports the ramp position and the held count in every state, where
R85 names them in RAMP, is the model's choice (log 29). Left open are the fields of an absent thing, p and t before the first scan judged in ON, the
non-zero byte of a set flag and the bits that the layouts assign to nothing (log 15, 16, 17, 35), and which way a
remaining time is rounded (log 14). A read writes nothing but its response. -/
def Obligations.ReadRequests : Prop :=
  (∀ (s u : State) (r : Request) (rest : List Request), s.Executes r rest → u = s.popped rest →
    (r.code = 1 → r.payload.length = 0 →
      exec .readStatus s = .next
        (u.drawn.placeResponse 1 u.statusBytes (some s.events.report)).selectAll ∧
      u.statusBytes = s.statusBytes) ∧
    (r.code = 2 → r.payload.length = 1 →
      (byteAt r.payload 0 = 0 ∨ 8 < byteAt r.payload 0 →
        exec .readPort s = .next (u.placeResponse 2 [2] none).selectAll) ∧
      (∀ p : Port, byteAt r.payload 0 = p.number →
        exec .readPort s = .next (u.drawn.placeResponse 2 (u.portBytes p) none).selectAll ∧
        u.portBytes p = s.portBytes p)) ∧
    (r.code = 3 → r.payload.length = 2 →
      (byteAt r.payload 0 = 0 ∨ 9 < byteAt r.payload 0 →
        exec .readTable s = .next (u.placeResponse 3 [3] none).selectAll) ∧
      (1 ≤ byteAt r.payload 0 → byteAt r.payload 0 ≤ 9 →
        tableRef (byteAt r.payload 0) (byteAt r.payload 1) = none →
        exec .readTable s = .next (u.placeResponse 3 [2] none).selectAll) ∧
      (∀ x, tableRef (byteAt r.payload 0) (byteAt r.payload 1) = some x →
        exec .readTable s = .next (u.drawn.placeResponse 3 (0 :: u.tableBytes x) none).selectAll ∧
        u.tableBytes x = s.tableBytes x))) ∧
  (∀ (s : State) (b : List Byte), b = s.statusBytes →
    b.length = 48 ∧ b[0]? = some 0 ∧
    (byteAt b 1).testBit 0 = s.mgmt.operational ∧ (byteAt b 1).testBit 1 = s.mgmt.lineMark ∧
    (byteAt b 1).testBit 2 = s.mgmt.battMark ∧ (byteAt b 1).testBit 3 = s.mgmt.budgetMark ∧
    (byteAt b 1).testBit 4 = s.inForce ∧ (byteAt b 1).testBit 5 = s.timing.shadowWritten ∧
    (byteAt b 1).testBit 6 = (s.phases.get .u).released ∧
    byteAt b 2 % 8 = (match s.sel.state with
      | .start => 0 | .active .line => 1 | .active .batt => 2 | .changeover _ => 3 | .noSource => 4 | .cut => 5) ∧
    byteAt b 2 / 8 % 4 = (match s.sel.state with
      | .changeover .line => 1 | .changeover .batt => 2 | _ => 0) ∧
    (byteAt b 2).testBit 5 = s.sel.change.isSome ∧
    (∀ c ∈ s.sel.change, (byteAt b 2).testBit 6 = decide (c.target = .batt) ∧ b[3]? = some c.frame) ∧
    byteAt b 4 % 4 = (match s.supply.line.qual with | .unusable => 0 | .qualifying => 1 | .usable => 2) ∧
    byteAt b 4 / 4 % 4 = (match s.supply.batt.qual with | .unusable => 0 | .qualifying => 1 | .usable => 2) ∧
    byteAt b 4 / 16 % 4 = (match s.budget.overcommit with | .clear => 0 | .timing => 1 | .unresolved => 2) ∧
    (byteAt b 4).testBit 6 = s.held ∧ (byteAt b 4).testBit 7 = (s.links.get .u).receivedHold ∧
    wordAt b 5 = s.budget.d10 % 65536 ∧ wordAt b 7 = s.budget.cr % 65536 ∧ wordAt b 9 = s.budget.ci % 65536 ∧
    wordAt b 11 = s.budget.c % 65536 ∧ wordAt b 13 = s.budget.b % 65536 ∧ wordAt b 15 = s.grantedSum % 65536 ∧
    (wordAt b 17 : Int) = s.free % 65536 ∧
    byteAt b 19 = (s.admission.length * 16 + s.granted.length) % 256 ∧
    (∀ p : Port,
      byteAt b (20 + (p.number - 1) / 2) / 16 ^ (p.number % 2) % 16 = (s.ports.get p).state.code ∧
      byteAt b (24 + (p.number - 1) / 4) / 4 ^ (3 - (p.number - 1) % 4) % 4 = (match s.linkState (.port p) with
        | .down => 0 | .wait => 1 | .up => 2)) ∧
    byteAt b 26 = s.freeCells ∧ byteAt b 27 = s.freeRecords % 256 ∧ byteAt b 28 = s.tables.holdLevel % 256 ∧
    (∀ d : Dest, byteAt b (29 + d.number) =
      ((s.queues.get d).urgent.length * 16 + (s.queues.get d).bulk.length) % 256) ∧
    byteAt b 38 = ((match s.timing.sync with
      | .unlocked => 0 | .acquiring => 1 | .locked => 2 | .holdover => 3) * 64 + s.timing.holdover) % 256 ∧
    b[39]? = some s.timing.counter ∧ wordAt b 40 = s.timing.period % 65536 ∧
    wordAt b 42 = (s.phases.get .u).active % 65536 ∧
    (s.Bounded → byteAt b 44 / 16 = (s.phases.get .u).markCount ∧
      byteAt b 44 % 8 = (s.queues.get .u).timed.length) ∧
    wordAt b 45 < 32768 ∧ (∀ h : HubItem, (wordAt b 45).testBit h.number = (s.events.marks (.hub h)).set) ∧
    (∀ p : Port, (byteAt b 47).testBit (p.number - 1) = (s.events.marks (.mark p)).set)) ∧
  (∀ (s : State) (p : Port) (x : PortUnit) (b : List Byte), x = s.ports.get p → b = s.portBytes p →
    b.length = 42 ∧ b[0]? = some 0 ∧ byteAt b 1 = p.number ∧
    byteAt b 2 % 16 = x.state.code ∧ (byteAt b 2).testBit 4 = x.state.closed ∧
    (byteAt b 2).testBit 5 = decide (x.stable = .attached) ∧
    (byteAt b 2).testBit 6 = decide (x.present = .attached) ∧ (byteAt b 2).testBit 7 = x.debounce.isSome ∧
    wordAt b 3 = x.sense % 65536 ∧
    (byteAt b 5).testBit 3 = x.eff.isSome ∧
    (∀ e ∈ x.eff, byteAt b 5 % 8 = e.cls.number ∧ (byteAt b 5).testBit 4 = e.fixed) ∧
    (s.priority? p = none → (byteAt b 5).testBit 7 = false) ∧
    (∀ n ∈ s.priority? p, n ≤ 3 → byteAt b 5 / 32 % 4 = n ∧ (byteAt b 5).testBit 7 = true) ∧
    wordAt b 6 = x.grant % 65536 ∧
    (p ∉ s.granted → byteAt b 8 = 0) ∧
    (∀ front back, s.granted = front ++ p :: back → p ∉ front → byteAt b 8 = (front.length + 1) % 256) ∧
    (s.entryOf p = none → byteAt b 9 = 0 ∧ byteAt b 12 = 0) ∧
    (∀ e front back, s.admission = front ++ e :: back → e.port = p → (∀ f ∈ front, f.port ≠ p) →
      byteAt b 9 = (match e.reason with
        | .attach => 1 | .increase => 2 | .shed => 3 | .supply => 4 | .retry => 5 | .reset => 6) ∧
      wordAt b 10 = e.draw % 65536 ∧ byteAt b 12 = (front.length + 1) % 256) ∧
    (∀ offset unit timer,
      (offset, unit, timer) ∈ [(13, 100000, (s.entryOf p).bind (·.wait)), (15, 100000, (s.entryOf p).bind (·.holdOff)),
        (35, 1000, match x.state with
          | .limit => x.overdrawTimer | .tripped => x.retryTimer | .on => x.cleanTimer | _ => none)] →
      (timer = none → wordAt b offset = 65535) ∧
      (∀ n, timer = some n → wordAt b offset = n / unit % 65536 ∨
        (n % unit ≠ 0 ∧ wordAt b offset = (n / unit + 1) % 65536))) ∧
    (b.drop 17).take 8 = be32 (s.counters.port.get p).grants.toNat ++ be32 (s.counters.port.get p).sheds.toNat ∧
    wordAt b 25 = x.current % 65536 ∧
    (x.state ≠ .on → x.state ≠ .limit → wordAt b 27 = 0 ∧ wordAt b 29 = 0) ∧
    (∀ f ∈ x.figures, x.state = .on ∨ x.state = .limit →
      wordAt b 27 = f.1 % 65536 ∧ wordAt b 29 = f.2 % 65536) ∧
    byteAt b 31 = (x.rampPos + x.heldCount * 32) % 256 ∧
    byteAt b 32 % 128 = (x.retryCount + (match x.lastTrip with
      | none => 0 | some .short => 1 | some .overdraw => 2 | some .rampStall => 3) * 32) % 128 ∧
    (x.state = .locked → x.retryCount < 32 → (byteAt b 32).testBit 7 = decide (x.lockReason = some .senseShort)) ∧
    (∀ n ∈ x.retryDraw, wordAt b 33 = n % 65536) ∧
    byteAt b 37 % 4 = (match s.linkState (.port p) with | .down => 0 | .wait => 1 | .up => 2) ∧
    (byteAt b 37).testBit 2 = (s.links.get (.port p)).receivedHold ∧
    (byteAt b 37).testBit 3 = (s.grantSlots.get p).isSome ∧
    (byteAt b 37).testBit 4 = (s.links.get (.port p)).markSlot.isSome ∧
    (byteAt b 37).testBit 5 = (s.links.get (.port p)).flowSlot.isSome ∧
    (byteAt b 37).testBit 6 = (s.links.get (.port p)).tx.isSome ∧
    (byteAt b 37).testBit 7 = (s.phases.get (.port p)).released ∧
    byteAt b 38 = ((s.queues.get (.port p)).urgent.length * 16 + (s.queues.get (.port p)).bulk.length) % 256 ∧
    (s.Bounded → byteAt b 39 / 16 = (s.phases.get (.port p)).markCount ∧
      byteAt b 39 % 8 = (s.queues.get (.port p)).timed.length) ∧
    wordAt b 40 = (s.phases.get (.port p)).active % 65536) ∧
  [PortState.vacant, .debounce, .waiting, .ramp, .on, .limit, .paused, .tripped, .locked, .denied, .disabled].map
    PortState.code = List.range 11 ∧
  (∀ (table index : Nat) (x : TableRef), tableRef table index = some x ↔
    (table = 1 ∧ ((index = 1 ∧ x = .source .line) ∨ (index = 2 ∧ x = .source .batt))) ∨
    (table = 2 ∧ index = 0 ∧ x = .selector) ∨ (table = 3 ∧ index = 0 ∧ x = .budget) ∨
    (table = 4 ∧ ∃ c : ClassNo, index = c.number ∧ x = .cls c) ∨
    (table = 5 ∧ ∃ p : Port, index = p.number ∧ x = .port p) ∨
    (table = 6 ∧ index < 48 ∧ x = .route index) ∨ (table = 7 ∧ index = 0 ∧ x = .timing) ∨
    (table = 8 ∧ index = 0 ∧ x = .traffic) ∨ (table = 9 ∧ index = 0 ∧ x = .events)) ∧
  (∀ s : State,
    (∀ src, s.tableBytes (.source src) = (s.tables.source.get src).bytes src) ∧
    s.tableBytes .selector = s.tables.selector.bytes ∧ s.tableBytes .budget = s.tables.budget.bytes ∧
    (∀ c, s.tableBytes (.cls c) = (s.tables.cls.get c).bytes c) ∧
    (∀ p, s.tableBytes (.port p) = (s.tables.port.get p).bytes p) ∧
    (∀ i e, s.tables.route[i]? = some e → ∃ valid align, 1 ≤ valid ∧ valid ≤ 255 ∧ 1 ≤ align ∧ align ≤ 255 ∧
      s.tableBytes (.route i) = e.bytes i valid align) ∧
    s.tableBytes .timing = s.tables.timing.bytes (PerDest.ofFn fun d => (s.phases.get d).shadow) ∧
    s.tableBytes .traffic = [byte s.tables.holdLevel] ∧ s.tableBytes .events = s.tables.events.bytes)

/-- R147, R148: a record in the layout of READ TABLE is read back by its load, whole. -/
def Obligations.RecordsRoundTrip : Prop :=
  (∀ (src : Source) (x : SourceRecord), x.InRange →
    parseSource (x.bytes src) = .ok (src, x) ∧ (x.bytes src).length = 32) ∧
  (∀ x : SelectorSettings, x.InRange → parseSelector x.bytes = .ok x ∧ x.bytes.length = 3) ∧
  (∀ x : BudgetParams, x.InRange → parseBudget x.bytes = .ok x ∧ x.bytes.length = 9) ∧
  (∀ (c : ClassNo) (x : ClassRecord), x.InRange →
    parseClass (x.bytes c) = .ok (c, x) ∧ (x.bytes c).length = 18) ∧
  (∀ (p : Port) (x : PortRecord), x.InRange → parsePort (x.bytes p) = .ok (p, x) ∧ (x.bytes p).length = 5) ∧
  (∀ (i valid align : Nat) (x : RouteEntry), i < 48 → 1 ≤ valid → valid ≤ 255 → 1 ≤ align → align ≤ 255 →
    x.InRange → parseRoute (x.bytes i valid align) = .ok (i, x) ∧ (x.bytes i valid align).length = 11) ∧
  (∀ (x : TimingRecord) (shadow : PerDest Nat), x.InRange → (∀ d, shadow.get d < 65536) →
    parseTiming (x.bytes shadow) = .ok (x, shadow) ∧ (x.bytes shadow).length = 34) ∧
  (∀ n, 8 ≤ n → n ≤ 64 → parseHoldLevel [byte n] = n) ∧
  (∀ x : EventSettings, (∀ i, (x.hub.get i).InRange) → x.marks.InRange →
    parseEvents x.bytes = x ∧ x.bytes.length = 16)

/-- R5, R7, R23, R37, R39, R103, R119, R125, R154: exactly which values a load refuses, with which status, and what it
writes of those that it takes, field by field, with its clamps. -/
def Obligations.LoadChecksAndClamps : Prop :=
  ∀ p : List Byte,
    (byteAt p 0 = 0 ∨ 2 < byteAt p 0 ↔ parseSource p = .error .badIndex) ∧
    (∀ e, parseSource p = .error e → e = .badIndex ∨ e = .badValue) ∧
    (1 ≤ byteAt p 0 → byteAt p 0 ≤ 2 →
      (byteAt p 13 < 2 ∨ 6 < byteAt p 13 ∨
        (∃ i, i + 1 < byteAt p 13 ∧ wordAt p (17 + 3 * i) ≤ wordAt p (14 + 3 * i)) ∨
        (∃ i, i < byteAt p 13 ∧ (100 < byteAt p (16 + 3 * i) ∨ 40950 < wordAt p (14 + 3 * i))) ∨
        40950 < wordAt p 1 ∨ 2000 < wordAt p 3 ∨ 40950 < wordAt p 5 ∨ wordAt p 5 ≤ wordAt p 1 + wordAt p 3 ↔
      parseSource p = .error .badValue)) ∧
    (∀ src x, parseSource p = .ok (src, x) →
      src.code = byteAt p 0 ∧ x.cutoff = wordAt p 1 ∧ x.hysteresis = wordAt p 3 ∧ x.overVoltage = wordAt p 5 ∧
      x.qualifyTime = byteAt p 7 ∧ x.failTime = byteAt p 8 ∧ x.rated = min (wordAt p 9) 6000 ∧
      x.limit = min (wordAt p 11) 30000 ∧ x.curve.length = byteAt p 13 ∧
      ∀ i, i < byteAt p 13 → x.curve[i]? = some ⟨wordAt p (14 + 3 * i), byteAt p (16 + 3 * i)⟩) ∧
    (wordAt p 0 < 10000 ∨ 50000 < wordAt p 0 ∨ wordAt p 2 < 10000 ∨ 50000 < wordAt p 2 ∨ wordAt p 4 < 10000 ∨
      50000 < wordAt p 4 ∨ wordAt p 4 < wordAt p 2 ∨ byteAt p 6 = 0 ∨
      (∃ d : Dest, 15 < byteAt p (25 + d.number)) ↔ parseTiming p = .error .badValue) ∧
    (∀ e, parseTiming p = .error e → e = .badValue) ∧
    (∀ x shadow, parseTiming p = .ok (x, shadow) →
      x.nominal = wordAt p 0 ∧ x.windowMin = wordAt p 2 ∧ x.windowMax = wordAt p 4 ∧ x.tolerance = byteAt p 6 ∧
      ∀ d : Dest, shadow.get d = wordAt p (7 + 2 * d.number) ∧
        x.markInterval.get d = byteAt p (25 + d.number)) ∧
    (2 < byteAt p 0 ↔ parseSelector p = .error .badValue) ∧ (∀ e, parseSelector p = .error e → e = .badValue) ∧
    (∀ x, parseSelector p = .ok x →
      (x.preferred = none ↔ byteAt p 0 = 0) ∧ (∀ src : Source, x.preferred = some src ↔ byteAt p 0 = src.code) ∧
      x.autoReturn = byteAt p 1 ∧ x.deadTime = (if byteAt p 2 = 0 then 1 else byteAt p 2)) ∧
    (6000 < wordAt p 0 ∨ 6000 < wordAt p 2 ∨ 1000 < wordAt p 4 ↔ parseBudget p = .error .badValue) ∧
    (∀ e, parseBudget p = .error e → e = .badValue) ∧
    (∀ x, parseBudget p = .ok x →
      x.allowance.line = wordAt p 0 ∧ x.allowance.batt = wordAt p 2 ∧ x.headroom = wordAt p 4 ∧
      x.shedDelay = min (wordAt p 6) 2000 ∧ x.readmit = min (byteAt p 8) 60) ∧
    (7 < byteAt p 0 ↔ parseClass p = .error .badIndex) ∧
    (byteAt p 0 ≤ 7 ∧ (1200 < wordAt p 5 ∨ wordAt p 5 < wordAt p 3 ∨ 3 < byteAt p 7) ↔
      parseClass p = .error .badValue) ∧
    (∀ e, parseClass p = .error e → e = .badIndex ∨ e = .badValue) ∧
    (∀ c x, parseClass p = .ok (c, x) →
      c.number = byteAt p 0 ∧ x.idleDraw = wordAt p 3 ∧ x.maxDemand = wordAt p 5 ∧ x.priority = byteAt p 7 ∧
      x.defaultDemand = min (max (wordAt p 1) (wordAt p 3)) (wordAt p 5) ∧ x.tolerance = min (byteAt p 8) 50 ∧
      x.overdrawTime = min (wordAt p 9) 5000 ∧ x.inrush = min (max (wordAt p 11) 100) 8000 ∧
      x.rampFactor = min (max (byteAt p 13) 1) 63 ∧ x.retryLimit = min (byteAt p 14) 15 ∧
      x.retryDelay = max (byteAt p 15) 1 ∧ x.waitLimit = byteAt p 16 ∧
      x.sheddable = (byteAt p 17).testBit 0 ∧ x.rideThrough = (byteAt p 17).testBit 1) ∧
    (byteAt p 0 = 0 ∨ 8 < byteAt p 0 ↔ parsePort p = .error .badIndex) ∧
    (1 ≤ byteAt p 0 ∧ byteAt p 0 ≤ 8 ∧
        (1 < byteAt p 1 ∨ (byteAt p 1 = 1 ∧ 7 < byteAt p 2) ∨ (3 < byteAt p 3 ∧ byteAt p 3 ≠ 255)) ↔
      parsePort p = .error .badValue) ∧
    (∀ e, parsePort p = .error e → e = .badIndex ∨ e = .badValue) ∧
    (∀ q x, parsePort p = .ok (q, x) →
      q.number = byteAt p 0 ∧ (x.classSource = .detected ↔ byteAt p 1 = 0) ∧
      (∀ c : ClassNo, x.classSource = .fixed c ↔ byteAt p 1 = 1 ∧ byteAt p 2 = c.number) ∧
      x.override = (if byteAt p 3 = 255 then none else some (byteAt p 3)) ∧ x.debounce = byteAt p 4) ∧
    (48 ≤ byteAt p 0 ↔ parseRoute p = .error .badIndex) ∧
    (byteAt p 0 < 48 → byteAt p 1 = 0 → parseRoute p = .ok (byteAt p 0, RouteEntry.reset)) ∧
    (byteAt p 0 < 48 ∧ byteAt p 1 ≠ 0 ∧
        (9 < byteAt p 2 ∨ byteAt p 4 < byteAt p 3 ∨ 1 < byteAt p 5 ∨ 1 < byteAt p 8 ∨ 1 < byteAt p 9) ↔
      parseRoute p = .error .badValue) ∧
    (∀ e, parseRoute p = .error e → e = .badIndex ∨ e = .badValue) ∧
    (∀ i x, parseRoute p = .ok (i, x) → byteAt p 1 ≠ 0 →
      i = byteAt p 0 ∧ x.valid = true ∧ (x.ingress = .upstream ↔ byteAt p 2 = 0) ∧
      (∀ q : Port, x.ingress = .port q ↔ byteAt p 2 = q.number) ∧ (x.ingress = .anyPort ↔ byteAt p 2 = 9) ∧
      x.low = byteAt p 3 ∧ x.high = byteAt p 4 ∧ (x.action = .drop ↔ byteAt p 5 = 1) ∧
      (∀ d : Dest, x.dests.get d = (wordAt p 6).testBit d.number) ∧ (x.cls = .urgent ↔ byteAt p 8 = 1) ∧
      (x.late = .drop ↔ byteAt p 9 = 1) ∧ (x.align = true ↔ byteAt p 10 ≠ 0)) ∧
    parseHoldLevel p = min (max (byteAt p 0) 8) 64

/-- R5, R6, R7, R17, R23, R24, R37 to R39, R141, R147: the loads of the power tables. A refused one writes nothing;
one that is accepted writes its record whole, sets its loaded mark, and has the budget computed or the auto-return
timer judged anew. That LOAD SOURCE has the budget computed for either source is the model's choice (log 18; compare
R24, "changes no figure"). -/
def Obligations.LoadPowerTables : Prop :=
  ∀ (s u : State) (r : Request) (rest : List Request), s.Executes r rest → u = s.popped rest →
    (r.code = 16 → r.payload.length = 32 →
      (∀ e, parseSource r.payload = .error e →
        exec .loadSource s = .next (u.placeResponse 16 [byte e.code] none).selectAll) ∧
      (∀ x, parseSource r.payload = .ok (.line, x) →
        exec .loadSource s = .next (State.selectAll (State.placeResponse 16 [0] none
          { u with tables := { u.tables with source := ⟨x, u.tables.source.batt⟩ }
                   mgmt := { u.mgmt with lineMark := true } }.computeBudget))) ∧
      (∀ x, parseSource r.payload = .ok (.batt, x) →
        exec .loadSource s = .next (State.selectAll (State.placeResponse 16 [0] none
          { u with tables := { u.tables with source := ⟨u.tables.source.line, x⟩ }
                   mgmt := { u.mgmt with battMark := true } }.computeBudget)))) ∧
    (r.code = 17 → r.payload.length = 3 →
      (∀ e, parseSelector r.payload = .error e →
        exec .loadSelector s = .next (u.placeResponse 17 [byte e.code] none).selectAll) ∧
      (∀ x, parseSelector r.payload = .ok x →
        exec .loadSelector s = .next (State.selectAll (State.placeResponse 17 [0] none
          { u with tables := { u.tables with selector := x }
                   sel := { u.sel with autoTimer := none } }.judgeAuto)))) ∧
    (r.code = 18 → r.payload.length = 9 →
      (∀ e, parseBudget r.payload = .error e →
        exec .loadBudget s = .next (u.placeResponse 18 [byte e.code] none).selectAll) ∧
      (∀ x, parseBudget r.payload = .ok x →
        exec .loadBudget s = .next (State.selectAll (State.placeResponse 18 [0] none
          { u with tables := { u.tables with budget := x }
                   mgmt := { u.mgmt with budgetMark := true } }.computeBudget)))) ∧
    (r.code = 19 → r.payload.length = 18 →
      (∀ e, parseClass r.payload = .error e →
        exec .loadClass s = .next (u.placeResponse 19 [byte e.code] none).selectAll) ∧
      (∀ c x, parseClass r.payload = .ok (c, x) →
        exec .loadClass s = .next (State.selectAll (State.placeResponse 19 [0] none
          { u with tables := { u.tables with cls := u.tables.cls.set c x } })))) ∧
    (r.code = 20 → r.payload.length = 5 →
      (∀ e, parsePort r.payload = .error e →
        exec .loadPort s = .next (u.placeResponse 20 [byte e.code] none).selectAll) ∧
      (∀ p x, parsePort r.payload = .ok (p, x) →
        exec .loadPort s = .next (State.selectAll (State.placeResponse 20 [0] none
          { u with tables := { u.tables with port := u.tables.port.set p x } }))))

/-- R103, R104, R119, R125, R147: the loads of the traffic tables. LOAD TIMING writes its phases to the shadow set,
and its nominal period becomes the period in use only while no pulse has been accepted; LOAD TRAFFIC judges the
held state against the new level. -/
def Obligations.LoadTrafficTables : Prop :=
  ∀ (s u : State) (r : Request) (rest : List Request), s.Executes r rest → u = s.popped rest →
    (r.code = 21 → r.payload.length = 11 →
      (∀ e, parseRoute r.payload = .error e →
        exec .loadRoute s = .next (u.placeResponse 21 [byte e.code] none).selectAll) ∧
      (∀ i x, parseRoute r.payload = .ok (i, x) →
        exec .loadRoute s = .next (State.selectAll (State.placeResponse 21 [0] none
          { u with tables := { u.tables with route := u.tables.route.set i x } })))) ∧
    (r.code = 22 → r.payload.length = 34 →
      (∀ e, parseTiming r.payload = .error e →
        exec .loadTiming s = .next (u.placeResponse 22 [byte e.code] none).selectAll) ∧
      (∀ x shadow, parseTiming r.payload = .ok (x, shadow) →
        ∃ t, exec .loadTiming s = .next (State.selectAll (State.placeResponse 22 [0] none t)) ∧
          t.tables = { s.tables with timing := x } ∧
          (∀ d, (t.phases.get d).shadow = shadow.get d ∧
            (t.phases.get d).active = (s.phases.get d).active ∧
            (t.phases.get d).released = (s.phases.get d).released) ∧
          t.timing.shadowWritten = true ∧
          t.timing.period = (if s.timing.sync = .unlocked ∧ s.timing.accepted = false then x.nominal
            else s.timing.period) ∧
          t.timing.nextBoundary = s.timing.nextBoundary ∧ t.timing.sync = s.timing.sync ∧
          t.timing.counter = s.timing.counter ∧ t.SameBut [.tables, .phases, .timing] u)) ∧
    (r.code = 23 → r.payload.length = 1 →
      ∃ t, exec .loadTraffic s = .next (State.selectAll (State.placeResponse 23 [0] none t)) ∧
        t.tables = { s.tables with holdLevel := parseHoldLevel r.payload } ∧
        t.held = (if s.held then decide (s.freeCells < parseHoldLevel r.payload + 16)
          else decide (s.freeCells ≤ parseHoldLevel r.payload)) ∧
        (s.held = false → s.freeCells ≤ parseHoldLevel r.payload →
          (t.events.marks (.hub .poolHold)).set = true ∧
          ∀ d, s.linkState d = .up → (t.links.get d).flowSlot = some .hold) ∧
        (s.held = true → parseHoldLevel r.payload + 16 ≤ s.freeCells →
          t.events = s.events ∧ ∀ d, s.linkState d = .up → (t.links.get d).flowSlot = some .resume) ∧
        t.SameBut [.tables, .held, .links, .events] u)

/-- R44, R142: START with the gate OPERATIONAL, with a mark clear, and with all three set. -/
def Obligations.StartRequest : Prop :=
  ∀ (s u : State) (r : Request) (rest : List Request), s.Executes r rest → u = s.popped rest →
    r.code = 32 → r.payload.length = 0 →
    (s.mgmt.operational = true → exec .start s = .next (u.placeResponse 32 [0] none).selectAll) ∧
    (s.mgmt.operational = false →
      s.mgmt.lineMark = false ∨ s.mgmt.battMark = false ∨ s.mgmt.budgetMark = false →
      exec .start s = .next (u.placeResponse 32 [6] none).selectAll) ∧
    (s.mgmt.operational = false → s.mgmt.lineMark = true → s.mgmt.battMark = true →
      s.mgmt.budgetMark = true →
      exec .start s = .next (State.selectAll (State.placeResponse 32 [0] none
        { u with mgmt := { u.mgmt with operational := true } }.evaluate)))

/-- R18 to R20: SET SOURCE in both forms, and the judgement of a pending change by its frame distance. -/
def Obligations.SetSourceRequests : Prop :=
  (∀ (s u : State) (r : Request) (rest : List Request), s.Executes r rest → u = s.popped rest →
    r.code = 33 → r.payload.length = 3 →
    (1 < byteAt r.payload 1 → exec .setSourceImmediate s = .next (u.placeResponse 33 [3] none).selectAll) ∧
    (∀ c, (c = .setSourceImmediate ∧ byteAt r.payload 1 = 0) ∨
        (c = .setSourceFrameAligned ∧ byteAt r.payload 1 = 1) →
      (sourceOfCode (byteAt r.payload 0) = none →
        exec c s = .next (u.placeResponse 33 [3] none).selectAll) ∧
      (∀ x, sourceOfCode (byteAt r.payload 0) = some x →
        (∀ y, s.sel.state = .changeover y → exec c s = .next (u.placeResponse 33 [1] none).selectAll) ∧
        (s.sel.state = .start ∨ s.sel.state = .noSource ∨ s.sel.state = .cut →
          exec c s = .next (u.placeResponse 33 [7] none).selectAll) ∧
        (s.sel.state = .active x →
          exec c s = .next (State.selectAll (State.placeResponse 33 [0] none
            { u with sel := { u.sel with change := none } }))) ∧
        (∀ a, s.sel.state = .active a → a ≠ x →
          (c = .setSourceImmediate → (s.supply.get x).qual ≠ .usable →
            exec c s = .next (u.placeResponse 33 [5] none).selectAll) ∧
          (c = .setSourceImmediate → (s.supply.get x).qual = .usable →
            exec c s = .next (State.selectAll (State.placeResponse 33 [0] none (u.beginChangeover x)))) ∧
          (c = .setSourceFrameAligned →
            exec c s = .next (State.selectAll (State.placeResponse 33 [0] none
              { u with sel := { u.sel with
                change := some ⟨x, byte (byteAt r.payload 2)⟩ } }.judgeChange))))))) ∧
  (∀ (s : State) (c : PendingChange) (a : Source), s.sel.change = some c → s.sel.state = .active a →
    (1 ≤ (c.frame - s.timing.counter).toNat → (c.frame - s.timing.counter).toNat ≤ 127 →
      s.judgeChange = s) ∧
    ((c.frame - s.timing.counter).toNat = 0 ∨ 128 ≤ (c.frame - s.timing.counter).toNat →
      s.judgeChange.sel.change = none ∧
      ((s.supply.get c.target).qual = .usable → c.target ≠ a →
        s.judgeChange.sel.state = .changeover c.target) ∧
      ((s.supply.get c.target).qual ≠ .usable →
        s.judgeChange.sel.state = .active a ∧
        (s.judgeChange.events.marks (.hub .sourceRefused)).set = true ∧
        s.judgeChange.SameBut [.sel, .events] s)))

/-- R69, R82 to R84, R152: PORT CONTROL in its three actions; and how the classification ends to which ENABLE comes, for
an ATTACH entry, and RESET, for a RESET entry that raises no PORT_ATTACH. -/
def Obligations.PortControlRequests : Prop :=
  (∀ (s u : State) (r : Request) (rest : List Request), s.Executes r rest → u = s.popped rest →
    r.code = 34 → r.payload.length = 2 →
    (byteAt r.payload 0 = 0 ∨ 8 < byteAt r.payload 0 →
      exec r.row s = .next (u.placeResponse 34 [2] none).selectAll) ∧
    (∀ p : Port, byteAt r.payload 0 = p.number →
      (byteAt r.payload 1 = 0 ∨ 3 < byteAt r.payload 1 →
        exec .portControlEnable s = .next (u.placeResponse 34 [3] none).selectAll) ∧
      (byteAt r.payload 1 = 1 →
        ((s.ports.get p).state ≠ .disabled →
          exec .portControlEnable s = .next (u.placeResponse 34 [0] none).selectAll) ∧
        ((s.ports.get p).state = .disabled → (s.ports.get p).stable = .open →
          exec .portControlEnable s = .next (State.selectAll (State.placeResponse 34 [0] none
            (u.setPortState p (if (s.ports.get p).debounce.isSome then .debounce else .vacant))))) ∧
        ((s.ports.get p).state = .disabled → (s.ports.get p).stable = .attached →
          exec .portControlEnable s = .next (State.selectAll (State.placeResponse 34 [0] none
            (u.classify p .attach))))) ∧
      (byteAt r.payload 1 = 2 →
        ((s.ports.get p).state = .disabled →
          exec .portControlDisable s = .next (u.placeResponse 34 [0] none).selectAll) ∧
        (s.Powered →
          ∃ t, exec .portControlDisable s = .next (State.selectAll (State.placeResponse 34 [0] none t)) ∧
            (t.ports.get p).state = .disabled ∧ (t.ports.get p).stable = (s.ports.get p).stable ∧
            (t.ports.get p).grant = 0 ∧ p ∉ t.granted ∧
            ((s.ports.get p).state ≠ .disabled → (t.ports.get p).eff = none ∧
              (t.ports.get p).retryCount = 0 ∧ t.entryOf p = none ∧ t.linkState (.port p) = .down) ∧
            (p ∉ s.granted → ∀ q, q ≠ p → t.ports.get q = s.ports.get q) ∧
            t.SameBut [.ports, .admission, .granted, .grantSlots, .links, .queues, .records, .held, .events,
              .counters] u)) ∧
      (byteAt r.payload 1 = 3 →
        ((s.ports.get p).state = .tripped ∨ (s.ports.get p).state = .locked ∨
            (s.ports.get p).state = .denied →
          exec .portControlReset s = .next (State.selectAll (State.placeResponse 34 [0] none
            (State.classify p .reset { u with ports := u.ports.set p { u.ports.get p with
              retryCount := 0, retryTimer := none, lastTrip := none, lockReason := none,
              retryDraw := none } })))) ∧
        ((s.ports.get p).state ≠ .tripped → (s.ports.get p).state ≠ .locked →
          (s.ports.get p).state ≠ .denied →
          exec .portControlReset s = .next (u.placeResponse 34 [7] none).selectAll)))) ∧
  (∀ (s : State) (p : Port) (reason : Reason),
    (∀ c fixed, s.reading p = .cls c fixed →
      ∃ v : State, s.classify p reason = v.evaluate ∧
        v.ports.get p = { s.ports.get p with state := .waiting, eff := some ⟨c, fixed⟩ } ∧
        (∀ q, q ≠ p → v.ports.get q = s.ports.get q) ∧
        v.admission = s.admission ++
          [{ port := p, reason := reason,
             draw := min (max (s.tables.cls.get c).defaultDemand (s.tables.cls.get c).idleDraw)
               (s.tables.cls.get c).maxDemand,
             wait := if (s.tables.cls.get c).waitLimit = 0 then none
               else some ((s.tables.cls.get c).waitLimit * 1000000),
             holdOff := none }] ∧
        (reason = .attach → (v.events.marks (.hub .portAttach)).set = true) ∧
        (∀ i, i ≠ .mark p → (reason = .attach → i ≠ .hub .portAttach) → v.events.marks i = s.events.marks i) ∧
        v.SameBut [.ports, .admission, .events] s) ∧
    (s.reading p = .short →
      (s.classify p reason).ports.get p = { s.ports.get p with
        state := .locked, eff := none, lockReason := some .senseShort } ∧
      ((s.classify p reason).events.marks (.hub .portLocked)).set = true ∧
      (∀ q, q ≠ p → (s.classify p reason).ports.get q = s.ports.get q) ∧
      (s.classify p reason).SameBut [.ports, .events] s) ∧
    (s.reading p = .open →
      (s.classify p reason).ports.get p = { s.ports.get p with state := .vacant, eff := none, stable := .open } ∧
      ((s.classify p reason).events.marks (.hub .portDetach)).set = true ∧
      (∀ q, q ≠ p → (s.classify p reason).ports.get q = s.ports.get q) ∧
      (s.classify p reason).SameBut [.ports, .events] s))

/-- R156, R158, R160 to R163: raising an item, when each makes the notice pending, SET EVENTS, CLEAR EVENTS, the placing
of a NOTICE, and ATTENTION. -/
def Obligations.EventItems : Prop :=
  (∀ (s : State) (i : Item),
    ((s.raise i).events.marks i = (if (s.events.marks i).set = false then ⟨true, false, false⟩
      else if (s.events.marks i).reported = true ∨ s.outstanding i = true then
        { s.events.marks i with reoccurred := true } else s.events.marks i)) ∧
    (∀ j, j ≠ i → (s.raise i).events.marks j = s.events.marks j) ∧ (s.raise i).SameBut [.events] s ∧
    ((s.raise i).events.noticePending = true ↔ s.events.noticePending = true ∨ (.notice ∉ s.mgmt.lane ∧
      (s.tables.events.of i).enable = true ∧ 1 ≤ (s.tables.events.of i).level ∧
      ((s.events.marks i).set = false ∨ ((s.events.marks i).reoccurred = false ∧
        ((s.events.marks i).reported = true ∨ s.outstanding i = true)))))) ∧
  (∀ s : State, s.attention = true ↔ ∃ i, (s.events.marks i).set = true ∧
    (s.tables.events.of i).enable = true ∧ (s.tables.events.of i).level = 3) ∧
  (∀ (s u : State) (r : Request) (rest : List Request), s.Executes r rest → u = s.popped rest →
    (r.code = 35 → r.payload.length = 16 →
      ∃ t, exec .setEvents s = .next (State.selectAll (State.placeResponse 35 [0] none t)) ∧
        t.tables = { s.tables with events := parseEvents r.payload } ∧
        (∀ i, t.events.marks i = s.events.marks i) ∧
        (t.events.noticePending = true ↔ s.events.noticePending = true ∨ (.notice ∉ s.mgmt.lane ∧
          ∃ i, (s.events.marks i).set = true ∧ ((parseEvents r.payload).of i).enable = true ∧
            1 ≤ ((parseEvents r.payload).of i).level ∧
            ((s.events.marks i).reoccurred = true ∨
              ((s.events.marks i).reported = false ∧ s.outstanding i = false)))) ∧
        t.SameBut [.tables, .events] u) ∧
    (r.code = 36 → r.payload.length = 3 →
      ∃ t, exec .clearEvents s = .next (State.selectAll (State.placeResponse 36 [0] none t)) ∧
        (∀ i, t.events.marks i =
          (if named (wordAt r.payload 0) (byteAt r.payload 2) i = true ∧ (s.events.marks i).set = true ∧
              (s.events.marks i).reported = true then
            ⟨(s.events.marks i).reoccurred, false, false⟩ else s.events.marks i)) ∧
        (t.events.noticePending = true ↔ s.events.noticePending = true ∨ (.notice ∉ s.mgmt.lane ∧
          ∃ i, named (wordAt r.payload 0) (byteAt r.payload 2) i = true ∧ (s.events.marks i).set = true ∧
            (s.events.marks i).reported = true ∧ (s.events.marks i).reoccurred = true ∧
            (s.tables.events.of i).enable = true ∧ 1 ≤ (s.tables.events.of i).level)) ∧
        t.SameBut [.events] u)) ∧
  (∀ s : State, s.resetPin = false →
    (s.events.noticePending = true → s.linkState .u = .up → .notice ∉ s.mgmt.lane → s.mgmt.lane.length < 4 →
      exec .noticePlaced s = .next (State.selectAll
        { s with mgmt := { s.mgmt with lane := s.mgmt.lane ++ [.notice] }
                 events := { s.events with noticePending := false } })) ∧
    (s.events.noticePending = false ∨ s.linkState .u ≠ .up ∨ .notice ∈ s.mgmt.lane ∨
        4 ≤ s.mgmt.lane.length →
      exec .noticePlaced s = .next s.selectAll))

/-- R149, R155, R164, R165: a dump of the counters in nine responses, with and without clear, in the index order of
R155: response k carries indices 12 × (k − 1) onward, 48 bytes each and 16 in the ninth (R154). That the first response is
placed in the event that starts the dump is the model's choice (log 11). -/
def Obligations.CounterDump : Prop :=
  (∀ (c : Counters) (d : Dest) (p : Port),
    c.toList[8 * d.number]? = some (c.endpoint.get d).good ∧
    c.toList[8 * d.number + 1]? = some (c.endpoint.get d).checkError ∧
    c.toList[8 * d.number + 2]? = some (c.endpoint.get d).malformed ∧
    c.toList[8 * d.number + 3]? = some (c.endpoint.get d).transmitted ∧
    c.toList[8 * d.number + 4]? = some (c.endpoint.get d).queueFull ∧
    c.toList[8 * d.number + 5]? = some (c.endpoint.get d).noBuffer ∧
    c.toList[8 * d.number + 6]? = some (c.endpoint.get d).linkDown ∧
    c.toList[8 * d.number + 7]? = some (c.endpoint.get d).lateDrop ∧
    c.toList[72 + 3 * (p.number - 1)]? = some (c.port.get p).grants ∧
    c.toList[72 + 3 * (p.number - 1) + 1]? = some (c.port.get p).sheds ∧
    c.toList[72 + 3 * (p.number - 1) + 2]? = some (c.port.get p).trips ∧
    c.toList.drop 96 = [c.changeovers, c.sourceFailures, c.syncLosses, c.overruns]) ∧
  (∀ c : Counters, c.toList.length = 100 ∧ (dumpRest c).length = 8 ∧ (dumpPayload c 0).length = 48 ∧
    dumpPayload c 0 ++ (dumpRest c).flatten = c.toList.flatMap fun v => be32 v.toNat) ∧
  (∀ (c : Counters) (k : Nat), 1 ≤ k → k ≤ 9 → ∃ x, (dumpPayload c 0 :: dumpRest c)[k - 1]? = some x ∧
    x.length = (if k = 9 then 16 else 48) ∧
    ∀ (j : Nat) (v : BitVec 32), j < 12 → c.toList[12 * (k - 1) + j]? = some v →
      (x.drop (4 * j)).take 4 = be32 v.toNat) ∧
  (∀ (s u : State) (r : Request) (rest : List Request), s.Executes r rest → u = s.popped rest →
    r.code = 37 → r.payload.length = 1 →
    (1 < byteAt r.payload 0 → exec .dumpCounters s = .next (u.placeResponse 37 [3] none).selectAll) ∧
    (byteAt r.payload 0 = 0 → s.linkState .u = .up →
      exec .dumpCounters s = .next (State.selectAll { u with mgmt := { u.mgmt with
        lane := s.mgmt.lane ++ [.response 37 (dumpPayload s.counters 0) none]
        inHand := .dump (dumpRest s.counters) } })) ∧
    (byteAt r.payload 0 = 0 → s.linkState .u ≠ .up →
      exec .dumpCounters s = .next (State.selectAll
        (u.countEndpoint .u (EndpointCounters.addLinkDown 9)))) ∧
    (byteAt r.payload 0 = 1 → s.linkState .u = .up →
      exec .dumpCountersWithClear s = .next (State.selectAll
        { u with counters := Counters.zero, mgmt := { u.mgmt with
          lane := s.mgmt.lane ++ [.response 37 (dumpPayload s.counters 0) none]
          inHand := .dump (dumpRest s.counters) } })) ∧
    (byteAt r.payload 0 = 1 → s.linkState .u ≠ .up →
      exec .dumpCountersWithClear s = .next (State.selectAll
        ({ u with counters := Counters.zero }.countEndpoint .u (EndpointCounters.addLinkDown 9))))) ∧
  (∀ (s : State) (x : List Byte) (left : List (List Byte)), s.resetPin = false →
    s.mgmt.inHand = .dump (x :: left) →
    (s.linkState .u = .up → s.mgmt.lane.length < 4 →
      exec .dumpResponsePlaced s = .next (State.selectAll { s with mgmt := { s.mgmt with
        lane := s.mgmt.lane ++ [.response 37 x none]
        inHand := if left = [] then .nothing else .dump left } })) ∧
    (s.linkState .u ≠ .up ∨ 4 ≤ s.mgmt.lane.length → exec .dumpResponsePlaced s = .next s.selectAll))

/-- R122, R123, R150, R151: TRAFFIC RESET, which executes however full the lane is, and FULL RESET, whose reset
waits for its response, or takes effect at once while U is DOWN. -/
def Obligations.ResetRequests : Prop :=
  (∀ (s : State) (r : Request) (rest : List Request), s.resetPin = false → s.mgmt.input = r :: rest →
    s.mgmt.inHand = .nothing → r.code = 48 → r.payload.length = 0 →
    ∃ t, exec .trafficReset s = .next (State.selectAll t) ∧ t.mgmt.input = rest ∧ t.held = false ∧
      t.freeCells = 128 ∧ t.freeRecords = 64 ∧
      (∀ d, t.queues.get d = Queues.reset ∧ (t.links.get d).tx = none ∧ (t.links.get d).markSlot = none ∧
        (t.links.get d).flowSlot = (if s.linkState d = .up then some .resume else none)) ∧
      t.linkState .u = s.linkState .u ∧ (t.links.get .u).receivedHold = (s.links.get .u).receivedHold ∧
      (∀ p, (s.linkState (.port p) = .down → t.linkState (.port p) = .down) ∧
        (s.linkState (.port p) ≠ .down →
          t.linkState (.port p) = .wait ∧ (t.links.get (.port p)).receivedHold = false)) ∧
      (s.linkState .u = .up →
        (s.noticeInFlight = false → s.events.noticePending = false →
          t.mgmt.lane = [.response 48 [0] none]) ∧
        (s.noticeInFlight = true → t.mgmt.lane = [.response 48 [0] none, .notice]) ∧
        t.counters = s.counters) ∧
      (s.linkState .u ≠ .up → t.mgmt.lane = [] ∧
        t.counters = (s.countEndpoint .u (EndpointCounters.addLinkDown 1)).counters) ∧
      (∀ i, t.events.marks i = s.events.marks i) ∧
      t.SameBut [.links, .queues, .records, .held, .mgmt, .events, .counters] s) ∧
  (∀ (s u : State) (r : Request) (rest : List Request), s.Executes r rest → u = s.popped rest →
    r.code = 49 → r.payload.length = 0 →
    (s.linkState .u = .up →
      exec .fullReset s = .next (State.selectAll { u with mgmt := { u.mgmt with
        lane := s.mgmt.lane ++ [.response 49 [0] none], inHand := .fullReset } })) ∧
    (s.linkState .u ≠ .up → s.ecutPin = false →
      exec .fullReset s = .next (State.afterReset s.pending s.now s.draws false false)))
end

