-- ==== Sys2Proof/Laws/State.lean ====
section
/-! SUPPORT. One lemma for each field under each update of the state. -/

namespace Sys2Proof.Machine

@[simp] theorem State.modPort_pending (p : Port) (f : PortUnit → PortUnit) (s : State) :
    (s.modPort p f).pending = s.pending := rfl
@[simp] theorem State.modPort_now (p : Port) (f : PortUnit → PortUnit) (s : State) :
    (s.modPort p f).now = s.now := rfl
@[simp] theorem State.modPort_draws (p : Port) (f : PortUnit → PortUnit) (s : State) :
    (s.modPort p f).draws = s.draws := rfl
@[simp] theorem State.modPort_resetPin (p : Port) (f : PortUnit → PortUnit) (s : State) :
    (s.modPort p f).resetPin = s.resetPin := rfl
@[simp] theorem State.modPort_ecutPin (p : Port) (f : PortUnit → PortUnit) (s : State) :
    (s.modPort p f).ecutPin = s.ecutPin := rfl
@[simp] theorem State.modPort_supply (p : Port) (f : PortUnit → PortUnit) (s : State) :
    (s.modPort p f).supply = s.supply := rfl
@[simp] theorem State.modPort_busVolts (p : Port) (f : PortUnit → PortUnit) (s : State) :
    (s.modPort p f).busVolts = s.busVolts := rfl
@[simp] theorem State.modPort_tables (p : Port) (f : PortUnit → PortUnit) (s : State) :
    (s.modPort p f).tables = s.tables := rfl
@[simp] theorem State.modPort_sel (p : Port) (f : PortUnit → PortUnit) (s : State) :
    (s.modPort p f).sel = s.sel := rfl
@[simp] theorem State.modPort_budget (p : Port) (f : PortUnit → PortUnit) (s : State) :
    (s.modPort p f).budget = s.budget := rfl
@[simp] theorem State.modPort_admission (p : Port) (f : PortUnit → PortUnit) (s : State) :
    (s.modPort p f).admission = s.admission := rfl
@[simp] theorem State.modPort_granted (p : Port) (f : PortUnit → PortUnit) (s : State) :
    (s.modPort p f).granted = s.granted := rfl
@[simp] theorem State.modPort_grantSlots (p : Port) (f : PortUnit → PortUnit) (s : State) :
    (s.modPort p f).grantSlots = s.grantSlots := rfl
@[simp] theorem State.modPort_ports (p : Port) (f : PortUnit → PortUnit) (s : State) :
    (s.modPort p f).ports = s.ports.set p (f (s.ports.get p)) := rfl
@[simp] theorem State.modPort_links (p : Port) (f : PortUnit → PortUnit) (s : State) :
    (s.modPort p f).links = s.links := rfl
@[simp] theorem State.modPort_queues (p : Port) (f : PortUnit → PortUnit) (s : State) :
    (s.modPort p f).queues = s.queues := rfl
@[simp] theorem State.modPort_records (p : Port) (f : PortUnit → PortUnit) (s : State) :
    (s.modPort p f).records = s.records := rfl
@[simp] theorem State.modPort_held (p : Port) (f : PortUnit → PortUnit) (s : State) :
    (s.modPort p f).held = s.held := rfl
@[simp] theorem State.modPort_phases (p : Port) (f : PortUnit → PortUnit) (s : State) :
    (s.modPort p f).phases = s.phases := rfl
@[simp] theorem State.modPort_timing (p : Port) (f : PortUnit → PortUnit) (s : State) :
    (s.modPort p f).timing = s.timing := rfl
@[simp] theorem State.modPort_mgmt (p : Port) (f : PortUnit → PortUnit) (s : State) :
    (s.modPort p f).mgmt = s.mgmt := rfl
@[simp] theorem State.modPort_events (p : Port) (f : PortUnit → PortUnit) (s : State) :
    (s.modPort p f).events = s.events := rfl
@[simp] theorem State.modPort_counters (p : Port) (f : PortUnit → PortUnit) (s : State) :
    (s.modPort p f).counters = s.counters := rfl

@[simp] theorem State.modLink_pending (d : Dest) (f : Link → Link) (s : State) :
    (s.modLink d f).pending = s.pending := rfl
@[simp] theorem State.modLink_now (d : Dest) (f : Link → Link) (s : State) :
    (s.modLink d f).now = s.now := rfl
@[simp] theorem State.modLink_draws (d : Dest) (f : Link → Link) (s : State) :
    (s.modLink d f).draws = s.draws := rfl
@[simp] theorem State.modLink_resetPin (d : Dest) (f : Link → Link) (s : State) :
    (s.modLink d f).resetPin = s.resetPin := rfl
@[simp] theorem State.modLink_ecutPin (d : Dest) (f : Link → Link) (s : State) :
    (s.modLink d f).ecutPin = s.ecutPin := rfl
@[simp] theorem State.modLink_supply (d : Dest) (f : Link → Link) (s : State) :
    (s.modLink d f).supply = s.supply := rfl
@[simp] theorem State.modLink_busVolts (d : Dest) (f : Link → Link) (s : State) :
    (s.modLink d f).busVolts = s.busVolts := rfl
@[simp] theorem State.modLink_tables (d : Dest) (f : Link → Link) (s : State) :
    (s.modLink d f).tables = s.tables := rfl
@[simp] theorem State.modLink_sel (d : Dest) (f : Link → Link) (s : State) :
    (s.modLink d f).sel = s.sel := rfl
@[simp] theorem State.modLink_budget (d : Dest) (f : Link → Link) (s : State) :
    (s.modLink d f).budget = s.budget := rfl
@[simp] theorem State.modLink_admission (d : Dest) (f : Link → Link) (s : State) :
    (s.modLink d f).admission = s.admission := rfl
@[simp] theorem State.modLink_granted (d : Dest) (f : Link → Link) (s : State) :
    (s.modLink d f).granted = s.granted := rfl
@[simp] theorem State.modLink_grantSlots (d : Dest) (f : Link → Link) (s : State) :
    (s.modLink d f).grantSlots = s.grantSlots := rfl
@[simp] theorem State.modLink_ports (d : Dest) (f : Link → Link) (s : State) :
    (s.modLink d f).ports = s.ports := rfl
@[simp] theorem State.modLink_links (d : Dest) (f : Link → Link) (s : State) :
    (s.modLink d f).links = s.links.set d (f (s.links.get d)) := rfl
@[simp] theorem State.modLink_queues (d : Dest) (f : Link → Link) (s : State) :
    (s.modLink d f).queues = s.queues := rfl
@[simp] theorem State.modLink_records (d : Dest) (f : Link → Link) (s : State) :
    (s.modLink d f).records = s.records := rfl
@[simp] theorem State.modLink_held (d : Dest) (f : Link → Link) (s : State) :
    (s.modLink d f).held = s.held := rfl
@[simp] theorem State.modLink_phases (d : Dest) (f : Link → Link) (s : State) :
    (s.modLink d f).phases = s.phases := rfl
@[simp] theorem State.modLink_timing (d : Dest) (f : Link → Link) (s : State) :
    (s.modLink d f).timing = s.timing := rfl
@[simp] theorem State.modLink_mgmt (d : Dest) (f : Link → Link) (s : State) :
    (s.modLink d f).mgmt = s.mgmt := rfl
@[simp] theorem State.modLink_events (d : Dest) (f : Link → Link) (s : State) :
    (s.modLink d f).events = s.events := rfl
@[simp] theorem State.modLink_counters (d : Dest) (f : Link → Link) (s : State) :
    (s.modLink d f).counters = s.counters := rfl

@[simp] theorem State.modQueues_pending (d : Dest) (f : Queues → Queues) (s : State) :
    (s.modQueues d f).pending = s.pending := rfl
@[simp] theorem State.modQueues_now (d : Dest) (f : Queues → Queues) (s : State) :
    (s.modQueues d f).now = s.now := rfl
@[simp] theorem State.modQueues_draws (d : Dest) (f : Queues → Queues) (s : State) :
    (s.modQueues d f).draws = s.draws := rfl
@[simp] theorem State.modQueues_resetPin (d : Dest) (f : Queues → Queues) (s : State) :
    (s.modQueues d f).resetPin = s.resetPin := rfl
@[simp] theorem State.modQueues_ecutPin (d : Dest) (f : Queues → Queues) (s : State) :
    (s.modQueues d f).ecutPin = s.ecutPin := rfl
@[simp] theorem State.modQueues_supply (d : Dest) (f : Queues → Queues) (s : State) :
    (s.modQueues d f).supply = s.supply := rfl
@[simp] theorem State.modQueues_busVolts (d : Dest) (f : Queues → Queues) (s : State) :
    (s.modQueues d f).busVolts = s.busVolts := rfl
@[simp] theorem State.modQueues_tables (d : Dest) (f : Queues → Queues) (s : State) :
    (s.modQueues d f).tables = s.tables := rfl
@[simp] theorem State.modQueues_sel (d : Dest) (f : Queues → Queues) (s : State) :
    (s.modQueues d f).sel = s.sel := rfl
@[simp] theorem State.modQueues_budget (d : Dest) (f : Queues → Queues) (s : State) :
    (s.modQueues d f).budget = s.budget := rfl
@[simp] theorem State.modQueues_admission (d : Dest) (f : Queues → Queues) (s : State) :
    (s.modQueues d f).admission = s.admission := rfl
@[simp] theorem State.modQueues_granted (d : Dest) (f : Queues → Queues) (s : State) :
    (s.modQueues d f).granted = s.granted := rfl
@[simp] theorem State.modQueues_grantSlots (d : Dest) (f : Queues → Queues) (s : State) :
    (s.modQueues d f).grantSlots = s.grantSlots := rfl
@[simp] theorem State.modQueues_ports (d : Dest) (f : Queues → Queues) (s : State) :
    (s.modQueues d f).ports = s.ports := rfl
@[simp] theorem State.modQueues_links (d : Dest) (f : Queues → Queues) (s : State) :
    (s.modQueues d f).links = s.links := rfl
@[simp] theorem State.modQueues_queues (d : Dest) (f : Queues → Queues) (s : State) :
    (s.modQueues d f).queues = s.queues.set d (f (s.queues.get d)) := rfl
@[simp] theorem State.modQueues_records (d : Dest) (f : Queues → Queues) (s : State) :
    (s.modQueues d f).records = s.records := rfl
@[simp] theorem State.modQueues_held (d : Dest) (f : Queues → Queues) (s : State) :
    (s.modQueues d f).held = s.held := rfl
@[simp] theorem State.modQueues_phases (d : Dest) (f : Queues → Queues) (s : State) :
    (s.modQueues d f).phases = s.phases := rfl
@[simp] theorem State.modQueues_timing (d : Dest) (f : Queues → Queues) (s : State) :
    (s.modQueues d f).timing = s.timing := rfl
@[simp] theorem State.modQueues_mgmt (d : Dest) (f : Queues → Queues) (s : State) :
    (s.modQueues d f).mgmt = s.mgmt := rfl
@[simp] theorem State.modQueues_events (d : Dest) (f : Queues → Queues) (s : State) :
    (s.modQueues d f).events = s.events := rfl
@[simp] theorem State.modQueues_counters (d : Dest) (f : Queues → Queues) (s : State) :
    (s.modQueues d f).counters = s.counters := rfl

@[simp] theorem State.modPhase_pending (d : Dest) (f : Phase → Phase) (s : State) :
    (s.modPhase d f).pending = s.pending := rfl
@[simp] theorem State.modPhase_now (d : Dest) (f : Phase → Phase) (s : State) :
    (s.modPhase d f).now = s.now := rfl
@[simp] theorem State.modPhase_draws (d : Dest) (f : Phase → Phase) (s : State) :
    (s.modPhase d f).draws = s.draws := rfl
@[simp] theorem State.modPhase_resetPin (d : Dest) (f : Phase → Phase) (s : State) :
    (s.modPhase d f).resetPin = s.resetPin := rfl
@[simp] theorem State.modPhase_ecutPin (d : Dest) (f : Phase → Phase) (s : State) :
    (s.modPhase d f).ecutPin = s.ecutPin := rfl
@[simp] theorem State.modPhase_supply (d : Dest) (f : Phase → Phase) (s : State) :
    (s.modPhase d f).supply = s.supply := rfl
@[simp] theorem State.modPhase_busVolts (d : Dest) (f : Phase → Phase) (s : State) :
    (s.modPhase d f).busVolts = s.busVolts := rfl
@[simp] theorem State.modPhase_tables (d : Dest) (f : Phase → Phase) (s : State) :
    (s.modPhase d f).tables = s.tables := rfl
@[simp] theorem State.modPhase_sel (d : Dest) (f : Phase → Phase) (s : State) :
    (s.modPhase d f).sel = s.sel := rfl
@[simp] theorem State.modPhase_budget (d : Dest) (f : Phase → Phase) (s : State) :
    (s.modPhase d f).budget = s.budget := rfl
@[simp] theorem State.modPhase_admission (d : Dest) (f : Phase → Phase) (s : State) :
    (s.modPhase d f).admission = s.admission := rfl
@[simp] theorem State.modPhase_granted (d : Dest) (f : Phase → Phase) (s : State) :
    (s.modPhase d f).granted = s.granted := rfl
@[simp] theorem State.modPhase_grantSlots (d : Dest) (f : Phase → Phase) (s : State) :
    (s.modPhase d f).grantSlots = s.grantSlots := rfl
@[simp] theorem State.modPhase_ports (d : Dest) (f : Phase → Phase) (s : State) :
    (s.modPhase d f).ports = s.ports := rfl
@[simp] theorem State.modPhase_links (d : Dest) (f : Phase → Phase) (s : State) :
    (s.modPhase d f).links = s.links := rfl
@[simp] theorem State.modPhase_queues (d : Dest) (f : Phase → Phase) (s : State) :
    (s.modPhase d f).queues = s.queues := rfl
@[simp] theorem State.modPhase_records (d : Dest) (f : Phase → Phase) (s : State) :
    (s.modPhase d f).records = s.records := rfl
@[simp] theorem State.modPhase_held (d : Dest) (f : Phase → Phase) (s : State) :
    (s.modPhase d f).held = s.held := rfl
@[simp] theorem State.modPhase_phases (d : Dest) (f : Phase → Phase) (s : State) :
    (s.modPhase d f).phases = s.phases.set d (f (s.phases.get d)) := rfl
@[simp] theorem State.modPhase_timing (d : Dest) (f : Phase → Phase) (s : State) :
    (s.modPhase d f).timing = s.timing := rfl
@[simp] theorem State.modPhase_mgmt (d : Dest) (f : Phase → Phase) (s : State) :
    (s.modPhase d f).mgmt = s.mgmt := rfl
@[simp] theorem State.modPhase_events (d : Dest) (f : Phase → Phase) (s : State) :
    (s.modPhase d f).events = s.events := rfl
@[simp] theorem State.modPhase_counters (d : Dest) (f : Phase → Phase) (s : State) :
    (s.modPhase d f).counters = s.counters := rfl

@[simp] theorem State.modSource_pending (src : Source) (f : SourceMonitor → SourceMonitor) (s : State) :
    (s.modSource src f).pending = s.pending := rfl
@[simp] theorem State.modSource_now (src : Source) (f : SourceMonitor → SourceMonitor) (s : State) :
    (s.modSource src f).now = s.now := rfl
@[simp] theorem State.modSource_draws (src : Source) (f : SourceMonitor → SourceMonitor) (s : State) :
    (s.modSource src f).draws = s.draws := rfl
@[simp] theorem State.modSource_resetPin (src : Source) (f : SourceMonitor → SourceMonitor) (s : State) :
    (s.modSource src f).resetPin = s.resetPin := rfl
@[simp] theorem State.modSource_ecutPin (src : Source) (f : SourceMonitor → SourceMonitor) (s : State) :
    (s.modSource src f).ecutPin = s.ecutPin := rfl
@[simp] theorem State.modSource_supply (src : Source) (f : SourceMonitor → SourceMonitor) (s : State) :
    (s.modSource src f).supply = s.supply.set src (f (s.supply.get src)) := rfl
@[simp] theorem State.modSource_busVolts (src : Source) (f : SourceMonitor → SourceMonitor) (s : State) :
    (s.modSource src f).busVolts = s.busVolts := rfl
@[simp] theorem State.modSource_tables (src : Source) (f : SourceMonitor → SourceMonitor) (s : State) :
    (s.modSource src f).tables = s.tables := rfl
@[simp] theorem State.modSource_sel (src : Source) (f : SourceMonitor → SourceMonitor) (s : State) :
    (s.modSource src f).sel = s.sel := rfl
@[simp] theorem State.modSource_budget (src : Source) (f : SourceMonitor → SourceMonitor) (s : State) :
    (s.modSource src f).budget = s.budget := rfl
@[simp] theorem State.modSource_admission (src : Source) (f : SourceMonitor → SourceMonitor) (s : State) :
    (s.modSource src f).admission = s.admission := rfl
@[simp] theorem State.modSource_granted (src : Source) (f : SourceMonitor → SourceMonitor) (s : State) :
    (s.modSource src f).granted = s.granted := rfl
@[simp] theorem State.modSource_grantSlots (src : Source) (f : SourceMonitor → SourceMonitor) (s : State) :
    (s.modSource src f).grantSlots = s.grantSlots := rfl
@[simp] theorem State.modSource_ports (src : Source) (f : SourceMonitor → SourceMonitor) (s : State) :
    (s.modSource src f).ports = s.ports := rfl
@[simp] theorem State.modSource_links (src : Source) (f : SourceMonitor → SourceMonitor) (s : State) :
    (s.modSource src f).links = s.links := rfl
@[simp] theorem State.modSource_queues (src : Source) (f : SourceMonitor → SourceMonitor) (s : State) :
    (s.modSource src f).queues = s.queues := rfl
@[simp] theorem State.modSource_records (src : Source) (f : SourceMonitor → SourceMonitor) (s : State) :
    (s.modSource src f).records = s.records := rfl
@[simp] theorem State.modSource_held (src : Source) (f : SourceMonitor → SourceMonitor) (s : State) :
    (s.modSource src f).held = s.held := rfl
@[simp] theorem State.modSource_phases (src : Source) (f : SourceMonitor → SourceMonitor) (s : State) :
    (s.modSource src f).phases = s.phases := rfl
@[simp] theorem State.modSource_timing (src : Source) (f : SourceMonitor → SourceMonitor) (s : State) :
    (s.modSource src f).timing = s.timing := rfl
@[simp] theorem State.modSource_mgmt (src : Source) (f : SourceMonitor → SourceMonitor) (s : State) :
    (s.modSource src f).mgmt = s.mgmt := rfl
@[simp] theorem State.modSource_events (src : Source) (f : SourceMonitor → SourceMonitor) (s : State) :
    (s.modSource src f).events = s.events := rfl
@[simp] theorem State.modSource_counters (src : Source) (f : SourceMonitor → SourceMonitor) (s : State) :
    (s.modSource src f).counters = s.counters := rfl

@[simp] theorem State.modTables_pending (f : Tables → Tables) (s : State) :
    (s.modTables f).pending = s.pending := rfl
@[simp] theorem State.modTables_now (f : Tables → Tables) (s : State) :
    (s.modTables f).now = s.now := rfl
@[simp] theorem State.modTables_draws (f : Tables → Tables) (s : State) :
    (s.modTables f).draws = s.draws := rfl
@[simp] theorem State.modTables_resetPin (f : Tables → Tables) (s : State) :
    (s.modTables f).resetPin = s.resetPin := rfl
@[simp] theorem State.modTables_ecutPin (f : Tables → Tables) (s : State) :
    (s.modTables f).ecutPin = s.ecutPin := rfl
@[simp] theorem State.modTables_supply (f : Tables → Tables) (s : State) :
    (s.modTables f).supply = s.supply := rfl
@[simp] theorem State.modTables_busVolts (f : Tables → Tables) (s : State) :
    (s.modTables f).busVolts = s.busVolts := rfl
@[simp] theorem State.modTables_tables (f : Tables → Tables) (s : State) :
    (s.modTables f).tables = f s.tables := rfl
@[simp] theorem State.modTables_sel (f : Tables → Tables) (s : State) :
    (s.modTables f).sel = s.sel := rfl
@[simp] theorem State.modTables_budget (f : Tables → Tables) (s : State) :
    (s.modTables f).budget = s.budget := rfl
@[simp] theorem State.modTables_admission (f : Tables → Tables) (s : State) :
    (s.modTables f).admission = s.admission := rfl
@[simp] theorem State.modTables_granted (f : Tables → Tables) (s : State) :
    (s.modTables f).granted = s.granted := rfl
@[simp] theorem State.modTables_grantSlots (f : Tables → Tables) (s : State) :
    (s.modTables f).grantSlots = s.grantSlots := rfl
@[simp] theorem State.modTables_ports (f : Tables → Tables) (s : State) :
    (s.modTables f).ports = s.ports := rfl
@[simp] theorem State.modTables_links (f : Tables → Tables) (s : State) :
    (s.modTables f).links = s.links := rfl
@[simp] theorem State.modTables_queues (f : Tables → Tables) (s : State) :
    (s.modTables f).queues = s.queues := rfl
@[simp] theorem State.modTables_records (f : Tables → Tables) (s : State) :
    (s.modTables f).records = s.records := rfl
@[simp] theorem State.modTables_held (f : Tables → Tables) (s : State) :
    (s.modTables f).held = s.held := rfl
@[simp] theorem State.modTables_phases (f : Tables → Tables) (s : State) :
    (s.modTables f).phases = s.phases := rfl
@[simp] theorem State.modTables_timing (f : Tables → Tables) (s : State) :
    (s.modTables f).timing = s.timing := rfl
@[simp] theorem State.modTables_mgmt (f : Tables → Tables) (s : State) :
    (s.modTables f).mgmt = s.mgmt := rfl
@[simp] theorem State.modTables_events (f : Tables → Tables) (s : State) :
    (s.modTables f).events = s.events := rfl
@[simp] theorem State.modTables_counters (f : Tables → Tables) (s : State) :
    (s.modTables f).counters = s.counters := rfl

@[simp] theorem State.modSel_pending (f : Selector → Selector) (s : State) :
    (s.modSel f).pending = s.pending := rfl
@[simp] theorem State.modSel_now (f : Selector → Selector) (s : State) :
    (s.modSel f).now = s.now := rfl
@[simp] theorem State.modSel_draws (f : Selector → Selector) (s : State) :
    (s.modSel f).draws = s.draws := rfl
@[simp] theorem State.modSel_resetPin (f : Selector → Selector) (s : State) :
    (s.modSel f).resetPin = s.resetPin := rfl
@[simp] theorem State.modSel_ecutPin (f : Selector → Selector) (s : State) :
    (s.modSel f).ecutPin = s.ecutPin := rfl
@[simp] theorem State.modSel_supply (f : Selector → Selector) (s : State) :
    (s.modSel f).supply = s.supply := rfl
@[simp] theorem State.modSel_busVolts (f : Selector → Selector) (s : State) :
    (s.modSel f).busVolts = s.busVolts := rfl
@[simp] theorem State.modSel_tables (f : Selector → Selector) (s : State) :
    (s.modSel f).tables = s.tables := rfl
@[simp] theorem State.modSel_sel (f : Selector → Selector) (s : State) :
    (s.modSel f).sel = f s.sel := rfl
@[simp] theorem State.modSel_budget (f : Selector → Selector) (s : State) :
    (s.modSel f).budget = s.budget := rfl
@[simp] theorem State.modSel_admission (f : Selector → Selector) (s : State) :
    (s.modSel f).admission = s.admission := rfl
@[simp] theorem State.modSel_granted (f : Selector → Selector) (s : State) :
    (s.modSel f).granted = s.granted := rfl
@[simp] theorem State.modSel_grantSlots (f : Selector → Selector) (s : State) :
    (s.modSel f).grantSlots = s.grantSlots := rfl
@[simp] theorem State.modSel_ports (f : Selector → Selector) (s : State) :
    (s.modSel f).ports = s.ports := rfl
@[simp] theorem State.modSel_links (f : Selector → Selector) (s : State) :
    (s.modSel f).links = s.links := rfl
@[simp] theorem State.modSel_queues (f : Selector → Selector) (s : State) :
    (s.modSel f).queues = s.queues := rfl
@[simp] theorem State.modSel_records (f : Selector → Selector) (s : State) :
    (s.modSel f).records = s.records := rfl
@[simp] theorem State.modSel_held (f : Selector → Selector) (s : State) :
    (s.modSel f).held = s.held := rfl
@[simp] theorem State.modSel_phases (f : Selector → Selector) (s : State) :
    (s.modSel f).phases = s.phases := rfl
@[simp] theorem State.modSel_timing (f : Selector → Selector) (s : State) :
    (s.modSel f).timing = s.timing := rfl
@[simp] theorem State.modSel_mgmt (f : Selector → Selector) (s : State) :
    (s.modSel f).mgmt = s.mgmt := rfl
@[simp] theorem State.modSel_events (f : Selector → Selector) (s : State) :
    (s.modSel f).events = s.events := rfl
@[simp] theorem State.modSel_counters (f : Selector → Selector) (s : State) :
    (s.modSel f).counters = s.counters := rfl

@[simp] theorem State.modBudget_pending (f : Budget → Budget) (s : State) :
    (s.modBudget f).pending = s.pending := rfl
@[simp] theorem State.modBudget_now (f : Budget → Budget) (s : State) :
    (s.modBudget f).now = s.now := rfl
@[simp] theorem State.modBudget_draws (f : Budget → Budget) (s : State) :
    (s.modBudget f).draws = s.draws := rfl
@[simp] theorem State.modBudget_resetPin (f : Budget → Budget) (s : State) :
    (s.modBudget f).resetPin = s.resetPin := rfl
@[simp] theorem State.modBudget_ecutPin (f : Budget → Budget) (s : State) :
    (s.modBudget f).ecutPin = s.ecutPin := rfl
@[simp] theorem State.modBudget_supply (f : Budget → Budget) (s : State) :
    (s.modBudget f).supply = s.supply := rfl
@[simp] theorem State.modBudget_busVolts (f : Budget → Budget) (s : State) :
    (s.modBudget f).busVolts = s.busVolts := rfl
@[simp] theorem State.modBudget_tables (f : Budget → Budget) (s : State) :
    (s.modBudget f).tables = s.tables := rfl
@[simp] theorem State.modBudget_sel (f : Budget → Budget) (s : State) :
    (s.modBudget f).sel = s.sel := rfl
@[simp] theorem State.modBudget_budget (f : Budget → Budget) (s : State) :
    (s.modBudget f).budget = f s.budget := rfl
@[simp] theorem State.modBudget_admission (f : Budget → Budget) (s : State) :
    (s.modBudget f).admission = s.admission := rfl
@[simp] theorem State.modBudget_granted (f : Budget → Budget) (s : State) :
    (s.modBudget f).granted = s.granted := rfl
@[simp] theorem State.modBudget_grantSlots (f : Budget → Budget) (s : State) :
    (s.modBudget f).grantSlots = s.grantSlots := rfl
@[simp] theorem State.modBudget_ports (f : Budget → Budget) (s : State) :
    (s.modBudget f).ports = s.ports := rfl
@[simp] theorem State.modBudget_links (f : Budget → Budget) (s : State) :
    (s.modBudget f).links = s.links := rfl
@[simp] theorem State.modBudget_queues (f : Budget → Budget) (s : State) :
    (s.modBudget f).queues = s.queues := rfl
@[simp] theorem State.modBudget_records (f : Budget → Budget) (s : State) :
    (s.modBudget f).records = s.records := rfl
@[simp] theorem State.modBudget_held (f : Budget → Budget) (s : State) :
    (s.modBudget f).held = s.held := rfl
@[simp] theorem State.modBudget_phases (f : Budget → Budget) (s : State) :
    (s.modBudget f).phases = s.phases := rfl
@[simp] theorem State.modBudget_timing (f : Budget → Budget) (s : State) :
    (s.modBudget f).timing = s.timing := rfl
@[simp] theorem State.modBudget_mgmt (f : Budget → Budget) (s : State) :
    (s.modBudget f).mgmt = s.mgmt := rfl
@[simp] theorem State.modBudget_events (f : Budget → Budget) (s : State) :
    (s.modBudget f).events = s.events := rfl
@[simp] theorem State.modBudget_counters (f : Budget → Budget) (s : State) :
    (s.modBudget f).counters = s.counters := rfl

@[simp] theorem State.modTiming_pending (f : Timing → Timing) (s : State) :
    (s.modTiming f).pending = s.pending := rfl
@[simp] theorem State.modTiming_now (f : Timing → Timing) (s : State) :
    (s.modTiming f).now = s.now := rfl
@[simp] theorem State.modTiming_draws (f : Timing → Timing) (s : State) :
    (s.modTiming f).draws = s.draws := rfl
@[simp] theorem State.modTiming_resetPin (f : Timing → Timing) (s : State) :
    (s.modTiming f).resetPin = s.resetPin := rfl
@[simp] theorem State.modTiming_ecutPin (f : Timing → Timing) (s : State) :
    (s.modTiming f).ecutPin = s.ecutPin := rfl
@[simp] theorem State.modTiming_supply (f : Timing → Timing) (s : State) :
    (s.modTiming f).supply = s.supply := rfl
@[simp] theorem State.modTiming_busVolts (f : Timing → Timing) (s : State) :
    (s.modTiming f).busVolts = s.busVolts := rfl
@[simp] theorem State.modTiming_tables (f : Timing → Timing) (s : State) :
    (s.modTiming f).tables = s.tables := rfl
@[simp] theorem State.modTiming_sel (f : Timing → Timing) (s : State) :
    (s.modTiming f).sel = s.sel := rfl
@[simp] theorem State.modTiming_budget (f : Timing → Timing) (s : State) :
    (s.modTiming f).budget = s.budget := rfl
@[simp] theorem State.modTiming_admission (f : Timing → Timing) (s : State) :
    (s.modTiming f).admission = s.admission := rfl
@[simp] theorem State.modTiming_granted (f : Timing → Timing) (s : State) :
    (s.modTiming f).granted = s.granted := rfl
@[simp] theorem State.modTiming_grantSlots (f : Timing → Timing) (s : State) :
    (s.modTiming f).grantSlots = s.grantSlots := rfl
@[simp] theorem State.modTiming_ports (f : Timing → Timing) (s : State) :
    (s.modTiming f).ports = s.ports := rfl
@[simp] theorem State.modTiming_links (f : Timing → Timing) (s : State) :
    (s.modTiming f).links = s.links := rfl
@[simp] theorem State.modTiming_queues (f : Timing → Timing) (s : State) :
    (s.modTiming f).queues = s.queues := rfl
@[simp] theorem State.modTiming_records (f : Timing → Timing) (s : State) :
    (s.modTiming f).records = s.records := rfl
@[simp] theorem State.modTiming_held (f : Timing → Timing) (s : State) :
    (s.modTiming f).held = s.held := rfl
@[simp] theorem State.modTiming_phases (f : Timing → Timing) (s : State) :
    (s.modTiming f).phases = s.phases := rfl
@[simp] theorem State.modTiming_timing (f : Timing → Timing) (s : State) :
    (s.modTiming f).timing = f s.timing := rfl
@[simp] theorem State.modTiming_mgmt (f : Timing → Timing) (s : State) :
    (s.modTiming f).mgmt = s.mgmt := rfl
@[simp] theorem State.modTiming_events (f : Timing → Timing) (s : State) :
    (s.modTiming f).events = s.events := rfl
@[simp] theorem State.modTiming_counters (f : Timing → Timing) (s : State) :
    (s.modTiming f).counters = s.counters := rfl

@[simp] theorem State.modMgmt_pending (f : Mgmt → Mgmt) (s : State) :
    (s.modMgmt f).pending = s.pending := rfl
@[simp] theorem State.modMgmt_now (f : Mgmt → Mgmt) (s : State) :
    (s.modMgmt f).now = s.now := rfl
@[simp] theorem State.modMgmt_draws (f : Mgmt → Mgmt) (s : State) :
    (s.modMgmt f).draws = s.draws := rfl
@[simp] theorem State.modMgmt_resetPin (f : Mgmt → Mgmt) (s : State) :
    (s.modMgmt f).resetPin = s.resetPin := rfl
@[simp] theorem State.modMgmt_ecutPin (f : Mgmt → Mgmt) (s : State) :
    (s.modMgmt f).ecutPin = s.ecutPin := rfl
@[simp] theorem State.modMgmt_supply (f : Mgmt → Mgmt) (s : State) :
    (s.modMgmt f).supply = s.supply := rfl
@[simp] theorem State.modMgmt_busVolts (f : Mgmt → Mgmt) (s : State) :
    (s.modMgmt f).busVolts = s.busVolts := rfl
@[simp] theorem State.modMgmt_tables (f : Mgmt → Mgmt) (s : State) :
    (s.modMgmt f).tables = s.tables := rfl
@[simp] theorem State.modMgmt_sel (f : Mgmt → Mgmt) (s : State) :
    (s.modMgmt f).sel = s.sel := rfl
@[simp] theorem State.modMgmt_budget (f : Mgmt → Mgmt) (s : State) :
    (s.modMgmt f).budget = s.budget := rfl
@[simp] theorem State.modMgmt_admission (f : Mgmt → Mgmt) (s : State) :
    (s.modMgmt f).admission = s.admission := rfl
@[simp] theorem State.modMgmt_granted (f : Mgmt → Mgmt) (s : State) :
    (s.modMgmt f).granted = s.granted := rfl
@[simp] theorem State.modMgmt_grantSlots (f : Mgmt → Mgmt) (s : State) :
    (s.modMgmt f).grantSlots = s.grantSlots := rfl
@[simp] theorem State.modMgmt_ports (f : Mgmt → Mgmt) (s : State) :
    (s.modMgmt f).ports = s.ports := rfl
@[simp] theorem State.modMgmt_links (f : Mgmt → Mgmt) (s : State) :
    (s.modMgmt f).links = s.links := rfl
@[simp] theorem State.modMgmt_queues (f : Mgmt → Mgmt) (s : State) :
    (s.modMgmt f).queues = s.queues := rfl
@[simp] theorem State.modMgmt_records (f : Mgmt → Mgmt) (s : State) :
    (s.modMgmt f).records = s.records := rfl
@[simp] theorem State.modMgmt_held (f : Mgmt → Mgmt) (s : State) :
    (s.modMgmt f).held = s.held := rfl
@[simp] theorem State.modMgmt_phases (f : Mgmt → Mgmt) (s : State) :
    (s.modMgmt f).phases = s.phases := rfl
@[simp] theorem State.modMgmt_timing (f : Mgmt → Mgmt) (s : State) :
    (s.modMgmt f).timing = s.timing := rfl
@[simp] theorem State.modMgmt_mgmt (f : Mgmt → Mgmt) (s : State) :
    (s.modMgmt f).mgmt = f s.mgmt := rfl
@[simp] theorem State.modMgmt_events (f : Mgmt → Mgmt) (s : State) :
    (s.modMgmt f).events = s.events := rfl
@[simp] theorem State.modMgmt_counters (f : Mgmt → Mgmt) (s : State) :
    (s.modMgmt f).counters = s.counters := rfl

@[simp] theorem State.modGrantSlot_pending (p : Port) (g : Option GrantMsg) (s : State) :
    (s.modGrantSlot p g).pending = s.pending := rfl
@[simp] theorem State.modGrantSlot_now (p : Port) (g : Option GrantMsg) (s : State) :
    (s.modGrantSlot p g).now = s.now := rfl
@[simp] theorem State.modGrantSlot_draws (p : Port) (g : Option GrantMsg) (s : State) :
    (s.modGrantSlot p g).draws = s.draws := rfl
@[simp] theorem State.modGrantSlot_resetPin (p : Port) (g : Option GrantMsg) (s : State) :
    (s.modGrantSlot p g).resetPin = s.resetPin := rfl
@[simp] theorem State.modGrantSlot_ecutPin (p : Port) (g : Option GrantMsg) (s : State) :
    (s.modGrantSlot p g).ecutPin = s.ecutPin := rfl
@[simp] theorem State.modGrantSlot_supply (p : Port) (g : Option GrantMsg) (s : State) :
    (s.modGrantSlot p g).supply = s.supply := rfl
@[simp] theorem State.modGrantSlot_busVolts (p : Port) (g : Option GrantMsg) (s : State) :
    (s.modGrantSlot p g).busVolts = s.busVolts := rfl
@[simp] theorem State.modGrantSlot_tables (p : Port) (g : Option GrantMsg) (s : State) :
    (s.modGrantSlot p g).tables = s.tables := rfl
@[simp] theorem State.modGrantSlot_sel (p : Port) (g : Option GrantMsg) (s : State) :
    (s.modGrantSlot p g).sel = s.sel := rfl
@[simp] theorem State.modGrantSlot_budget (p : Port) (g : Option GrantMsg) (s : State) :
    (s.modGrantSlot p g).budget = s.budget := rfl
@[simp] theorem State.modGrantSlot_admission (p : Port) (g : Option GrantMsg) (s : State) :
    (s.modGrantSlot p g).admission = s.admission := rfl
@[simp] theorem State.modGrantSlot_granted (p : Port) (g : Option GrantMsg) (s : State) :
    (s.modGrantSlot p g).granted = s.granted := rfl
@[simp] theorem State.modGrantSlot_grantSlots (p : Port) (g : Option GrantMsg) (s : State) :
    (s.modGrantSlot p g).grantSlots = s.grantSlots.set p g := rfl
@[simp] theorem State.modGrantSlot_ports (p : Port) (g : Option GrantMsg) (s : State) :
    (s.modGrantSlot p g).ports = s.ports := rfl
@[simp] theorem State.modGrantSlot_links (p : Port) (g : Option GrantMsg) (s : State) :
    (s.modGrantSlot p g).links = s.links := rfl
@[simp] theorem State.modGrantSlot_queues (p : Port) (g : Option GrantMsg) (s : State) :
    (s.modGrantSlot p g).queues = s.queues := rfl
@[simp] theorem State.modGrantSlot_records (p : Port) (g : Option GrantMsg) (s : State) :
    (s.modGrantSlot p g).records = s.records := rfl
@[simp] theorem State.modGrantSlot_held (p : Port) (g : Option GrantMsg) (s : State) :
    (s.modGrantSlot p g).held = s.held := rfl
@[simp] theorem State.modGrantSlot_phases (p : Port) (g : Option GrantMsg) (s : State) :
    (s.modGrantSlot p g).phases = s.phases := rfl
@[simp] theorem State.modGrantSlot_timing (p : Port) (g : Option GrantMsg) (s : State) :
    (s.modGrantSlot p g).timing = s.timing := rfl
@[simp] theorem State.modGrantSlot_mgmt (p : Port) (g : Option GrantMsg) (s : State) :
    (s.modGrantSlot p g).mgmt = s.mgmt := rfl
@[simp] theorem State.modGrantSlot_events (p : Port) (g : Option GrantMsg) (s : State) :
    (s.modGrantSlot p g).events = s.events := rfl
@[simp] theorem State.modGrantSlot_counters (p : Port) (g : Option GrantMsg) (s : State) :
    (s.modGrantSlot p g).counters = s.counters := rfl

@[simp] theorem State.drawn_pending (s : State) :
    (s.drawn).pending = s.pending := rfl
@[simp] theorem State.drawn_now (s : State) :
    (s.drawn).now = s.now := rfl
@[simp] theorem State.drawn_draws (s : State) :
    (s.drawn).draws = s.draws + 1 := rfl
@[simp] theorem State.drawn_resetPin (s : State) :
    (s.drawn).resetPin = s.resetPin := rfl
@[simp] theorem State.drawn_ecutPin (s : State) :
    (s.drawn).ecutPin = s.ecutPin := rfl
@[simp] theorem State.drawn_supply (s : State) :
    (s.drawn).supply = s.supply := rfl
@[simp] theorem State.drawn_busVolts (s : State) :
    (s.drawn).busVolts = s.busVolts := rfl
@[simp] theorem State.drawn_tables (s : State) :
    (s.drawn).tables = s.tables := rfl
@[simp] theorem State.drawn_sel (s : State) :
    (s.drawn).sel = s.sel := rfl
@[simp] theorem State.drawn_budget (s : State) :
    (s.drawn).budget = s.budget := rfl
@[simp] theorem State.drawn_admission (s : State) :
    (s.drawn).admission = s.admission := rfl
@[simp] theorem State.drawn_granted (s : State) :
    (s.drawn).granted = s.granted := rfl
@[simp] theorem State.drawn_grantSlots (s : State) :
    (s.drawn).grantSlots = s.grantSlots := rfl
@[simp] theorem State.drawn_ports (s : State) :
    (s.drawn).ports = s.ports := rfl
@[simp] theorem State.drawn_links (s : State) :
    (s.drawn).links = s.links := rfl
@[simp] theorem State.drawn_queues (s : State) :
    (s.drawn).queues = s.queues := rfl
@[simp] theorem State.drawn_records (s : State) :
    (s.drawn).records = s.records := rfl
@[simp] theorem State.drawn_held (s : State) :
    (s.drawn).held = s.held := rfl
@[simp] theorem State.drawn_phases (s : State) :
    (s.drawn).phases = s.phases := rfl
@[simp] theorem State.drawn_timing (s : State) :
    (s.drawn).timing = s.timing := rfl
@[simp] theorem State.drawn_mgmt (s : State) :
    (s.drawn).mgmt = s.mgmt := rfl
@[simp] theorem State.drawn_events (s : State) :
    (s.drawn).events = s.events := rfl
@[simp] theorem State.drawn_counters (s : State) :
    (s.drawn).counters = s.counters := rfl

@[simp] theorem State.countEndpoint_pending (d : Dest) (f : EndpointCounters → EndpointCounters) (s : State) :
    (s.countEndpoint d f).pending = s.pending := rfl
@[simp] theorem State.countEndpoint_now (d : Dest) (f : EndpointCounters → EndpointCounters) (s : State) :
    (s.countEndpoint d f).now = s.now := rfl
@[simp] theorem State.countEndpoint_draws (d : Dest) (f : EndpointCounters → EndpointCounters) (s : State) :
    (s.countEndpoint d f).draws = s.draws := rfl
@[simp] theorem State.countEndpoint_resetPin (d : Dest) (f : EndpointCounters → EndpointCounters) (s : State) :
    (s.countEndpoint d f).resetPin = s.resetPin := rfl
@[simp] theorem State.countEndpoint_ecutPin (d : Dest) (f : EndpointCounters → EndpointCounters) (s : State) :
    (s.countEndpoint d f).ecutPin = s.ecutPin := rfl
@[simp] theorem State.countEndpoint_supply (d : Dest) (f : EndpointCounters → EndpointCounters) (s : State) :
    (s.countEndpoint d f).supply = s.supply := rfl
@[simp] theorem State.countEndpoint_busVolts (d : Dest) (f : EndpointCounters → EndpointCounters) (s : State) :
    (s.countEndpoint d f).busVolts = s.busVolts := rfl
@[simp] theorem State.countEndpoint_tables (d : Dest) (f : EndpointCounters → EndpointCounters) (s : State) :
    (s.countEndpoint d f).tables = s.tables := rfl
@[simp] theorem State.countEndpoint_sel (d : Dest) (f : EndpointCounters → EndpointCounters) (s : State) :
    (s.countEndpoint d f).sel = s.sel := rfl
@[simp] theorem State.countEndpoint_budget (d : Dest) (f : EndpointCounters → EndpointCounters) (s : State) :
    (s.countEndpoint d f).budget = s.budget := rfl
@[simp] theorem State.countEndpoint_admission (d : Dest) (f : EndpointCounters → EndpointCounters) (s : State) :
    (s.countEndpoint d f).admission = s.admission := rfl
@[simp] theorem State.countEndpoint_granted (d : Dest) (f : EndpointCounters → EndpointCounters) (s : State) :
    (s.countEndpoint d f).granted = s.granted := rfl
@[simp] theorem State.countEndpoint_grantSlots (d : Dest) (f : EndpointCounters → EndpointCounters) (s : State) :
    (s.countEndpoint d f).grantSlots = s.grantSlots := rfl
@[simp] theorem State.countEndpoint_ports (d : Dest) (f : EndpointCounters → EndpointCounters) (s : State) :
    (s.countEndpoint d f).ports = s.ports := rfl
@[simp] theorem State.countEndpoint_links (d : Dest) (f : EndpointCounters → EndpointCounters) (s : State) :
    (s.countEndpoint d f).links = s.links := rfl
@[simp] theorem State.countEndpoint_queues (d : Dest) (f : EndpointCounters → EndpointCounters) (s : State) :
    (s.countEndpoint d f).queues = s.queues := rfl
@[simp] theorem State.countEndpoint_records (d : Dest) (f : EndpointCounters → EndpointCounters) (s : State) :
    (s.countEndpoint d f).records = s.records := rfl
@[simp] theorem State.countEndpoint_held (d : Dest) (f : EndpointCounters → EndpointCounters) (s : State) :
    (s.countEndpoint d f).held = s.held := rfl
@[simp] theorem State.countEndpoint_phases (d : Dest) (f : EndpointCounters → EndpointCounters) (s : State) :
    (s.countEndpoint d f).phases = s.phases := rfl
@[simp] theorem State.countEndpoint_timing (d : Dest) (f : EndpointCounters → EndpointCounters) (s : State) :
    (s.countEndpoint d f).timing = s.timing := rfl
@[simp] theorem State.countEndpoint_mgmt (d : Dest) (f : EndpointCounters → EndpointCounters) (s : State) :
    (s.countEndpoint d f).mgmt = s.mgmt := rfl
@[simp] theorem State.countEndpoint_events (d : Dest) (f : EndpointCounters → EndpointCounters) (s : State) :
    (s.countEndpoint d f).events = s.events := rfl
@[simp] theorem State.countEndpoint_counters (d : Dest) (f : EndpointCounters → EndpointCounters) (s : State) :
    (s.countEndpoint d f).counters = { s.counters with endpoint := s.counters.endpoint.set d (f (s.counters.endpoint.get d)) } := rfl

@[simp] theorem State.countPort_pending (p : Port) (f : PortCounters → PortCounters) (s : State) :
    (s.countPort p f).pending = s.pending := rfl
@[simp] theorem State.countPort_now (p : Port) (f : PortCounters → PortCounters) (s : State) :
    (s.countPort p f).now = s.now := rfl
@[simp] theorem State.countPort_draws (p : Port) (f : PortCounters → PortCounters) (s : State) :
    (s.countPort p f).draws = s.draws := rfl
@[simp] theorem State.countPort_resetPin (p : Port) (f : PortCounters → PortCounters) (s : State) :
    (s.countPort p f).resetPin = s.resetPin := rfl
@[simp] theorem State.countPort_ecutPin (p : Port) (f : PortCounters → PortCounters) (s : State) :
    (s.countPort p f).ecutPin = s.ecutPin := rfl
@[simp] theorem State.countPort_supply (p : Port) (f : PortCounters → PortCounters) (s : State) :
    (s.countPort p f).supply = s.supply := rfl
@[simp] theorem State.countPort_busVolts (p : Port) (f : PortCounters → PortCounters) (s : State) :
    (s.countPort p f).busVolts = s.busVolts := rfl
@[simp] theorem State.countPort_tables (p : Port) (f : PortCounters → PortCounters) (s : State) :
    (s.countPort p f).tables = s.tables := rfl
@[simp] theorem State.countPort_sel (p : Port) (f : PortCounters → PortCounters) (s : State) :
    (s.countPort p f).sel = s.sel := rfl
@[simp] theorem State.countPort_budget (p : Port) (f : PortCounters → PortCounters) (s : State) :
    (s.countPort p f).budget = s.budget := rfl
@[simp] theorem State.countPort_admission (p : Port) (f : PortCounters → PortCounters) (s : State) :
    (s.countPort p f).admission = s.admission := rfl
@[simp] theorem State.countPort_granted (p : Port) (f : PortCounters → PortCounters) (s : State) :
    (s.countPort p f).granted = s.granted := rfl
@[simp] theorem State.countPort_grantSlots (p : Port) (f : PortCounters → PortCounters) (s : State) :
    (s.countPort p f).grantSlots = s.grantSlots := rfl
@[simp] theorem State.countPort_ports (p : Port) (f : PortCounters → PortCounters) (s : State) :
    (s.countPort p f).ports = s.ports := rfl
@[simp] theorem State.countPort_links (p : Port) (f : PortCounters → PortCounters) (s : State) :
    (s.countPort p f).links = s.links := rfl
@[simp] theorem State.countPort_queues (p : Port) (f : PortCounters → PortCounters) (s : State) :
    (s.countPort p f).queues = s.queues := rfl
@[simp] theorem State.countPort_records (p : Port) (f : PortCounters → PortCounters) (s : State) :
    (s.countPort p f).records = s.records := rfl
@[simp] theorem State.countPort_held (p : Port) (f : PortCounters → PortCounters) (s : State) :
    (s.countPort p f).held = s.held := rfl
@[simp] theorem State.countPort_phases (p : Port) (f : PortCounters → PortCounters) (s : State) :
    (s.countPort p f).phases = s.phases := rfl
@[simp] theorem State.countPort_timing (p : Port) (f : PortCounters → PortCounters) (s : State) :
    (s.countPort p f).timing = s.timing := rfl
@[simp] theorem State.countPort_mgmt (p : Port) (f : PortCounters → PortCounters) (s : State) :
    (s.countPort p f).mgmt = s.mgmt := rfl
@[simp] theorem State.countPort_events (p : Port) (f : PortCounters → PortCounters) (s : State) :
    (s.countPort p f).events = s.events := rfl
@[simp] theorem State.countPort_counters (p : Port) (f : PortCounters → PortCounters) (s : State) :
    (s.countPort p f).counters = { s.counters with port := s.counters.port.set p (f (s.counters.port.get p)) } := rfl

end Sys2Proof.Machine
end

