-- ==== Sys2Proof/Laws/Word.lean ====
section
/-! SUPPORT. Reading a record of like things after setting one of them, after filling it, and after making it from a
function. -/

namespace Sys2Proof

section
variable {α : Type}

@[simp] theorem PerSource.get_set_self (x : PerSource α) (i : Source) (a : α) : (x.set i a).get i = a := by
  cases i <;> rfl

theorem PerSource.get_set_of_ne (x : PerSource α) (i j : Source) (a : α) (h : j ≠ i) : (x.set i a).get j = x.get j := by
  cases i <;> cases j <;> first | rfl | exact absurd rfl h

theorem PerSource.get_set (x : PerSource α) (i j : Source) (a : α) :
    (x.set i a).get j = if j = i then a else x.get j := by
  split
  · next h => rw [h]; exact PerSource.get_set_self x i a
  · next h => exact PerSource.get_set_of_ne x i j a h

@[simp] theorem PerSource.get_rep (a : α) (i : Source) : (PerSource.rep a).get i = a := by
  cases i <;> rfl

@[simp] theorem PerPort.get_set_self (x : PerPort α) (i : Port) (a : α) : (x.set i a).get i = a := by
  cases i <;> rfl

theorem PerPort.get_set_of_ne (x : PerPort α) (i j : Port) (a : α) (h : j ≠ i) : (x.set i a).get j = x.get j := by
  cases i <;> cases j <;> first | rfl | exact absurd rfl h

theorem PerPort.get_set (x : PerPort α) (i j : Port) (a : α) :
    (x.set i a).get j = if j = i then a else x.get j := by
  split
  · next h => rw [h]; exact PerPort.get_set_self x i a
  · next h => exact PerPort.get_set_of_ne x i j a h

@[simp] theorem PerPort.get_rep (a : α) (i : Port) : (PerPort.rep a).get i = a := by
  cases i <;> rfl

@[simp] theorem PerPort.get_ofFn (f : Port → α) (i : Port) : (PerPort.ofFn f).get i = f i := by
  cases i <;> rfl

@[simp] theorem PerDest.get_set_self (x : PerDest α) (i : Dest) (a : α) : (x.set i a).get i = a := by
  cases i with
  | u => rfl
  | port p => exact PerPort.get_set_self x.ports p a

theorem PerDest.get_set_of_ne (x : PerDest α) (i j : Dest) (a : α) (h : j ≠ i) : (x.set i a).get j = x.get j := by
  cases i with
  | u => cases j with
    | u => exact absurd rfl h
    | port q => rfl
  | port p => cases j with
    | u => rfl
    | port q => exact PerPort.get_set_of_ne x.ports p q a fun e => h (e ▸ rfl)

theorem PerDest.get_set (x : PerDest α) (i j : Dest) (a : α) :
    (x.set i a).get j = if j = i then a else x.get j := by
  split
  · next h => rw [h]; exact PerDest.get_set_self x i a
  · next h => exact PerDest.get_set_of_ne x i j a h

@[simp] theorem PerDest.get_rep (a : α) (i : Dest) : (PerDest.rep a).get i = a := by
  cases i with
  | u => rfl
  | port p => exact PerPort.get_rep a p

@[simp] theorem PerDest.get_ofFn (f : Dest → α) (i : Dest) : (PerDest.ofFn f).get i = f i := by
  cases i with
  | u => rfl
  | port p => exact PerPort.get_ofFn (fun p => f (.port p)) p

@[simp] theorem PerClass.get_set_self (x : PerClass α) (i : ClassNo) (a : α) : (x.set i a).get i = a := by
  cases i <;> rfl

theorem PerClass.get_set_of_ne (x : PerClass α) (i j : ClassNo) (a : α) (h : j ≠ i) : (x.set i a).get j = x.get j := by
  cases i <;> cases j <;> first | rfl | exact absurd rfl h

theorem PerClass.get_set (x : PerClass α) (i j : ClassNo) (a : α) :
    (x.set i a).get j = if j = i then a else x.get j := by
  split
  · next h => rw [h]; exact PerClass.get_set_self x i a
  · next h => exact PerClass.get_set_of_ne x i j a h

@[simp] theorem PerClass.get_rep (a : α) (i : ClassNo) : (PerClass.rep a).get i = a := by
  cases i <;> rfl

@[simp] theorem PerHub.get_set_self (x : PerHub α) (i : HubItem) (a : α) : (x.set i a).get i = a := by
  cases i <;> rfl

theorem PerHub.get_set_of_ne (x : PerHub α) (i j : HubItem) (a : α) (h : j ≠ i) : (x.set i a).get j = x.get j := by
  cases i <;> cases j <;> first | rfl | exact absurd rfl h

theorem PerHub.get_set (x : PerHub α) (i j : HubItem) (a : α) :
    (x.set i a).get j = if j = i then a else x.get j := by
  split
  · next h => rw [h]; exact PerHub.get_set_self x i a
  · next h => exact PerHub.get_set_of_ne x i j a h

@[simp] theorem PerHub.get_rep (a : α) (i : HubItem) : (PerHub.rep a).get i = a := by
  cases i <;> rfl

@[simp] theorem PerHub.get_ofFn (f : HubItem → α) (i : HubItem) : (PerHub.ofFn f).get i = f i := by
  cases i <;> rfl

end

/-- Every port is listed. -/
theorem Port.mem_all (p : Port) : p ∈ Port.all := by cases p <;> decide

/-- Every destination is listed. -/
theorem Dest.mem_all (d : Dest) : d ∈ Dest.all := by
  cases d with
  | u => decide
  | port p => cases p <;> decide

/-- No destination is listed twice. -/
theorem Dest.nodup_all : Dest.all.Nodup := by decide

/-- Every hub item is listed. -/
theorem HubItem.mem_all (i : HubItem) : i ∈ HubItem.all := by cases i <;> decide

/-- Every item is listed. -/
theorem Item.mem_all (i : Item) : i ∈ Item.all := by
  cases i with
  | hub h => cases h <;> decide
  | mark p => cases p <;> decide

/-- A port's number names it. -/
theorem Port.ofNumber_number (p : Port) : Port.ofNumber p.number = some p := by cases p <;> rfl

/-- A class's number names it. -/
theorem ClassNo.ofNumber_number (c : ClassNo) : ClassNo.ofNumber c.number = some c := by cases c <;> rfl

end Sys2Proof
end

