-- ==== Sys2Proof/Laws/Frame.lean ====
section
/-! SUPPORT. What each shared operation leaves as it was. -/

namespace Sys2Proof.Machine

/-! ### The relation -/

theorem State.SameBut.refl (m : List Part) (s : State) : s.SameBut m s := by
  intro x _; cases x <;> rfl

theorem State.SameAt.trans {a b c : State} {x : Part} (h : a.SameAt b x) (k : b.SameAt c x) : a.SameAt c x := by
  cases x <;> exact Eq.trans h k

/-- A change of some parts, made after a change of parts. -/
theorem State.SameBut.comp {m n : List Part} {a b c : State} (h : a.SameBut m b) (k : b.SameBut n c)
    (hm : ∀ x ∈ m, x ∈ n) : a.SameBut n c :=
  fun x hx => (h x fun hx' => hx (hm x hx')).trans (k x hx)

/-- What changes some parts changes no others. -/
theorem State.SameBut.weaken {m n : List Part} {a b : State} (h : a.SameBut m b) (hm : ∀ x ∈ m, x ∈ n) :
    a.SameBut n b := fun x hx => h x fun hx' => hx (hm x hx')

/-- A fold of one operation over a list. -/
theorem State.SameBut.foldl {α : Type} {m : List Part} {f : State → α → State}
    (h : ∀ s a, (f s a).SameBut m s) (l : List α) (s : State) : (l.foldl f s).SameBut m s := by
  induction l generalizing s with
  | nil => exact State.SameBut.refl m s
  | cons a l ih => exact (ih (f s a)).comp (h s a) fun _ hx => hx

/-! ### Changing one part -/

/-- One port. -/
theorem State.modPort_frame (p : Port) (f : PortUnit → PortUnit) (s : State) :
    (s.modPort p f).SameBut [.ports] s := by
  intro x hx; cases x <;> first | exact absurd (by decide) hx | rfl

/-- One link. -/
theorem State.modLink_frame (d : Dest) (f : Link → Link) (s : State) :
    (s.modLink d f).SameBut [.links] s := by
  intro x hx; cases x <;> first | exact absurd (by decide) hx | rfl

/-- The queues of one destination. -/
theorem State.modQueues_frame (d : Dest) (f : Queues → Queues) (s : State) :
    (s.modQueues d f).SameBut [.queues] s := by
  intro x hx; cases x <;> first | exact absurd (by decide) hx | rfl

/-- The phase of one destination. -/
theorem State.modPhase_frame (d : Dest) (f : Phase → Phase) (s : State) :
    (s.modPhase d f).SameBut [.phases] s := by
  intro x hx; cases x <;> first | exact absurd (by decide) hx | rfl

/-- One source. -/
theorem State.modSource_frame (src : Source) (f : SourceMonitor → SourceMonitor) (s : State) :
    (s.modSource src f).SameBut [.supply] s := by
  intro x hx; cases x <;> first | exact absurd (by decide) hx | rfl

/-- The tables. -/
theorem State.modTables_frame (f : Tables → Tables) (s : State) :
    (s.modTables f).SameBut [.tables] s := by
  intro x hx; cases x <;> first | exact absurd (by decide) hx | rfl

/-- The selector. -/
theorem State.modSel_frame (f : Selector → Selector) (s : State) :
    (s.modSel f).SameBut [.sel] s := by
  intro x hx; cases x <;> first | exact absurd (by decide) hx | rfl

/-- The budget unit. -/
theorem State.modBudget_frame (f : Budget → Budget) (s : State) :
    (s.modBudget f).SameBut [.budget] s := by
  intro x hx; cases x <;> first | exact absurd (by decide) hx | rfl

/-- The frame timing unit. -/
theorem State.modTiming_frame (f : Timing → Timing) (s : State) :
    (s.modTiming f).SameBut [.timing] s := by
  intro x hx; cases x <;> first | exact absurd (by decide) hx | rfl

/-- The management unit. -/
theorem State.modMgmt_frame (f : Mgmt → Mgmt) (s : State) :
    (s.modMgmt f).SameBut [.mgmt] s := by
  intro x hx; cases x <;> first | exact absurd (by decide) hx | rfl

/-- One GRANT slot. -/
theorem State.modGrantSlot_frame (p : Port) (g : Option GrantMsg) (s : State) :
    (s.modGrantSlot p g).SameBut [.grantSlots] s := by
  intro x hx; cases x <;> first | exact absurd (by decide) hx | rfl

/-- A free value is used. -/
theorem State.drawn_frame (s : State) :
    (s.drawn).SameBut [.draws] s := by
  intro x hx; cases x <;> first | exact absurd (by decide) hx | rfl

/-- An endpoint's counters. -/
theorem State.countEndpoint_frame (d : Dest) (f : EndpointCounters → EndpointCounters) (s : State) :
    (s.countEndpoint d f).SameBut [.counters] s := by
  intro x hx; cases x <;> first | exact absurd (by decide) hx | rfl

/-- A port's counters. -/
theorem State.countPort_frame (p : Port) (f : PortCounters → PortCounters) (s : State) :
    (s.countPort p f).SameBut [.counters] s := by
  intro x hx; cases x <;> first | exact absurd (by decide) hx | rfl

/-! ### Events -/

/-- R158. -/
theorem State.requestNotice_frame (s : State) :
    (s.requestNotice).SameBut [.events] s := by
  unfold State.requestNotice
  split
  · exact .refl _ s
  · intro x hx; cases x <;> first | exact absurd (by decide) hx | rfl

/-- R158. -/
theorem State.noticeLost_frame (s : State) :
    (s.noticeLost).SameBut [.events] s := by
  intro x hx; cases x <;> first | exact absurd (by decide) hx | rfl

/-- R156. -/
theorem State.raise_frame (i : Item) (s : State) :
    (s.raise i).SameBut [.events] s := by
  unfold State.raise
  dsimp only
  split
  · exact (State.requestNotice_frame _).comp (by intro x hx; cases x <;> first | exact absurd (by decide) hx | rfl) (by decide)
  · intro x hx; cases x <;> first | exact absurd (by decide) hx | rfl

/-- R156. -/
theorem State.raiseHub_frame (i : HubItem) (s : State) :
    (s.raiseHub i).SameBut [.events] s := by
  exact State.raise_frame (.hub i) s

/-- R157. -/
theorem State.reportComplete_frame (r : Report) (s : State) :
    (s.reportComplete r).SameBut [.events] s := by
  intro x hx; cases x <;> first | exact absurd (by decide) hx | rfl

/-- R163. -/
theorem State.clearItems_frame (f : Item → Bool) (s : State) :
    (s.clearItems f).SameBut [.events] s := by
  unfold State.clearItems
  dsimp only
  split
  · exact (State.requestNotice_frame _).comp (by intro x hx; cases x <;> first | exact absurd (by decide) hx | rfl) (by decide)
  · intro x hx; cases x <;> first | exact absurd (by decide) hx | rfl

/-! ### Pending slots -/

/-- R97. -/
theorem State.postFlow_frame (k : FlowKind) (d : Dest) (s : State) :
    (s.postFlow k d).SameBut [.links] s := by
  unfold State.postFlow
  split
  · exact State.modLink_frame d _ s
  · exact .refl _ s

/-- R97, R120, R121. -/
theorem State.postFlowAll_frame (k : FlowKind) (s : State) :
    (s.postFlowAll k).SameBut [.links] s := by
  exact State.SameBut.foldl (fun s d => State.postFlow_frame k d s) _ s

/-- R98. -/
theorem State.postMark_frame (m : MarkMsg) (d : Dest) (s : State) :
    (s.postMark m d).SameBut [.links] s := by
  unfold State.postMark
  split
  · exact .refl _ s
  · exact State.modLink_frame d _ s

/-- R59. -/
theorem State.postGrant_frame (p : Port) (g : GrantStatus) (s : State) :
    (s.postGrant p g).SameBut [.grantSlots] s := by
  unfold State.postGrant
  split
  · exact .refl _ s
  · exact State.modGrantSlot_frame p _ s

/-! ### The pool -/

/-- R120. -/
theorem State.enterHeld_frame (s : State) :
    (s.enterHeld).SameBut [.held, .links, .events] s := by
  exact (State.raiseHub_frame .poolHold _).comp
    ((State.postFlowAll_frame .hold { s with held := true }).comp
      (by intro x hx; cases x <;> first | exact absurd (by decide) hx | rfl) (by decide)) (by decide)

/-- R121. -/
theorem State.leaveHeld_frame (s : State) :
    (s.leaveHeld).SameBut [.held, .links] s := by
  exact (State.postFlowAll_frame .resume { s with held := false }).comp
    (by intro x hx; cases x <;> first | exact absurd (by decide) hx | rfl) (by decide)

/-- R120. -/
theorem State.judgeTake_frame (s : State) :
    (s.judgeTake).SameBut [.held, .links, .events] s := by
  unfold State.judgeTake
  split
  · exact State.enterHeld_frame s
  · exact .refl _ s

/-- R121. -/
theorem State.judgeFree_frame (s : State) :
    (s.judgeFree).SameBut [.held, .links] s := by
  unfold State.judgeFree
  split
  · exact State.leaveHeld_frame s
  · exact .refl _ s

/-- R116. -/
theorem State.addRef_frame (i : Nat) (s : State) :
    (s.addRef i).SameBut [.records] s := by
  unfold State.addRef
  split
  · exact .refl _ s
  · intro x hx; cases x <;> first | exact absurd (by decide) hx | rfl

/-- R116. -/
theorem State.freeIfUnused_frame (i : Nat) (s : State) :
    (s.freeIfUnused i).SameBut [.records, .held, .links] s := by
  unfold State.freeIfUnused
  split
  · exact .refl _ s
  · split
    · exact (State.judgeFree_frame _).comp (by intro x hx; cases x <;> first | exact absurd (by decide) hx | rfl) (by decide)
    · exact .refl _ s

/-- R116. -/
theorem State.releaseRef_frame (i : Nat) (s : State) :
    (s.releaseRef i).SameBut [.records, .held, .links] s := by
  unfold State.releaseRef
  split
  · exact .refl _ s
  · exact (State.freeIfUnused_frame i _).comp (by intro x hx; cases x <;> first | exact absurd (by decide) hx | rfl) (by decide)

/-- R116. -/
theorem State.releaseRefs_frame (is : List Nat) (s : State) :
    (s.releaseRefs is).SameBut [.records, .held, .links] s := by
  exact State.SameBut.foldl (fun s i => State.releaseRef_frame i s) is s

/-! ### Links -/

/-- R92, R118. -/
theorem State.flushLink_frame (d : Dest) (s : State) :
    (s.flushLink d).SameBut [.links, .queues, .counters, .records, .held] s := by
  exact (State.releaseRefs_frame (s.refsAt d) _).comp
    ((State.countEndpoint_frame d _ _).comp (by intro x hx; cases x <;> first | exact absurd (by decide) hx | rfl) (by decide)) (by decide)

/-- R92. -/
theorem State.portLinkDown_frame (p : Port) (s : State) :
    (s.portLinkDown p).SameBut [.grantSlots, .links, .queues, .counters, .records, .held] s := by
  unfold State.portLinkDown
  split
  · exact .refl _ s
  · exact (State.modLink_frame (.port p) _ _).comp ((State.flushLink_frame (.port p) _).comp
      ((State.modGrantSlot_frame p none s).weaken (by decide)) (by decide)) (by decide)

/-- R91. -/
theorem State.portLinkWait_frame (p : Port) (s : State) :
    (s.portLinkWait p).SameBut [.links] s := by
  exact State.modLink_frame (.port p) _ s

/-- R91, R94, R120. -/
theorem State.linkUp_frame (d : Dest) (s : State) :
    (s.linkUp d).SameBut [.links] s := by
  unfold State.linkUp
  dsimp only
  split
  · exact (State.postFlow_frame .hold d _).comp (State.modLink_frame d _ s) (by decide)
  · exact State.modLink_frame d _ s

/-! ### Transmit selection -/

/-- A message begins. -/
theorem State.transmit_frame (d : Dest) (k : TxKind) (b : List Byte) (s : State) :
    (s.transmit d k b).SameBut [.links] s := by
  exact State.modLink_frame d _ s

/-- A DATA message begins. -/
theorem State.transmitData_frame (d : Dest) (e : QEntry) (u : Bool) (s : State) :
    (s.transmitData d e u).SameBut [.links] s := by
  exact State.modLink_frame d _ s

/-- R99. -/
theorem State.begin_frame (d : Dest) (x : TxSource) (s : State) :
    (s.begin d x).SameBut [.links, .queues, .grantSlots, .mgmt] s := by
  unfold State.begin
  split
  · split
    · exact .refl _ s
    · exact (State.transmit_frame d _ _ _).comp ((State.modLink_frame d _ s).weaken (by decide)) (by decide)
  · split
    · exact .refl _ s
    · exact (State.transmit_frame d _ _ _).comp ((State.modLink_frame d _ s).weaken (by decide)) (by decide)
  · split
    · exact .refl _ s
    · split
      · exact .refl _ s
      · exact (State.transmit_frame _ _ _ _).comp ((State.modGrantSlot_frame _ _ s).weaken (by decide))
          (by decide)
  · split
    · exact .refl _ s
    · exact (State.transmit_frame d _ _ _).comp ((State.modMgmt_frame _ s).weaken (by decide)) (by decide)
    · exact (State.transmit_frame d _ _ _).comp ((State.modMgmt_frame _ s).weaken (by decide)) (by decide)
  · split
    · exact .refl _ s
    · exact (State.transmitData_frame d _ _ _).comp ((State.modQueues_frame d _ s).weaken (by decide))
        (by decide)
  · split
    · exact .refl _ s
    · exact (State.transmitData_frame d _ _ _).comp ((State.modQueues_frame d _ s).weaken (by decide))
        (by decide)

/-- R99. -/
theorem State.select_frame (d : Dest) (s : State) :
    (s.select d).SameBut [.links, .queues, .grantSlots, .mgmt] s := by
  unfold State.select
  split
  · exact State.begin_frame d _ s
  · exact .refl _ s

/-- R99. -/
theorem State.selectAll_frame (s : State) :
    (s.selectAll).SameBut [.links, .queues, .grantSlots, .mgmt] s := by
  exact State.SameBut.foldl (fun s d => State.select_frame d s) _ s

/-! ### Port states and responses -/

/-- R62. -/
theorem State.setPortState_frame (p : Port) (st : PortState) (s : State) :
    (s.setPortState p st).SameBut [.ports, .events] s := by
  unfold State.setPortState
  split
  · exact .refl _ s
  · exact (State.raise_frame (.mark p) _).comp ((State.modPort_frame p _ s).weaken (by decide)) (by decide)

/-- R70. -/
theorem State.enterRamp_frame (p : Port) (s : State) :
    (s.enterRamp p).SameBut [.ports, .events, .links] s := by
  unfold State.enterRamp
  exact (State.portLinkWait_frame p _).comp ((State.modPort_frame p _ _).comp
    ((State.setPortState_frame p .ramp s).weaken (by decide)) (by decide)) (by decide)

/-- R144. -/
theorem State.placeResponse_frame (code : Byte) (b : List Byte) (r : Option Report) (s : State) :
    (s.placeResponse code b r).SameBut [.mgmt, .counters] s := by
  unfold State.placeResponse
  split
  · exact (State.modMgmt_frame _ s).weaken (by decide)
  · exact (State.countEndpoint_frame .u _ s).weaken (by decide)

/-! ### Admission -/

/-- The parts that granting, shedding and dropping ports may change. -/
def Part.power : List Part := [.admission, .granted, .grantSlots, .ports,
   .links, .queues, .records, .held, .events, .counters]

/-- The parts that a change of source or a loss of supply may change. -/
def Part.feeding : List Part := Part.power ++ [.sel, .budget]

/-- R41. -/
theorem State.addEntry_frame (e : Entry) (s : State) :
    (s.addEntry e).SameBut [.admission] s := by
  intro x hx; cases x <;> first | exact absurd (by decide) hx | rfl

/-- R41. -/
theorem State.removeEntry_frame (p : Port) (s : State) :
    (s.removeEntry p).SameBut [.admission] s := by
  intro x hx; cases x <;> first | exact absurd (by decide) hx | rfl

/-- R41. -/
theorem State.removeIncrease_frame (p : Port) (s : State) :
    (s.removeIncrease p).SameBut [.admission] s := by
  intro x hx; cases x <;> first | exact absurd (by decide) hx | rfl

/-- R41. -/
theorem State.putEntry_frame (e : Entry) (s : State) :
    (s.putEntry e).SameBut [.admission] s := by
  unfold State.putEntry
  split
  · intro x hx; cases x <;> first | exact absurd (by decide) hx | rfl
  · exact State.addEntry_frame e s

/-- R41. -/
theorem State.makeEntry_frame (p : Port) (r : Reason) (n : Nat) (s : State) :
    (s.makeEntry p r n).SameBut [.admission] s := by
  exact State.addEntry_frame _ s

/-- R43. -/
theorem State.leaveGranted_frame (p : Port) (s : State) :
    (s.leaveGranted p).SameBut [.granted, .ports] s := by
  exact (State.modPort_frame p _ _).comp (by intro x hx; cases x <;> first | exact absurd (by decide) hx | rfl) (by decide)

/-- R43. -/
theorem State.toTail_frame (p : Port) (s : State) :
    (s.toTail p).SameBut [.granted] s := by
  intro x hx; cases x <;> first | exact absurd (by decide) hx | rfl

/-- R49. -/
theorem State.shed_frame (p : Port) (s : State) :
    (s.shed p).SameBut Part.power s := by
  unfold State.shed
  exact (State.countPort_frame p _ _).comp
    ((State.putEntry_frame _ _).comp
    ((State.portLinkDown_frame p _).comp
    ((State.modPort_frame p _ _).comp
    ((State.setPortState_frame p _ _).comp
    ((State.leaveGranted_frame p s).weaken (by decide)) (by decide)) (by decide)) (by decide)) (by decide)) (by decide)

/-- R46. -/
theorem State.shedLoop_frame (c : State → Port → Bool) (need : Int) (n : Nat) (s : State) :
    (State.shedLoop c need n s).SameBut Part.power s := by
  induction n generalizing s with
  | zero => exact .refl _ s
  | succ n ih =>
    unfold State.shedLoop
    split
    · exact .refl _ s
    · split
      · exact .refl _ s
      · exact (ih _).comp (State.shed_frame _ s) (by decide)

/-- R46. -/
theorem State.shedUntil_frame (c : State → Port → Bool) (need : Int) (s : State) :
    (s.shedUntil c need).SameBut Part.power s := by
  exact State.shedLoop_frame c need _ s

/-- R47. -/
theorem State.grantHead_frame (e : Entry) (s : State) :
    (s.grantHead e).SameBut Part.power s := by
  unfold State.grantHead
  dsimp only
  refine (State.countPort_frame _ _ _).comp ((State.postGrant_frame _ _ _).comp ?_ (by decide)) (by decide)
  have h : (((s.modPort e.port fun u => { u with grant := e.draw }).removeEntry e.port).toTail
      e.port).SameBut Part.power s :=
    (State.toTail_frame _ _).comp ((State.removeEntry_frame _ _).comp
      ((State.modPort_frame _ _ s).weaken (by decide)) (by decide)) (by decide)
  split
  · exact h
  · exact (State.enterRamp_frame _ _).comp h (by decide)

/-- R45. -/
theorem State.evaluateLoop_frame (n : Nat) (s : State) :
    (State.evaluateLoop n s).SameBut Part.power s := by
  induction n generalizing s with
  | zero => exact .refl _ s
  | succ n ih =>
    unfold State.evaluateLoop
    split
    · exact .refl _ s
    · split
      · exact (ih _).comp (State.grantHead_frame _ s) (by decide)
      · split
        · exact (ih _).comp ((State.grantHead_frame _ _).comp (State.shedUntil_frame _ _ s) (by decide))
            (by decide)
        · exact .refl _ s

/-- R44, R45. -/
theorem State.evaluate_frame (s : State) :
    (s.evaluate).SameBut Part.power s := by
  unfold State.evaluate
  split
  · exact State.evaluateLoop_frame _ s
  · exact .refl _ s

/-- R57. -/
theorem State.evaluateIf_frame (b : Bool) (s : State) :
    (s.evaluateIf b).SameBut Part.power s := by
  unfold State.evaluateIf
  split
  · exact State.evaluate_frame s
  · exact .refl _ s

/-- R58. -/
theorem State.losePort_frame (p : Port) (s : State) :
    (s.losePort p).SameBut Part.power s := by
  unfold State.losePort
  exact (State.addEntry_frame _ _).comp
    ((State.portLinkDown_frame p _).comp
    ((State.modPort_frame p _ _).comp
    ((State.setPortState_frame p _ _).comp
    ((State.removeIncrease_frame p _).comp
    ((State.leaveGranted_frame p s).weaken (by decide)) (by decide)) (by decide)) (by decide)) (by decide)) (by decide)

/-- R12, R58. -/
theorem State.supplyLoss_frame (s : State) :
    (s.supplyLoss).SameBut Part.power s := by
  exact State.SameBut.foldl (fun s p => State.losePort_frame p s) _ s

/-- R52 to R56. -/
theorem State.demand_frame (p : Port) (n : Nat) (s : State) :
    (s.demand p n).SameBut Part.power s := by
  unfold State.demand
  split
  · dsimp only
    split
    · exact (State.evaluate_frame _).comp ((State.postGrant_frame p _ _).comp
        ((State.removeIncrease_frame p _).comp ((State.modPort_frame p _ s).weaken (by decide)) (by decide))
        (by decide)) (by decide)
    · split
      · exact (State.postGrant_frame p _ _).comp ((State.removeIncrease_frame p s).weaken (by decide))
          (by decide)
      · exact (State.evaluate_frame _).comp ((State.postGrant_frame p _ _).comp
          ((State.putEntry_frame _ s).weaken (by decide)) (by decide)) (by decide)
  · exact (State.countEndpoint_frame (.port p) _ s).weaken (by decide)

/-- R48. -/
theorem State.holdOffExpiry_frame (p : Port) (s : State) :
    (s.holdOffExpiry p).SameBut Part.power s := by
  unfold State.holdOffExpiry
  split
  · exact (State.evaluate_frame _).comp (by intro x hx; cases x <;> first | exact absurd (by decide) hx | rfl) (by decide)
  · exact .refl _ s

/-- R50. -/
theorem State.waitTimerExpiry_frame (p : Port) (s : State) :
    (s.waitTimerExpiry p).SameBut Part.power s := by
  unfold State.waitTimerExpiry
  split
  · exact (State.raiseHub_frame _ _).comp
      ((State.setPortState_frame p _ _).comp
      ((State.removeEntry_frame p s).weaken (by decide)) (by decide)) (by decide)
  · exact .refl _ s

/-- R51. -/
theorem State.increaseWaitExpiry_frame (p : Port) (s : State) :
    (s.increaseWaitExpiry p).SameBut Part.power s := by
  unfold State.increaseWaitExpiry
  split
  · exact (State.postGrant_frame p _ _).comp
      ((State.removeEntry_frame p s).weaken (by decide)) (by decide)
  · exact .refl _ s

/-! ### Port power units -/

/-- R57. -/
theorem State.dropPort_frame (p : Port) (s : State) :
    (s.dropPort p).SameBut Part.power s := by
  unfold State.dropPort
  exact (State.portLinkDown_frame p _).comp
    ((State.modPort_frame p _ _).comp
    ((State.removeEntry_frame p _).comp
    ((State.leaveGranted_frame p s).weaken (by decide)) (by decide)) (by decide)) (by decide)

/-- R69. -/
theorem State.classified_frame (p : Port) (r : Reason) (s : State) :
    (s.classified p r).SameBut Part.power s := by
  unfold State.classified
  dsimp only
  refine (State.evaluate_frame _).comp ?_ (by decide)
  split
  · exact (State.raiseHub_frame _ _).comp ((State.makeEntry_frame p r _ s).weaken (by decide)) (by decide)
  · exact (State.makeEntry_frame p r _ s).weaken (by decide)

/-- R68, R69. -/
theorem State.classify_frame (p : Port) (r : Reason) (s : State) :
    (s.classify p r).SameBut Part.power s := by
  unfold State.classify
  split
  · exact (State.classified_frame p r _).comp ((State.setPortState_frame p _ _).comp
      ((State.modPort_frame p _ s).weaken (by decide)) (by decide)) (by decide)
  · exact (State.raiseHub_frame _ _).comp ((State.setPortState_frame p _ _).comp
      ((State.modPort_frame p _ s).weaken (by decide)) (by decide)) (by decide)
  · exact (State.raiseHub_frame _ _).comp ((State.setPortState_frame p _ _).comp
      ((State.modPort_frame p _ s).weaken (by decide)) (by decide)) (by decide)

/-- R66. -/
theorem State.detach_frame (p : Port) (s : State) :
    (s.detach p).SameBut Part.power s := by
  unfold State.detach
  dsimp only
  exact (State.evaluateIf_frame _ _).comp
    ((State.raiseHub_frame _ _).comp
    ((State.modPort_frame p _ _).comp
    ((State.setPortState_frame p _ _).comp
    ((State.dropPort_frame p s).weaken (by decide)) (by decide)) (by decide)) (by decide)) (by decide)

/-- R65, R67. -/
theorem State.debounceExpire_frame (p : Port) (s : State) :
    (s.debounceExpire p).SameBut Part.power s := by
  unfold State.debounceExpire
  dsimp only
  have h := (State.modPort_frame p (fun u => { u with debounce := none }) s).weaken (n := Part.power) (by decide)
  split
  · split
    · exact (State.setPortState_frame p _ _).comp h (by decide)
    · exact h
  · split
    · split
      · exact (State.classify_frame p _ _).comp ((State.modPort_frame p _ _).comp h (by decide)) (by decide)
      · exact (State.modPort_frame p _ _).comp h (by decide)
    · split
      · exact (State.raiseHub_frame _ _).comp ((State.modPort_frame p _ _).comp h (by decide)) (by decide)
      · exact (State.detach_frame p _).comp h (by decide)

/-- R64, R65. -/
theorem State.scanDetect_frame (p : Port) (s : State) :
    (s.scanDetect p).SameBut Part.power s := by
  unfold State.scanDetect
  dsimp only
  split
  · refine (State.debounceExpire_frame p _).comp ?_ (by decide)
    split
    · exact (State.setPortState_frame p _ _).comp ((State.modPort_frame p _ s).weaken (by decide)) (by decide)
    · exact (State.modPort_frame p _ s).weaken (by decide)
  · split
    · exact (State.setPortState_frame p _ _).comp ((State.modPort_frame p _ s).weaken (by decide)) (by decide)
    · exact (State.modPort_frame p _ s).weaken (by decide)

/-- R77. -/
theorem State.trip_frame (p : Port) (r : TripReason) (s : State) :
    (s.trip p r).SameBut Part.power s := by
  unfold State.trip
  dsimp only
  refine (State.evaluateIf_frame _ _).comp ((State.countPort_frame p _ _).comp
    ((State.raiseHub_frame _ _).comp ?_ (by decide)) (by decide)) (by decide)
  have h : ((((s.modPort p fun u => u.tripped r (s.tripLocks p)
      (((s.classOf p).map (·.retryDelay)).getD 1)).leaveGranted p).removeIncrease p).portLinkDown
      p).SameBut Part.power s :=
    (State.portLinkDown_frame p _).comp ((State.removeIncrease_frame p _).comp
      ((State.leaveGranted_frame p _).comp ((State.modPort_frame p _ s).weaken (by decide)) (by decide))
      (by decide)) (by decide)
  split
  · exact (State.raiseHub_frame _ _).comp ((State.setPortState_frame p _ _).comp h (by decide)) (by decide)
  · exact (State.setPortState_frame p _ _).comp h (by decide)

/-- R76. -/
theorem State.hardTrip_frame (p : Port) (s : State) :
    (s.hardTrip p).SameBut Part.power s := by
  unfold State.hardTrip
  split
  · exact State.trip_frame p _ s
  · exact .refl _ s

/-- R71. -/
theorem State.stepEnd_frame (p : Port) (s : State) :
    (s.stepEnd p).SameBut Part.power s := by
  unfold State.stepEnd
  dsimp only
  split
  · split
    · exact (State.trip_frame p _ _).comp ((State.modPort_frame p _ s).weaken (by decide)) (by decide)
    · exact (State.modPort_frame p _ s).weaken (by decide)
  · split
    · exact (State.setPortState_frame p _ _).comp ((State.modPort_frame p _ s).weaken (by decide)) (by decide)
    · exact (State.modPort_frame p _ s).weaken (by decide)

/-- R73 to R75. -/
theorem State.judgeOverdraw_frame (p : Port) (s : State) :
    (s.judgeOverdraw p).SameBut Part.power s := by
  unfold State.judgeOverdraw State.overdrawInOn State.backToOn
  dsimp only
  split
  · split
    · split
      · exact (State.trip_frame p _ _).comp ((State.modPort_frame p _ s).weaken (by decide)) (by decide)
      · exact (State.postGrant_frame p _ _).comp ((State.setPortState_frame p _ _).comp
          ((State.modPort_frame p _ _).comp ((State.modPort_frame p _ s).weaken (by decide)) (by decide))
          (by decide)) (by decide)
    · exact (State.modPort_frame p _ s).weaken (by decide)
  · split
    · exact (State.postGrant_frame p _ _).comp ((State.setPortState_frame p _ _).comp
        ((State.modPort_frame p _ _).comp ((State.modPort_frame p _ s).weaken (by decide)) (by decide))
        (by decide)) (by decide)
    · exact (State.modPort_frame p _ s).weaken (by decide)

/-- R70, R73. -/
theorem State.scanJudge_frame (p : Port) (s : State) :
    (s.scanJudge p).SameBut Part.power s := by
  unfold State.scanJudge
  dsimp only
  split
  · split
    · exact (State.modPort_frame p _ s).weaken (by decide)
    · exact .refl _ s
  · exact State.judgeOverdraw_frame p s
  · exact State.judgeOverdraw_frame p s
  · exact .refl _ s

/-- R80. -/
theorem State.pause_frame (p : Port) (s : State) :
    (s.pause p).SameBut Part.power s := by
  unfold State.pause
  split
  · exact (State.portLinkDown_frame p _).comp
      ((State.removeIncrease_frame p _).comp
      ((State.modPort_frame p _ _).comp
      ((State.setPortState_frame p _ s).weaken (by decide)) (by decide)) (by decide)) (by decide)
  · exact .refl _ s

/-- R13. -/
theorem State.pauseAll_frame (s : State) :
    (s.pauseAll).SameBut Part.power s := by
  exact State.SameBut.foldl (fun s p => State.pause_frame p s) _ s

/-- R15. -/
theorem State.reramp_frame (p : Port) (s : State) :
    (s.reramp p).SameBut Part.power s := by
  unfold State.reramp
  split
  · exact (State.postGrant_frame p _ _).comp
      ((State.enterRamp_frame p s).weaken (by decide)) (by decide)
  · exact .refl _ s

/-- R15. -/
theorem State.rerampAll_frame (s : State) :
    (s.rerampAll).SameBut Part.power s := by
  exact State.SameBut.foldl (fun s p => State.reramp_frame p s) _ s

/-- R82. -/
theorem State.disable_frame (p : Port) (s : State) :
    (s.disable p).SameBut Part.power s := by
  unfold State.disable
  split
  · exact .refl _ s
  · exact (State.evaluateIf_frame _ _).comp
      ((State.setPortState_frame p _ _).comp
      ((State.dropPort_frame p s).weaken (by decide)) (by decide)) (by decide)

/-- R83. -/
theorem State.enable_frame (p : Port) (s : State) :
    (s.enable p).SameBut Part.power s := by
  unfold State.enable
  dsimp only
  split
  · split
    · exact (State.setPortState_frame p _ s).weaken (by decide)
    · exact State.classify_frame p _ s
  · exact .refl _ s

/-- R84. -/
theorem State.resetPort_frame (p : Port) (s : State) :
    (s.resetPort p).SameBut Part.power s := by
  exact (State.classify_frame p _ _).comp ((State.modPort_frame p _ s).weaken (by decide)) (by decide)

/-! ### Budget and selector -/

/-- R26. -/
theorem State.computeBudget_frame (s : State) :
    (s.computeBudget).SameBut [.budget] s := by
  unfold State.computeBudget
  split
  · exact .refl _ s
  · split
    · exact .refl _ s
    · exact State.modBudget_frame _ s

/-- R25. -/
theorem State.zeroBudget_frame (s : State) :
    (s.zeroBudget).SameBut [.budget] s := by
  exact State.modBudget_frame _ s

/-- R33, R34. -/
theorem State.setOvercommit_frame (o : Overcommit) (s : State) :
    (s.setOvercommit o).SameBut [.budget] s := by
  exact State.modBudget_frame _ s

/-- R34. -/
theorem State.afterShedding_frame (s : State) :
    (s.afterShedding).SameBut [.budget, .events] s := by
  unfold State.afterShedding
  split
  · exact (State.setOvercommit_frame _ s).weaken (by decide)
  · exact (State.raiseHub_frame _ _).comp ((State.setOvercommit_frame _ s).weaken (by decide)) (by decide)

/-- R34. -/
theorem State.shedExpire_frame (s : State) :
    (s.shedExpire).SameBut Part.feeding s := by
  unfold State.shedExpire
  dsimp only
  have h := (State.shedUntil_frame State.overcommitCandidate 0 (s.setOvercommit .clear)).comp
    ((State.setOvercommit_frame .clear s).weaken (n := Part.feeding) (by decide)) (by decide)
  split
  · exact (State.afterShedding_frame _).comp h (by decide)
  · exact (State.evaluate_frame _).comp ((State.afterShedding_frame _).comp h (by decide)) (by decide)

/-- R33. -/
theorem State.judgeOvercommit_frame (s : State) :
    (s.judgeOvercommit).SameBut Part.feeding s := by
  have h : ∀ s : State, s.startShedTimer.SameBut Part.feeding s := by
    intro s
    unfold State.startShedTimer
    split
    · exact State.shedExpire_frame s
    · exact (State.modBudget_frame _ s).weaken (by decide)
  unfold State.judgeOvercommit
  split
  · exact (State.setOvercommit_frame _ s).weaken (by decide)
  · split
    · exact h s
    · exact .refl _ s
    · split
      · exact h s
      · exact .refl _ s

/-- R32. -/
theorem State.scanBudget_frame (s : State) :
    (s.scanBudget).SameBut Part.feeding s := by
  unfold State.scanBudget
  dsimp only
  refine (State.evaluate_frame _).comp ?_ (by decide)
  split
  · exact (State.judgeOvercommit_frame _).comp ((State.computeBudget_frame s).weaken (by decide)) (by decide)
  · exact (State.computeBudget_frame s).weaken (by decide)

/-- R13. -/
theorem State.beginChangeover_frame (q : Source) (s : State) :
    (s.beginChangeover q).SameBut Part.feeding s := by
  unfold State.beginChangeover
  exact (State.pauseAll_frame _).comp
    ((State.setOvercommit_frame _ _).comp
    ((State.modSel_frame _ s).weaken (by decide)) (by decide)) (by decide)

/-- R17. -/
theorem State.judgeAuto_frame (s : State) :
    (s.judgeAuto).SameBut Part.feeding s := by
  unfold State.judgeAuto State.startAuto
  split
  · exact (State.modSel_frame _ s).weaken (by decide)
  · split
    · exact .refl _ s
    · split
      · exact State.beginChangeover_frame _ s
      · exact (State.modSel_frame _ s).weaken (by decide)

/-- R10. -/
theorem State.closeUsable_frame (s : State) :
    (s.closeUsable).SameBut Part.feeding s := by
  unfold State.closeUsable State.setSel
  split
  · exact (State.modSel_frame _ s).weaken (by decide)
  · exact (State.raiseHub_frame _ _).comp ((State.modSel_frame _ s).weaken (by decide)) (by decide)
  · exact .refl _ s

/-- R12. -/
theorem State.loseSupply_frame (st : SelState) (s : State) :
    (s.loseSupply st).SameBut Part.feeding s := by
  unfold State.loseSupply
  exact (State.supplyLoss_frame _).comp
    ((State.zeroBudget_frame _).comp
    ((State.modSel_frame _ s).weaken (by decide)) (by decide)) (by decide)

/-- R11. -/
theorem State.enterNoSource_frame (s : State) :
    (s.enterNoSource).SameBut Part.feeding s := by
  exact (State.raiseHub_frame _ _).comp (State.loseSupply_frame _ s) (by decide)

/-- R21. -/
theorem State.enterCut_frame (s : State) :
    (s.enterCut).SameBut Part.feeding s := by
  exact (State.raiseHub_frame _ _).comp (State.loseSupply_frame _ s) (by decide)

/-- R15. -/
theorem State.arrive_frame (q : Source) (s : State) :
    (s.arrive q).SameBut Part.feeding s := by
  unfold State.arrive State.shedAtEnd
  exact (State.rerampAll_frame _).comp
    ((State.afterShedding_frame _).comp
    ((State.shedUntil_frame _ _ _).comp
    ((State.computeBudget_frame _).comp
    ((State.modSel_frame _ s).weaken (by decide)) (by decide)) (by decide)) (by decide)) (by decide)

/-- R20. -/
theorem State.changeDue_frame (c : PendingChange) (s : State) :
    (s.changeDue c).SameBut Part.feeding s := by
  unfold State.changeDue
  dsimp only
  have h := (State.modSel_frame (fun x => { x with change := none }) s).weaken (n := Part.feeding) (by decide)
  split
  · split
    · split
      · exact h
      · exact (State.beginChangeover_frame _ _).comp h (by decide)
    · exact h
  · exact (State.raiseHub_frame _ _).comp h (by decide)

/-- R20. -/
theorem State.judgeChange_frame (s : State) :
    (s.judgeChange).SameBut Part.feeding s := by
  unfold State.judgeChange
  split
  · exact .refl _ s
  · split
    · exact .refl _ s
    · exact State.changeDue_frame _ s

/-- R3, R10. -/
theorem State.becomeUsable_frame (src : Source) (s : State) :
    (s.becomeUsable src).SameBut [.admission, .granted, .grantSlots, .ports, .links, .queues, .records, .held, .events, .counters, .sel, .budget, .supply] s := by
  exact (State.judgeAuto_frame _).comp ((State.closeUsable_frame _).comp
    ((State.modSource_frame src _ s).weaken (by decide)) (by decide)) (by decide)

/-- R4. -/
theorem State.sourceFailed_frame (src : Source) (s : State) :
    (s.sourceFailed src).SameBut [.admission, .granted, .grantSlots, .ports, .links, .queues, .records, .held, .events, .counters, .sel, .budget, .supply] s := by
  unfold State.sourceFailed State.activeFailed
  dsimp only
  refine (State.judgeAuto_frame _).comp ?_ (by decide)
  have h : (State.raiseHub .sourceFailed
      { s.modSource src fun m => { m with qual := .unusable, failTimer := none } with
        counters := { s.counters with sourceFailures := s.counters.sourceFailures + 1 } }).SameBut
      [.admission, .granted, .grantSlots, .ports, .links, .queues, .records, .held, .events, .counters, .sel, .budget, .supply] s :=
    (State.raiseHub_frame _ _).comp (by intro x hx; cases x <;> first | exact absurd (by decide) hx | rfl) (by decide)
  split
  · split
    · exact (State.beginChangeover_frame _ _).comp h (by decide)
    · exact (State.enterNoSource_frame _).comp h (by decide)
  · exact h

/-- R3, R4. -/
theorem State.scanSource_frame (src : Source) (s : State) :
    (s.scanSource src).SameBut [.admission, .granted, .grantSlots, .ports, .links, .queues, .records, .held, .events, .counters, .sel, .budget, .supply] s := by
  unfold State.scanSource
  dsimp only
  split
  · exact .refl _ s
  · split
    · split
      · split
        · exact State.becomeUsable_frame src s
        · exact (State.modSource_frame src _ s).weaken (by decide)
      · exact .refl _ s
    · split
      · exact .refl _ s
      · exact (State.modSource_frame src _ s).weaken (by decide)
    · split
      · exact State.sourceFailed_frame src s
      · split
        · split
          · exact .refl _ s
          · split
            · exact State.sourceFailed_frame src s
            · exact (State.modSource_frame src _ s).weaken (by decide)
        · exact (State.modSource_frame src _ s).weaken (by decide)

/-! ### Frame timing -/

/-- R136. -/
theorem State.releaseMark_frame (d : Dest) (s : State) :
    (s.releaseMark d).SameBut [.links, .phases] s := by
  unfold State.releaseMark
  split
  · exact (State.modPhase_frame d _ _).comp
      ((State.postMark_frame _ d s).weaken (by decide)) (by decide)
  · exact .refl _ s

/-- R135. -/
theorem State.releaseTimed_frame (d : Dest) (s : State) :
    (s.releaseTimed d).SameBut [.links, .queues, .counters, .records, .held] s := by
  unfold State.releaseTimed
  refine (State.SameBut.foldl (fun s e => ?_) _ _).comp ((State.modQueues_frame d _ s).weaken (by decide))
    (fun _ hx => hx)
  unfold State.releaseEntry
  split
  · exact (State.modQueues_frame d _ s).weaken (by decide)
  · exact (State.releaseRef_frame _ _).comp ((State.countEndpoint_frame d _ s).weaken (by decide)) (by decide)

/-- R135. -/
theorem State.releaseDest_frame (d : Dest) (s : State) :
    (s.releaseDest d).SameBut [.links, .queues, .counters, .records, .held, .phases] s := by
  unfold State.releaseDest
  exact (State.modPhase_frame d _ _).comp
    ((State.releaseTimed_frame d _).comp
    ((State.releaseMark_frame d s).weaken (by decide)) (by decide)) (by decide)

/-- R127, R135. -/
theorem State.releaseUnreleased_frame (d : Dest) (s : State) :
    (s.releaseUnreleased d).SameBut [.links, .queues, .counters, .records, .held, .phases] s := by
  unfold State.releaseUnreleased
  split
  · exact .refl _ s
  · exact State.releaseDest_frame d s

/-- R127. -/
theorem State.beginFrame_frame (t : Nat) (s : State) :
    (s.beginFrame t).SameBut [.phases, .timing] s := by
  intro x hx; cases x <;> first | exact absurd (by decide) hx | rfl

/-- R127. -/
theorem State.boundaryAt_frame (t : Nat) (s : State) :
    (s.boundaryAt t).SameBut [.admission, .granted, .grantSlots, .ports, .links, .queues, .records, .held, .events, .counters, .sel, .budget, .phases, .timing] s := by
  unfold State.boundaryAt
  refine (State.judgeChange_frame _).comp ((State.SameBut.foldl (m := [.links, .queues, .counters, .records,
    .held, .phases]) (fun s d => ?_) _ _).comp ((State.beginFrame_frame t _).comp
      ((State.SameBut.foldl (fun s d => State.releaseUnreleased_frame d s) _ s).weaken (by decide))
      (by decide)) (by decide)) (by decide)
  unfold State.releaseAtBoundary
  split
  · exact State.releaseUnreleased_frame d s
  · exact .refl _ s

/-- R131. -/
theorem State.openWindow_frame (s : State) :
    (s.openWindow).SameBut [.timing] s := by
  exact State.modTiming_frame _ s

/-- R128 to R133. -/
theorem State.fsyncEdge_frame (s : State) :
    (s.fsyncEdge).SameBut [.admission, .granted, .grantSlots, .ports, .links, .queues, .records, .held, .events, .counters, .sel, .budget, .phases, .timing] s := by
  have ha : ∀ s : State, s.beginAcquiring.SameBut [.admission, .granted, .grantSlots, .ports, .links, .queues, .records, .held, .events, .counters, .sel, .budget, .phases, .timing] s :=
    fun s => (State.modTiming_frame _ s).weaken (by decide)
  have hc : ∀ (w : Window) (s : State), (s.confirmEdge w).SameBut [.admission, .granted, .grantSlots, .ports, .links, .queues, .records, .held, .events, .counters, .sel, .budget, .phases, .timing] s := by
    intro w s
    have hp : s.acceptPeriod.SameBut [.admission, .granted, .grantSlots, .ports, .links, .queues, .records, .held, .events, .counters, .sel, .budget, .phases, .timing] s := by
      unfold State.acceptPeriod
      split
      · exact (State.modTiming_frame _ s).weaken (by decide)
      · exact .refl _ s
    unfold State.confirmEdge State.anchor
    dsimp only
    refine (State.modTiming_frame _ _).comp ?_ (by decide)
    split
    · exact (State.boundaryAt_frame _ _).comp hp (by decide)
    · exact hp
  have ho := (State.openWindow_frame s).weaken (n := [.admission, .granted, .grantSlots, .ports, .links, .queues, .records, .held, .events, .counters, .sel, .budget, .phases, .timing]) (by decide)
  unfold State.fsyncEdge
  dsimp only
  split
  · exact (ha _).comp ho (by decide)
  · refine State.SameBut.comp (m := [.admission, .granted, .grantSlots, .ports, .links, .queues, .records, .held, .events, .counters, .sel, .budget, .phases, .timing]) ?_ ho (by decide)
    unfold State.acquireEdge State.lock State.anchor
    split
    · split
      · dsimp only
        refine (State.raiseHub_frame _ _).comp ((State.modTiming_frame _ _).comp ?_ (by decide)) (by decide)
        split
        · exact (State.modTiming_frame _ _).weaken (by decide)
        · exact (State.boundaryAt_frame _ _).comp ((State.modTiming_frame _ _).weaken (by decide)) (by decide)
      · exact (State.modTiming_frame _ _).weaken (by decide)
    · exact ha _
  · exact (hc _ _).comp ho (by decide)
  · unfold State.syncLost
    refine (State.raiseHub_frame _ _).comp ?_ (by decide)
    refine State.SameBut.comp (m := [.counters]) (b := s.openWindow.beginAcquiring) ?_
      ((ha _).comp ho (by decide)) (by decide)
    intro x hx; cases x <;> first | exact absurd (by decide) hx | rfl
  · unfold State.relock
    exact (State.raiseHub_frame _ _).comp ((hc _ _).comp ((State.modTiming_frame _ _).comp ho (by decide))
      (by decide)) (by decide)
  · exact (ha _).comp ho (by decide)

/-- R132, R133. -/
theorem State.windowClose_frame (s : State) :
    (s.windowClose).SameBut [.timing, .counters, .events] s := by
  have h : ∀ s : State, s.syncLost.SameBut [.counters, .events] s := by
    intro s
    exact (State.raiseHub_frame _ _).comp (by intro x hx; cases x <;> first | exact absurd (by decide) hx | rfl) (by decide)
  unfold State.windowClose
  split
  · exact (h _).comp ((State.modTiming_frame _ s).weaken (by decide)) (by decide)
  · split
    · exact (h _).comp ((State.modTiming_frame _ s).weaken (by decide)) (by decide)
    · exact (State.modTiming_frame _ s).weaken (by decide)
  · exact .refl _ s

/-! ### Routing -/

/-- R115. -/
theorem State.joinQueue_frame (d : Dest) (c : QueueClass) (e : QEntry) (s : State) :
    (s.joinQueue d c e).SameBut [.queues, .records, .counters] s := by
  unfold State.joinQueue
  split
  · split
    · exact (State.addRef_frame _ _).comp ((State.modQueues_frame d _ s).weaken (by decide)) (by decide)
    · exact (State.countEndpoint_frame d _ s).weaken (by decide)
  · split
    · exact (State.addRef_frame _ _).comp ((State.modQueues_frame d _ s).weaken (by decide)) (by decide)
    · exact (State.countEndpoint_frame d _ s).weaken (by decide)

/-- R115, R137, R138. -/
theorem State.place_frame (i : Nat) (d : Dest) (x : Placement) (s : State) :
    (s.place i d x).SameBut [.queues, .records, .counters] s := by
  unfold State.place State.placeLate State.joinTimed
  split
  · exact State.joinQueue_frame d _ _ s
  · split
    · split
      · exact State.joinQueue_frame d _ _ s
      · exact (State.countEndpoint_frame d _ s).weaken (by decide)
    · split
      · exact (State.addRef_frame _ _).comp ((State.modQueues_frame d _ s).weaken (by decide)) (by decide)
      · exact (State.countEndpoint_frame d _ s).weaken (by decide)

/-- R105 to R115. -/
theorem State.routeData_frame (d : Dest) (m : Message) (s : State) :
    (s.routeData d m).SameBut [.queues, .records, .counters, .held, .links, .events] s := by
  have hn : ∀ s : State, (s.noBuffer d).SameBut [.queues, .records, .counters, .held, .links, .events] s := by
    intro s
    unfold State.noBuffer
    dsimp only
    split
    · exact (State.countEndpoint_frame d _ s).weaken (by decide)
    · exact (State.enterHeld_frame _).comp ((State.countEndpoint_frame d _ s).weaken (by decide)) (by decide)
  unfold State.routeData
  split
  · exact (State.countEndpoint_frame d _ s).weaken (by decide)
  · have ht : ∀ (x : Decision) (ds : List Dest) (s : State),
        (s.takeAndPlace d m x ds).SameBut [.queues, .records, .counters, .held, .links, .events] s := by
      intro x ds s
      unfold State.takeAndPlace
      split
      · exact .refl _ _
      · split
        · exact hn _
        · split
          · exact hn _
          · unfold State.placeAll State.take
            exact (State.freeIfUnused_frame _ _).comp ((State.SameBut.foldl
              (fun s d => State.place_frame _ d _ s) _ _).comp ((State.judgeTake_frame _).comp
                (by intro x hx; cases x <;> first | exact absurd (by decide) hx | rfl) (by decide)) (by decide)) (by decide)
    exact (ht _ _ _).comp ((State.SameBut.foldl (m := [.counters])
      (fun s d => State.countEndpoint_frame d (EndpointCounters.addLinkDown 1) s) _ s).weaken (by decide))
      (fun _ hx => hx)

/-! ### Links and the line of U -/

/-- R143. -/
theorem State.requestArrives_frame (r : Request) (s : State) :
    (s.requestArrives r).SameBut [.mgmt, .events, .counters] s := by
  unfold State.requestArrives
  split
  · exact (State.modMgmt_frame _ s).weaken (by decide)
  · exact (State.raiseHub_frame _ _).comp (by intro x hx; cases x <;> first | exact absurd (by decide) hx | rfl) (by decide)

/-- R88 to R91. -/
theorem State.frameReception_frame (d : Dest) (b : List Byte) (s : State) :
    (s.frameReception d b).SameBut [.admission, .granted, .grantSlots, .ports, .links, .queues, .records, .held, .events, .counters, .mgmt] s := by
  unfold State.frameReception
  split
  · unfold State.demandAtLeaving
    split
    · split
      · exact (State.demand_frame _ _ _).comp ((State.countEndpoint_frame _ _ s).weaken (by decide)) (by decide)
      · exact .refl _ s
    · exact .refl _ s
  · unfold State.receive
    split
    · exact (State.countEndpoint_frame d _ s).weaken (by decide)
    · exact (State.countEndpoint_frame d _ s).weaken (by decide)
    · next k m _ =>
      have hw : ((s.countEndpoint d EndpointCounters.addGood).wake d).SameBut [.admission, .granted, .grantSlots, .ports, .links, .queues, .records, .held, .events, .counters, .mgmt] s := by
        unfold State.wake
        split
        · exact (State.linkUp_frame d _).comp ((State.countEndpoint_frame d _ s).weaken (by decide)) (by decide)
        · exact (State.countEndpoint_frame d _ s).weaken (by decide)
      unfold State.handOn
      split
      · exact (State.routeData_frame _ _ _).comp hw (by decide)
      · exact (State.demand_frame _ _ _).comp hw (by decide)
      · exact (State.modLink_frame _ _ _).comp hw (by decide)
      · exact (State.modLink_frame _ _ _).comp hw (by decide)
      · exact (State.requestArrives_frame _ _).comp hw (by decide)
      · exact hw

/-- R86. -/
theorem State.strayStart_frame (d : Dest) (s : State) :
    (s.strayStart d).SameBut [.counters] s := by
  unfold State.strayStart
  split
  · exact .refl _ s
  · exact State.countEndpoint_frame d _ s

/-- R8, R151: a reset keeps the queue, the clock, the free values used and the pins. -/
theorem State.hubReset_frame (s : State) :
    (s.hubReset).SameBut [.supply, .busVolts, .tables, .sel, .budget, .admission, .granted, .grantSlots, .ports, .links, .queues, .records, .held, .phases, .timing, .mgmt, .events, .counters] s := by
  have h : (State.afterReset s.pending s.now s.draws s.resetPin s.ecutPin).SameBut
      [.supply, .busVolts, .tables, .sel, .budget, .admission, .granted, .grantSlots, .ports, .links, .queues, .records, .held, .phases, .timing, .mgmt, .events, .counters] s := by
    intro x hx; cases x <;> first | exact absurd (by decide) hx | rfl
  unfold State.hubReset
  dsimp only
  split
  · exact (State.enterCut_frame _).comp h (by decide)
  · exact h

/-! ### Notices and traffic -/

/-- R158. -/
theorem State.placeNotice_frame (s : State) :
    (s.placeNotice).SameBut [.mgmt, .events] s := by
  unfold State.placeNotice
  split
  · intro x hx; cases x <;> first | exact absurd (by decide) hx | rfl
  · exact .refl _ s

/-- R123. -/
theorem State.portsToWait_frame (s : State) :
    (s.portsToWait).SameBut [.links] s := by
  intro x hx; cases x <;> first | exact absurd (by decide) hx | rfl

/-- R122. -/
theorem State.clearTraffic_frame (s : State) :
    (s.clearTraffic).SameBut [.links, .queues, .records, .mgmt] s := by
  intro x hx; cases x <;> first | exact absurd (by decide) hx | rfl

/-- R122, R123. -/
theorem State.resetTraffic_frame (s : State) :
    (s.resetTraffic).SameBut [.links, .queues, .records, .mgmt, .held, .events] s := by
  unfold State.resetTraffic
  dsimp only
  have h : ({ s.clearTraffic with held := false }.postFlowAll .resume).portsToWait.SameBut
      [.links, .queues, .records, .mgmt, .held, .events] s := by
    refine (State.portsToWait_frame _).comp ((State.postFlowAll_frame _ _).comp
      (State.SameBut.comp (m := [.held]) (b := s.clearTraffic) ?_
        ((State.clearTraffic_frame s).weaken (by decide)) (by decide)) (by decide)) (by decide)
    generalize s.clearTraffic = a
    intro x hx; cases x <;> first | exact absurd (by decide) hx | rfl
  split
  · exact (State.noticeLost_frame _).comp h (by decide)
  · exact h

end Sys2Proof.Machine
end

