-- ==== Sys2Proof/Laws/Ops.lean ====
section
/-! SUPPORT. What each shared operation does, said once: the event items, the pending slots, the pool, the passage
of a link to DOWN, a frame at that moment, transmit selection, and the execution of a request. Laws/Frame.lean says what each leaves. -/

namespace Sys2Proof.Machine

/-! ### Event items -/

theorem Events.marks_withMarks (e : Events) (i j : Item) (m : Marks) :
    (e.withMarks i m).marks j = if j = i then m else e.marks j := by
  cases i <;> cases j <;> simp [Events.withMarks, Events.marks, PerHub.get_set, PerPort.get_set]

@[simp] theorem Events.marks_mapMarks (e : Events) (f : Item → Marks → Marks) (i : Item) :
    (e.mapMarks f).marks i = f i (e.marks i) := by
  cases i <;> simp [Events.mapMarks, Events.marks]

@[simp] theorem State.requestNotice_marks (s : State) (i : Item) :
    s.requestNotice.events.marks i = s.events.marks i := by
  unfold State.requestNotice
  split <;> cases i <;> rfl

/-- R156: the marks of every item after a raise. -/
theorem State.raise_marks (s : State) (i j : Item) :
    (s.raise i).events.marks j =
      if j = i then ((s.events.marks i).afterRaise (s.outstanding i)).1 else s.events.marks j := by
  unfold State.raise
  simp only []
  split <;> simp [Events.marks_withMarks]

/-- R156: an item that is raised is set. -/
@[simp] theorem State.raise_set (s : State) (i : Item) : ((s.raise i).events.marks i).set = true := by
  rw [State.raise_marks, if_pos rfl]
  unfold Marks.afterRaise
  split
  · rfl
  · split <;> simp_all

/-- R156: a raise clears no item. -/
theorem State.raise_set_of_set (s : State) (i j : Item) (h : (s.events.marks j).set = true) :
    ((s.raise i).events.marks j).set = true := by
  by_cases e : j = i
  · subst e; exact s.raise_set j
  · rw [State.raise_marks, if_neg e]; exact h

/-! ### Pending slots -/

/-- R97: what posting a HOLD or RESUME does to every link. -/
theorem State.postFlow_link (s : State) (k : FlowKind) (d x : Dest) :
    (s.postFlow k d).links.get x =
      if x = d ∧ s.linkState d = .up then { s.links.get x with flowSlot := some k } else s.links.get x := by
  unfold State.postFlow State.modLink
  by_cases h : s.linkState d = .up
  · by_cases e : x = d
    · subst e; simp [h]
    · simp [h, e, PerDest.get_set]
  · simp [h]

/-- R98: what posting a MARK does to every link. -/
theorem State.postMark_link (s : State) (m : MarkMsg) (d x : Dest) :
    (s.postMark m d).links.get x =
      if x = d ∧ s.linkState d ≠ .down then { s.links.get x with markSlot := some m } else s.links.get x := by
  unfold State.postMark State.modLink
  by_cases h : s.linkState d = .down
  · simp [h]
  · by_cases e : x = d
    · subst e; simp [h]
    · simp [h, e, PerDest.get_set]

/-- R59: what posting a GRANT does to every slot. -/
theorem State.postGrant_slot (s : State) (p x : Port) (st : GrantStatus) :
    (s.postGrant p st).grantSlots.get x =
      if x = p ∧ s.linkState (.port p) ≠ .down then
        some ⟨(s.ports.get p).grant, st, ((s.classOf p).map (·.tolerance)).getD 0⟩
      else s.grantSlots.get x := by
  unfold State.postGrant State.modGrantSlot
  by_cases h : s.linkState (.port p) = .down
  · simp [h]
  · by_cases e : x = p
    · subst e; simp [h]
    · simp [h, e, PerPort.get_set]

/-! ### Port states -/

/-- R62: what taking a state does to every port. -/
theorem State.setPortState_port (s : State) (p x : Port) (st : PortState) :
    (s.setPortState p st).ports.get x =
      if x = p then { s.ports.get x with state := st } else s.ports.get x := by
  unfold State.setPortState
  by_cases h : (s.ports.get p).state = st
  · by_cases e : x = p
    · subst e; subst h; simp
    · simp [h, e]
  · have k : ∀ (y : State) (i : Item), (y.raise i).ports = y.ports := fun y i => y.raise_frame i .ports (by decide)
    by_cases e : x = p
    · subst e; simp [h, k]
    · simp [h, k, e, PerPort.get_set]

/-! ### The pool -/

/-- R116: a record's count after a reference is added. -/
theorem State.addRef_record (s : State) (i : Nat) (r : Record) (h : s.record i = some r) :
    (s.addRef i).record i = some { r with refs := r.refs + 1 } := by
  have hi : i < s.records.length := by
    by_contra k
    simp [State.record, List.getElem?_eq_none (Nat.le_of_not_lt k)] at h
  unfold State.addRef
  rw [h]
  simp [State.record, hi]

/-- R120: the held state after a take. -/
theorem State.judgeTake_held (s : State) :
    s.judgeTake.held = (s.held || decide (s.freeCells ≤ s.tables.holdLevel)) := by
  have k : ∀ y : State, ∀ fk, (y.postFlowAll fk).held = y.held := fun y fk => y.postFlowAll_frame fk .held (by decide)
  have k' : ∀ (y : State) (i : Item), (y.raise i).held = y.held := fun y i => y.raise_frame i .held (by decide)
  unfold State.judgeTake State.enterHeld State.raiseHub
  by_cases h : s.held = true <;> by_cases g : s.freeCells ≤ s.tables.holdLevel <;> simp [h, g, k, k']

/-- R121: the held state after a freeing. -/
theorem State.judgeFree_held (s : State) :
    s.judgeFree.held = (s.held && decide (s.freeCells < s.resumeLevel)) := by
  have k : ∀ y : State, ∀ fk, (y.postFlowAll fk).held = y.held := fun y fk => y.postFlowAll_frame fk .held (by decide)
  unfold State.judgeFree State.leaveHeld
  by_cases h : s.held = true <;> by_cases g : s.resumeLevel ≤ s.freeCells <;>
    simp [h, g, k, Nat.not_le.mp, Nat.not_lt.mpr]

/-! ### Links that are DOWN -/

/-- What a fold of operations that leave a DOWN link alone does to it. -/
theorem State.foldl_link_of_down {α : Type} {f : State → α → State} {x : Dest}
    (h : ∀ s a, s.linkState x = .down → (f s a).links.get x = s.links.get x) (l : List α) (s : State)
    (hs : s.linkState x = .down) : (l.foldl f s).links.get x = s.links.get x := by
  induction l generalizing s with
  | nil => rfl
  | cons a l ih =>
    have e := h s a hs
    exact (ih (f s a) ((congrArg Link.state e).trans hs)).trans e

/-- R97: a HOLD or RESUME to every link leaves a DOWN link alone. -/
theorem State.postFlowAll_link_of_down (s : State) (k : FlowKind) (x : Dest) (hs : s.linkState x = .down) :
    (s.postFlowAll k).links.get x = s.links.get x := by
  refine State.foldl_link_of_down (fun s d h => ?_) _ s hs
  rw [State.postFlow_link, if_neg]
  rintro ⟨rfl, e⟩
  rw [h] at e
  cases e

/-- R116, R121: a release of a reference leaves a DOWN link alone. -/
theorem State.releaseRef_link_of_down (s : State) (i : Nat) (x : Dest) (hs : s.linkState x = .down) :
    (s.releaseRef i).links.get x = s.links.get x := by
  have j : ∀ y : State, y.linkState x = .down → y.judgeFree.links.get x = y.links.get x := by
    intro y hy
    unfold State.judgeFree
    split
    · exact State.postFlowAll_link_of_down { y with held := false } .resume x hy
    · rfl
  unfold State.releaseRef
  split
  · rfl
  · unfold State.freeIfUnused
    split
    · rfl
    · split
      · exact j _ hs
      · rfl

/-- R92, R118: what the link that goes DOWN becomes. -/
theorem State.flushLink_link (d : Dest) (s : State) : (s.flushLink d).links.get d = Link.reset := by
  have e : ∀ y : State, y.links.get d = Link.reset → ∀ is, (y.releaseRefs is).links.get d = Link.reset := fun y hy is =>
    (State.foldl_link_of_down (fun s i h => s.releaseRef_link_of_down i d h) is y (congrArg Link.state hy)).trans hy
  exact e _ (PerDest.get_set_self _ _ _) _

/-- R92, R118: the drops that a passage to DOWN counts, at that destination and at no other. -/
theorem State.flushLink_endpoint (d x : Dest) (s : State) :
    (s.flushLink d).counters.endpoint.get x =
      if x = d then (s.counters.endpoint.get d).addLinkDown (s.refsAt d).length else s.counters.endpoint.get x := by
  have e : (s.flushLink d).counters = (s.countEndpoint d (EndpointCounters.addLinkDown (s.refsAt d).length)).counters :=
    State.releaseRefs_frame (s.refsAt d) _ .counters (by decide)
  rw [e]
  exact PerDest.get_set _ _ _ _

/-- R92: the drops that a port link entering DOWN counts. -/
theorem State.portLinkDown_endpoint (p : Port) (x : Dest) (s : State) (h : s.linkState (.port p) ≠ .down) :
    (s.portLinkDown p).counters.endpoint.get x =
      if x = .port p then (s.counters.endpoint.get x).addLinkDown (s.refsAt x).length
      else s.counters.endpoint.get x := by
  rw [State.portLinkDown, if_neg h]
  refine (State.flushLink_endpoint (.port p) x _).trans ?_
  by_cases e : x = .port p
  · subst e; rfl
  · rw [if_neg e, if_neg e]; rfl

/-- R92: a port link that is DOWN already is left as it is. -/
theorem State.portLinkDown_of_down (p : Port) (s : State) (h : s.linkState (.port p) = .down) :
    s.portLinkDown p = s :=
  if_pos h

/-- R92: a port link that enters DOWN notes the moment (log 34). -/
theorem State.portLinkDown_link (p : Port) (s : State) (h : s.linkState (.port p) ≠ .down) :
    (s.portLinkDown p).links.get (.port p) = { Link.reset with downAt := some s.now } := by
  rw [State.portLinkDown, if_neg h, State.modLink]
  simp [State.flushLink_link]

/-- R92: the link is DOWN afterwards. -/
@[simp] theorem State.portLinkDown_linkState (p : Port) (s : State) :
    (s.portLinkDown p).linkState (.port p) = .down := by
  by_cases h : s.linkState (.port p) = .down
  · rw [State.portLinkDown_of_down p s h, h]
  · exact congrArg Link.state (State.portLinkDown_link p s h)

/-- R92: a frame on a link that is DOWN, and did not become so at this moment, is discarded. -/
theorem State.demandAtLeaving_of_earlier (link : Dest) (v : Verdict) (s : State) (h : s.downNow link = false) :
    s.demandAtLeaving link v = s := by
  unfold State.demandAtLeaving
  split
  · rw [h]; rfl
  · rfl

/-- R53: the DEMAND that falls together with the leaving is received good and goes to the admission unit. -/
theorem State.demandAtLeaving_of_now (p : Port) (m : Message) (s : State) (h : s.downNow (.port p) = true) :
    s.demandAtLeaving (.port p) (.good .demand m) =
      (s.countEndpoint (.port p) EndpointCounters.addGood).demand p (wordAt m.payload 0) :=
  if_pos h

/-! ### Windows and boundaries -/

/-- R131: where no awaited window is reached, none opens. -/
theorem State.openWindow_of_fixed (s : State)
    (h : s.timing.window.map (Window.openAt s.now s.tables.timing.tolerance) = s.timing.window) : s.openWindow = s := by
  show { s with timing := { s.timing with
    window := s.timing.window.map (Window.openAt s.now s.tables.timing.tolerance) } } = s
  rw [h]

/-- R131: a window that is open stays as it is. -/
theorem State.openWindow_of_open (s : State) (tp tol : Nat) (h : s.timing.window = some ⟨tp, some tol⟩) :
    s.openWindow = s :=
  s.openWindow_of_fixed (by rw [h]; rfl)

/-- R131: with no window awaited none opens. -/
theorem State.openWindow_of_none (s : State) (h : s.timing.window = none) : s.openWindow = s :=
  s.openWindow_of_fixed (by rw [h]; rfl)

/-- R127: a destination that has been released in the frame is not released again. -/
theorem State.releaseUnreleased_of_released (s : State) (d : Dest) (h : (s.phases.get d).released = true) :
    s.releaseUnreleased d = s :=
  if_pos h

/-- R127: a catch-up release. -/
theorem State.releaseUnreleased_of_unreleased (s : State) (d : Dest) (h : (s.phases.get d).released = false) :
    s.releaseUnreleased d = s.releaseDest d :=
  if_neg (by rw [h]; decide)

/-! ### Transmit selection -/

/-- R99: a busy transmitter goes on. -/
theorem State.select_of_busy (s : State) (d : Dest) (h : (s.links.get d).tx.isSome = true) : s.select d = s := by
  unfold State.select
  split
  · simp_all
  · rfl

/-- R99: an idle transmitter with no offer stays idle. -/
theorem State.select_of_no_offer (s : State) (d : Dest) (h : s.firstOffer d = none) : s.select d = s := by
  unfold State.select
  split
  · simp_all
  · rfl

/-- R99: a selection begins the first offer of an idle transmitter. -/
theorem State.select_of_offer (s : State) (d : Dest) (src : TxSource) (h : (s.links.get d).tx = none)
    (k : s.firstOffer d = some src) : s.select d = s.begin d src := by
  simp [State.select, h, k]

/-- R99: where no idle transmitter is offered a message, selection changes nothing. -/
theorem State.selectAll_of_settled (s : State) (h : s.Settled) : s.selectAll = s := by
  have : ∀ d, s.select d = s := fun d => by
    cases k : (s.links.get d).tx with
    | none => exact s.select_of_no_offer d (h d k)
    | some t => exact s.select_of_busy d (by simp [k])
  unfold State.selectAll
  generalize Dest.all = l
  induction l with
  | nil => rfl
  | cons d l ih => simp [this d, ih]

/-! ### Requests -/

/-- R144, R146: a request that may begin and has the length of its code takes the effect of its own row. -/
theorem State.serve_of_executes {s : State} {r : Request} {rest : List Request} {row : Instr}
    {act : Request → State → State} (h : s.Executes r rest) (hr : r.row = row) (hl : r.lengthOk = true) :
    event (State.serve row act) s = .next (act r (s.popped rest)).selectAll := by
  obtain ⟨h1, h2, h3, h4⟩ := h
  have hb : s.mayBegin r = true := by
    unfold State.mayBegin
    rcases h4 with h4 | h4 <;> simp [h3, h4, Config.laneSize]
  simp [event, h1, State.serve, h2, hr, hb, hl, State.popped, State.modMgmt]

/-- R146: a request that may begin and has another length is answered BAD_LENGTH. -/
theorem State.serve_of_bad_length {s : State} {r : Request} {rest : List Request} {row : Instr}
    {act : Request → State → State} (h : s.Executes r rest) (hr : r.row = row) (hl : r.lengthOk = false) :
    event (State.serve row act) s = .next ((s.popped rest).placeResponse r.code [4] none).selectAll := by
  obtain ⟨h1, h2, h3, h4⟩ := h
  have hb : s.mayBegin r = true := by
    unfold State.mayBegin
    rcases h4 with h4 | h4 <;> simp [h3, h4, Config.laneSize]
  simp [event, h1, State.serve, h2, hr, hb, hl, State.popped, State.modMgmt, State.reply, Status.bytes, Status.code,
    byte]

/-- R144: a request that may not begin waits. -/
theorem State.serve_of_waiting {s : State} {r : Request} {rest : List Request} {row : Instr}
    {act : Request → State → State} (h : s.mgmt.input = r :: rest) (hb : s.mayBegin r = false) :
    s.serve row act = s := by
  simp [State.serve, h, hb]

end Sys2Proof.Machine
end

