-- ==== Sys2Proof/WellFormed.lean ====
section
/-! DEFINITION. When a command is well formed. Only a scan's order can be ill formed: it then names a user
of the scan twice. -/

namespace Sys2Proof

/-- A command that means one thing: a scan is taken once by each of its users (R1). The machine reads an
order that names a user again as if the second naming were not there. -/
def Instr.wellFormed : Instr → Bool
  | .scanCompletion _ order => decide order.Nodup
  | _ => true

end Sys2Proof
end

