-- ==== Sys2Proof/Tests/Slice0.lean ====
section
/-! SUPPORT. Tests of single steps against values of the manual, and a witness for the hypotheses of every statement,
clause by clause. The expected value of each test is the manual's, in the section that its comment names. -/

namespace Sys2Proof.Tests

open Sys2Proof Sys2Proof.Machine

/-! ### Sample states -/

/-- A hub that is OPERATIONAL on LINE with both sources USABLE and a budget, and a power unit on P1 with a place on
the granted list. -/
def on (u : PortUnit) : State :=
  { State.reset with
    mgmt := { Mgmt.reset with operational := true, lineMark := true, battMark := true, budgetMark := true }
    sel := { Selector.reset with state := .active .line }
    supply := PerSource.rep { SourceMonitor.reset with ring := List.replicate 8 14420, qual := .usable }
    budget := { Budget.reset with b := 764 }
    granted := [.p1]
    ports := PerPort.rep PortUnit.reset |>.set .p1 u
    links := PerDest.rep Link.reset |>.set (.port .p1) { Link.reset with state := .up } }

/-- A power unit of class 0 with a grant of 60 dW in a state. -/
def unit (st : PortState) : PortUnit :=
  { PortUnit.reset with
    state := st, stable := .attached, present := .attached, eff := some ⟨.c0, false⟩, grant := 60
    stepTimer := if st = .ramp then some 4000 else none
    overdrawTimer := if st = .limit then some 100000 else none }

/-- A hub with no grant whose P1 stands in a state with an effective class. -/
def idle (u : PortUnit) : State :=
  { on PortUnit.reset with
    granted := [], ports := PerPort.rep PortUnit.reset |>.set .p1 { u with grant := 0 }
    links := PerDest.rep Link.reset }

/-- A hub whose P1 waits with an entry. -/
def waits (e : Entry) : State := { idle (unit .waiting) with admission := [e] }

/-- An entry of P1 for 60 dW. -/
def entry (reason : Reason) (wait holdOff : Option Nat) : Entry := ⟨.p1, reason, 60, wait, holdOff⟩

/-- The state with U UP and a request at the head of the input queue. -/
def asked (s : State) (code : Byte) (payload : List Byte) : State :=
  { s with
    links := s.links.set .u { Link.reset with state := .up }
    mgmt := { s.mgmt with input := [⟨code, payload⟩] } }

/-- A request may begin in such a state. -/
theorem asked_executes (s : State) (code : Byte) (payload : List Byte) (h : s.resetPin = false)
    (k : s.mgmt.inHand = .nothing) (l : s.mgmt.lane.length < 4) :
    (asked s code payload).Executes ⟨code, payload⟩ [] :=
  ⟨h, rfl, k, .inl l⟩

/-! ### The invariants, decided over the ports, the destinations and the sources -/

/-- Powered, decided. -/
def powered (s : State) : Bool :=
  decide s.granted.Nodup && decide (s.admission.map (·.port)).Nodup &&
    Port.all.all (fun p => decide (p ∈ s.granted ↔ (s.ports.get p).state.holdsGrant = true)) &&
    Port.all.all (fun p => decide (p ∉ s.granted → (s.ports.get p).grant = 0)) &&
    s.admission.all (fun e => if e.reason = .increase then (s.ports.get e.port).state.closed
      else decide ((s.ports.get e.port).state = .waiting)) &&
    Port.all.all (fun p => decide ((s.ports.get p).state.classed = true → (s.ports.get p).eff.isSome = true)) &&
    Port.all.all (fun p => decide ((s.ports.get p).state = .paused → s.sel.state.target ≠ none)) &&
    decide (s.sel.state.feeds = false ∨ s.mgmt.operational = false → s.granted = [])

theorem powered_sound {s : State} (h : powered s = true) : s.Powered := by
  simp only [powered, Bool.and_eq_true, List.all_eq_true, decide_eq_true_eq] at h
  obtain ⟨⟨⟨⟨⟨⟨⟨h1, h2⟩, h3⟩, h4⟩, h5⟩, h6⟩, h7⟩, h8⟩ := h
  refine ⟨h1, h2, fun p => h3 p p.mem_all, fun p => h4 p p.mem_all, fun e he => ?_, fun p => h6 p p.mem_all,
    fun p => h7 p p.mem_all, h8⟩
  have := h5 e he
  unfold State.EntryFits
  split <;> simp_all

/-- LinksFollow, decided. -/
def linksFollow (s : State) : Bool :=
  Port.all.all fun p => decide (s.linkState (.port p) = .down ↔ (s.ports.get p).state.closed = false)

theorem linksFollow_sound {s : State} (h : linksFollow s = true) : s.LinksFollow := by
  simp only [linksFollow, List.all_eq_true, decide_eq_true_eq] at h
  exact fun p => h p p.mem_all

/-- Settled, decided. -/
def settled (s : State) : Bool :=
  Dest.all.all fun d => decide ((s.links.get d).tx = none → s.firstOffer d = none)

theorem settled_sound {s : State} (h : settled s = true) : s.Settled := by
  simp only [settled, List.all_eq_true, decide_eq_true_eq] at h
  exact fun d => h d d.mem_all

/-- TimersPlaced, decided. -/
def timersPlaced (s : State) : Bool :=
  [Source.line, .batt].all (fun q =>
    decide ((s.supply.get q).qualifyTimer.isSome = true ↔ (s.supply.get q).qual = .qualifying) &&
    decide ((s.supply.get q).failTimer.isSome = true → (s.supply.get q).qual = .usable)) &&
  decide (s.sel.deadTimer.isSome = true ↔ s.sel.state.target ≠ none) &&
  decide (s.sel.autoTimer.isSome = true → s.sel.state.isActive = true) &&
  decide (s.sel.change.isSome = true → s.sel.state.isActive = true) &&
  decide (s.budget.shedTimer.isSome = true ↔ s.budget.overcommit = .timing) &&
  Port.all.all (fun p =>
    decide ((s.ports.get p).stepTimer.isSome = true ↔ (s.ports.get p).state = .ramp) &&
    decide ((s.ports.get p).overdrawTimer.isSome = true ↔ (s.ports.get p).state = .limit) &&
    decide ((s.ports.get p).retryTimer.isSome = true ↔ (s.ports.get p).state = .tripped) &&
    decide ((s.ports.get p).cleanTimer.isSome = true → (s.ports.get p).state = .on))

theorem timersPlaced_sound {s : State} (h : timersPlaced s = true) : s.TimersPlaced := by
  simp only [timersPlaced, Bool.and_eq_true, List.all_eq_true, decide_eq_true_eq] at h
  obtain ⟨⟨⟨⟨⟨h1, h2⟩, h3⟩, h4⟩, h5⟩, h6⟩ := h
  refine ⟨fun src => h1 src (by cases src <;> decide), ⟨h2, h3, h4⟩, h5, fun p => ?_⟩
  obtain ⟨⟨⟨a, b⟩, c⟩, d⟩ := h6 p p.mem_all
  exact ⟨a, b, c, d⟩

/-! ### Well-formedness and the wire -/

/-- R1: the order of a scan's users, each named at most once. -/
theorem test_scan_order_well_formed :
    (Instr.scanCompletion ⟨0, 0, 0, PerPort.rep 0, PerPort.rep 0⟩ [.budget, .detect .p1]).wellFormed = true := by
  decide

/-- A user named twice is refused. -/
theorem test_scan_order_ill_formed :
    (Instr.scanCompletion ⟨0, 0, 0, PerPort.rep 0, PerPort.rep 0⟩ [.budget, .budget]).wellFormed = false := by
  decide

/-- No row of the opcode table gives bits. -/
theorem test_no_word_decodes : decodeTableWord 8 0 = none := rfl

/-- R87: the published check value of this polynomial and start value, over the digits 1 to 9. -/
theorem test_crc_check_value :
    crc [0x31, 0x32, 0x33, 0x34, 0x35, 0x36, 0x37, 0x38, 0x39] = 0x29B1#16 := by
  decide +kernel

/-- R153: the bytes of a DEMAND for 300 dW before its check: kind 2, a payload of two bytes. -/
theorem test_demand_bytes :
    messageBytes .demand ⟨false, false, false, 0, 0, 0, be16 300⟩ = [0x20, 0, 0, 0, 2, 1, 44] := by decide

/-- R153: a TIMED, URGENT DATA message from U to port 6, channel 20, target frame 119. -/
theorem test_data_bytes :
    messageBytes .data ⟨true, true, false, 6, 20, 119, []⟩ = [0x1C, 0x60, 20, 119, 0] := by decide

/-! ### The budget (chapter 2, "Budget Cases at and Between Curve Points" and "A Falling Segment on LINE") -/

/-- The BATT record of the cases. -/
def plate (limit : Nat) : SourceRecord :=
  { SourceRecord.reset with
    rated := 1500, limit := limit, curve := [⟨11000, 0⟩, ⟨12000, 40⟩, ⟨13500, 85⟩, ⟨14800, 100⟩] }

theorem test_budget_case_a : Budget.reset.compute (plate 10000) 14420 620 50 =
    { Budget.reset with d10 := 956, cr := 1434, ci := 1442, c := 1434, b := 764 } := by decide

theorem test_budget_case_b : Budget.reset.compute (plate 10000) 10800 620 50 =
    { Budget.reset with d10 := 0, cr := 0, ci := 1080, c := 0, b := 0 } := by decide

theorem test_budget_case_c : Budget.reset.compute (plate 10000) 12000 620 50 =
    { Budget.reset with d10 := 400, cr := 600, ci := 1200, c := 600, b := 0 } := by decide

theorem test_budget_case_d : Budget.reset.compute
    { SourceRecord.reset with rated := 3000, limit := 12000, curve := [⟨22000, 50⟩, ⟨28000, 100⟩, ⟨32000, 80⟩] }
    29310 620 50 = { Budget.reset with d10 := 934, cr := 2802, ci := 3517, c := 2802, b := 2132 } := by decide

theorem test_budget_case_e : Budget.reset.compute (plate 8000) 14420 620 50 =
    { Budget.reset with d10 := 956, cr := 1434, ci := 1153, c := 1153, b := 483 } := by decide

/-! ### Admission (chapter 3, the two worked examples) -/

/-- A class record of the examples. -/
def record (default idle max priority waitLimit : Nat) (sheddable : Bool) : ClassRecord :=
  { ClassRecord.reset with
    defaultDemand := default, idleDraw := idle, maxDemand := max, priority := priority, waitLimit := waitLimit,
    sheddable := sheddable }

/-- A unit in ON with a class and a grant. -/
def running (c : ClassNo) (grant : Nat) : PortUnit := { unit .on with eff := some ⟨c, false⟩, grant := grant }

/-- The lists as they stand at the start of the first example, with the prompter on P5 just classified. -/
def preemption : State :=
  { on PortUnit.reset with
    tables := { Tables.reset with
      cls := ⟨record 180 60 250 3 0 false, record 120 40 200 3 0 false, record 240 100 400 2 0 true,
        record 200 0 600 0 0 true, record 150 50 200 1 0 true, record 10 10 300 0 30 true,
        ClassRecord.reset, ClassRecord.reset⟩ }
    granted := [.p1, .p3, .p2, .p4]
    ports := { PerPort.rep PortUnit.reset with
      p1 := running .c0 180, p2 := running .c2 240, p3 := running .c1 120, p4 := running .c3 200
      p5 := { unit .waiting with eff := some ⟨.c4, false⟩, grant := 0 } }
    links := ⟨Link.reset, PerPort.rep { Link.reset with state := .up }⟩
    admission := [⟨.p5, .attach, 150, none, none⟩] }

/-- The lists after the evaluation that grants P5. -/
theorem test_preemption_lists : preemption.evaluate.granted = [.p1, .p3, .p2, .p5] ∧
    preemption.evaluate.admission = [⟨.p4, .shed, 200, none, some 5000000⟩] ∧ preemption.evaluate.free = 74 := by
  decide +kernel

/-- The states of P4 and P5 after it, and P5's GRANT. -/
theorem test_preemption_ports : (preemption.evaluate.ports.get .p4).state = .waiting ∧
    (preemption.evaluate.ports.get .p5).state = .ramp ∧
    preemption.evaluate.grantSlots.get .p5 = some ⟨150, .on, 20⟩ := by decide +kernel

/-- The lists of the second example: B is 1000, and a lens of priority 3 on P3 asks for 500. -/
def stopsEarly : State :=
  { on PortUnit.reset with
    budget := { Budget.reset with b := 1000 }
    tables := { Tables.reset with
      cls := { PerClass.rep ClassRecord.reset with
        c0 := record 0 0 1200 3 0 false, c1 := record 0 0 1200 1 0 true, c2 := record 0 0 1200 0 0 true } }
    granted := [.p1, .p7, .p4, .p8, .p6]
    ports := { PerPort.rep PortUnit.reset with
      p1 := running .c0 200, p7 := running .c1 150, p4 := running .c2 120, p8 := running .c1 100
      p6 := running .c2 300, p3 := { unit .waiting with grant := 0 } }
    admission := [⟨.p3, .attach, 500, none, none⟩] }

theorem test_preemption_stops_early : stopsEarly.evaluate.granted = [.p1, .p7, .p8, .p3] ∧
    stopsEarly.evaluate.admission.map (·.port) = [.p6, .p4] ∧ stopsEarly.evaluate.free = 50 := by decide +kernel

/-! ### Port power (chapter 4, "Over-Draw, Recovery and a Trip") -/

/-- The limit lies between two samples of the current. -/
theorem test_overdraw_limit : portPower 14420 2000 = 288 ∧ portPower 14420 2010 = 289 ∧ toleranceOf 240 20 = 48 := by
  decide

/-- R68: the bands of the sense value. -/
theorem test_sense_bands : readSense 299 = .short ∧ readSense 300 = .cls .c0 false ∧
    readSense 3899 = .cls .c7 false ∧ readSense 3900 = .open := by decide

/-! ### Routing (chapter 6, "A Route Table for a Field Camera") -/

/-- A destination set. -/
def dests (l : List Dest) : PerDest Bool := PerDest.ofFn fun d => decide (d ∈ l)

/-- The entries of the example. -/
def camera : State :=
  { State.reset with
    tables := { Tables.reset with route := [
      ⟨true, .upstream, 16, 31, .forward, dests [.port .p6, .port .p7, .port .p8], .urgent, .drop, true⟩,
      ⟨true, .port .p3, 64, 79, .forward, dests [.u, .port .p1], .bulk, .send, false⟩,
      ⟨true, .port .p4, 200, 255, .drop, dests [], .bulk, .send, false⟩,
      ⟨true, .anyPort, 128, 143, .forward, dests [.port .p1, .port .p2], .bulk, .send, false⟩,
      ⟨true, .upstream, 0, 255, .forward, dests [.port .p1], .bulk, .send, false⟩,
      ⟨true, .anyPort, 140, 143, .forward, dests [.u], .urgent, .send, false⟩] } }

/-- A DATA message with a port field and a channel. -/
def data (field : Nat) (channel : Byte) : Message := ⟨false, false, false, field, channel, 0, []⟩

/-- Messages A, C, D and E. -/
theorem test_routes_acde :
    camera.route .u (data 15 20) = some ⟨[.port .p6, .port .p7, .port .p8], .urgent, .drop, true⟩ ∧
    camera.route (.port .p3) (data 0 70) = some ⟨[.u, .port .p1], .bulk, .send, false⟩ ∧
    camera.route (.port .p4) (data 0 210) = none ∧
    camera.route (.port .p2) (data 0 141) = some ⟨[.port .p1], .bulk, .send, false⟩ := by decide

/-- Messages F, G, H and J. -/
theorem test_routes_fghj :
    camera.route (.port .p1) (data 0 130) = some ⟨[.port .p2], .bulk, .send, false⟩ ∧
    camera.route (.port .p6) (data 0 20) = some ⟨[.u], .bulk, .send, false⟩ ∧
    camera.route .u (data 15 100) = some ⟨[.port .p1], .bulk, .send, false⟩ ∧
    camera.route .u (data 6 20) = some ⟨[.port .p6], .bulk, .send, false⟩ := by decide

/-! ### Timed delivery (chapter 8, "Frame Numbers and Late Arrivals") -/

/-- The frame counter reads 250 and P3's phase has been released. -/
def frame250 : State := { State.reset with timing := { Timing.reset 0 with counter := 250 } }

/-- Messages A to E: held, late, late, held, late. -/
theorem test_late_arrivals :
    [3, 240, 250, 251, 200].map (frame250.isLate (.port .p3)) = [false, true, true, false, true] := by decide

/-- Chapter 1, "A Frame-Aligned Change Overtaken by Failure": the distance of frame 3. -/
theorem test_frame_distance : frame250.frameDistance 3 = 9 := by decide

/-! ### Witnesses: the machine, the resets and the invariants -/

/-- A good frame of a kind. -/
def frame (k : MsgKind) (payload : List Byte) : List Byte := wire k ⟨false, false, false, 0, 0, 0, payload⟩

/-- P1 in ON with a DATA message in its urgent queue, and a command waiting. -/
def busy : State :=
  { on (unit .on) with
    pending := [.hardTrip .p1]
    queues := PerDest.rep Queues.reset |>.set (.port .p1) { Queues.reset with urgent := [⟨0, false⟩] }
    records := some ⟨data 1 0, .u, 1⟩ :: List.replicate 63 none
    links := PerDest.rep Link.reset |>.set (.port .p1)
      { Link.reset with state := .up, tx := some ⟨.grant, []⟩ } }

theorem witness_StepRunsTheFrontCommand : busy.pending = [.hardTrip .p1] := rfl

theorem witness_IdleStep :
    (State.reset.pending = [] ∧ { State.reset with resetPin := true }.resetPin = true) ∧
    (State.reset.resetPin = false ∧ { State.reset with now := 40000 }.due ≠ []) ∧
    State.reset.due = [] := by decide +kernel

theorem witness_ResetCommands : { State.reset with resetPin := true }.resetPin = true ∧
    (State.reset.resetPin = false ∧ State.reset.ecutPin = false) ∧
    { State.reset with ecutPin := true }.ecutPin = true := by decide

theorem busy_steps : ∃ t, step busy = .next t := ⟨_, rfl⟩

theorem witness_StepKeepsBounded : busy.Bounded ∧ ∃ t, step busy = .next t := by
  refine ⟨⟨by decide, by decide, by decide, fun d => ?_, fun d => ?_, by decide⟩, busy_steps⟩
  · unfold Queues.Bounded
    cases d with
    | u => decide
    | port p => cases p <;> decide
  · cases d with
    | u => decide
    | port p => cases p <;> decide

theorem witness_StepKeepsRefsCounted : busy.RefsCounted ∧ ∃ t, step busy = .next t := by
  refine ⟨fun i => ?_, busy_steps⟩
  cases i with
  | zero => exact (⟨by decide, by decide⟩ : (1 : Nat) = busy.refsTo 0 ∧ (1 : Nat) ≤ 1)
  | succ n =>
    have h : busy.record (n + 1) = none := by
      simp only [busy, State.record, List.getElem?_cons_succ, List.getElem?_replicate]
      split <;> rfl
    rw [h]
    have k : Dest.all.map (fun d => busy.refsAt d) = [[], [0], [], [], [], [], [], [], []] := by decide
    have : busy.refsTo (n + 1) = ((Dest.all.map fun d => busy.refsAt d).map fun l => l.count (n + 1)).sum := by
      simp only [State.refsTo, List.map_map]; rfl
    rw [this, k]
    simp

theorem witness_StepKeepsPoolJudged : busy.PoolJudged ∧ ∃ t, step busy = .next t :=
  ⟨⟨by decide, by decide, fun _ => by decide⟩, busy_steps⟩

theorem busy_powered : busy.Powered := powered_sound (by decide)

theorem witness_StepKeepsPowered : busy.Powered ∧ ∃ t, step busy = .next t := ⟨busy_powered, busy_steps⟩

theorem witness_StepKeepsLinksFollowing : busy.Powered ∧ busy.LinksFollow ∧ ∃ t, step busy = .next t :=
  ⟨busy_powered, linksFollow_sound (by decide), busy_steps⟩

theorem reset_tables : Tables.reset.InRange := by
  refine ⟨fun src => ?_, ?_, ?_, fun c => ?_, fun p => ?_, by decide, fun e he => ?_, ?_, by decide, by decide,
    fun i => ?_, by unfold EventSetting.InRange; decide⟩
  · unfold SourceRecord.InRange; cases src <;> decide
  · unfold SelectorSettings.InRange; decide
  · unfold BudgetParams.InRange; decide
  · unfold ClassRecord.InRange; cases c <;> decide
  · unfold PortRecord.InRange; cases p <;> decide
  · rw [List.eq_of_mem_replicate he]; exact ⟨by decide, by decide, fun _ => rfl⟩
  · refine ⟨by decide, by decide, by decide, by decide, by decide, by decide, by decide, fun d => ?_⟩
    cases d with
    | u => decide
    | port p => cases p <;> decide
  · unfold EventSetting.InRange; cases i <;> decide

theorem witness_StepKeepsRanges : busy.tables.InRange ∧ busy.PeriodInRange ∧ ∃ t, step busy = .next t :=
  ⟨reset_tables, by unfold State.PeriodInRange; decide, busy_steps⟩

theorem witness_StepKeepsTimersPlaced : busy.Powered ∧ busy.TimersPlaced ∧ ∃ t, step busy = .next t :=
  ⟨busy_powered, timersPlaced_sound (by decide), busy_steps⟩

theorem witness_StepKeepsSettled : busy.Settled ∧ ∃ t, step busy = .next t :=
  ⟨settled_sound (by decide), busy_steps⟩

theorem witness_StepKeepsBudgeted : busy.Powered ∧ busy.tables.InRange ∧ busy.Budgeted ∧ ∃ t, step busy = .next t := by
  refine ⟨busy_powered, reset_tables, ⟨by decide, by decide, by decide, fun p => ?_⟩, busy_steps⟩
  cases p <;> decide

/-! ### Witnesses: admission -/

/-- P1 waits for more than there is, with nothing to shed. -/
def stuck : State := waits ⟨.p1, .attach, 1000, none, none⟩

theorem witness_EvaluationRunsToItsEnd : State.reset.inForce = false ∧ stuck.inForce = true ∧
    stuck.evaluate.head = some ⟨.p1, .attach, 1000, none, none⟩ ∧
    ((idle (unit .waiting)).inForce = true ∧ (idle (unit .waiting)).head = none) ∧
    (waits (entry .attach none none)).need (entry .attach none none) ≤ (waits (entry .attach none none)).free ∧
    (preemption.inForce = true ∧ preemption.head = some ⟨.p5, .attach, 150, none, none⟩ ∧
      preemption.free < preemption.need ⟨.p5, .attach, 150, none, none⟩ ∧
      preemption.need ⟨.p5, .attach, 150, none, none⟩ ≤ preemption.free + (preemption.preemptable (preemption.priority .p5) : Int)) ∧
    stuck.free + (stuck.preemptable (stuck.priority .p1) : Int) < stuck.need ⟨.p1, .attach, 1000, none, none⟩ := by
  decide

theorem witness_HeadVictimAndShedding : preemption.head = some ⟨.p5, .attach, 150, none, none⟩ ∧
    preemption.victim preemption.sheddable = some .p4 ∧ (0 : Int) ≤ preemption.free := by decide

theorem witness_ShedEffect : (on (unit .on)).Powered ∧ (on (unit .on)).LinksFollow ∧ Port.p1 ∈ (on (unit .on)).granted ∧
    (on (unit .on)).linkState (.port .p1) ≠ .down :=
  ⟨powered_sound (by decide), linksFollow_sound (by decide), by decide, by decide⟩

/-- P1 in ON asks for 70 dW. -/
def seeks : State := { on (unit .on) with admission := [⟨.p1, .increase, 70, none, none⟩] }

theorem witness_GrantEffect :
    ((waits (entry .attach none none)).Powered ∧ (waits (entry .attach none none)).LinksFollow ∧
      entry .attach none none ∈ (waits (entry .attach none none)).admission ∧
      (entry .attach none none).reason ≠ .increase ∧
      (waits (entry .attach none none)).classOf .p1 = some ClassRecord.reset) ∧
    (seeks.Powered ∧ seeks.LinksFollow ∧ (⟨.p1, .increase, 70, none, none⟩ : Entry) ∈ seeks.admission) :=
  ⟨⟨powered_sound (by decide), linksFollow_sound (by decide), by decide, by decide, by decide⟩,
    powered_sound (by decide), linksFollow_sound (by decide), by decide⟩

theorem witness_DemandEffect : ((State.reset.ports.get .p1).state.closed = false) ∧
    (((on (unit .on)).ports.get .p1).state.closed = true ∧ (on (unit .on)).classOf .p1 = some ClassRecord.reset) ∧
    (min (max 0 10) 120 < ((on (unit .on)).ports.get .p1).grant ∧
      min (max 60 10) 120 = ((on (unit .on)).ports.get .p1).grant ∧
      ((on (unit .on)).ports.get .p1).grant < min (max 65535 10) 120) ∧
    (on (unit .on)).entryOf .p1 = none ∧ seeks.entryOf .p1 = some ⟨.p1, .increase, 70, none, none⟩ := by decide

/-- P1 in ON seeks 70 dW with a wait timer. -/
def seeksFor (wait : Nat) : State :=
  { on (unit .on) with admission := [⟨.p1, .increase, 70, some wait, none⟩] }

theorem witness_AdmissionTimerExpiries :
    (entry .shed none (some 0) ∈ (waits (entry .shed none (some 0))).admission ∧
      (entry .shed none (some 0)).holdOff.isSome = true) ∧
    (entry .attach (some 0) none ∈ (waits (entry .attach (some 0) none)).admission ∧
      (entry .attach (some 0) none).wait.isSome = true ∧ (waits (entry .attach (some 0) none)).inForce = true ∧
      (entry .attach (some 0) none).reason ≠ .increase) ∧
    ((⟨.p1, .increase, 70, some 0, none⟩ : Entry) ∈ (seeksFor 0).admission ∧ (seeksFor 0).inForce = true ∧
      (seeksFor 0).resetPin = false) := by decide

theorem witness_SupplyLossOrder : (on (unit .on)).Powered ∧ Port.p1 ∈ (on (unit .on)).granted ∧
    Port.p2 ∉ (on (unit .on)).granted := ⟨powered_sound (by decide), by decide, by decide⟩

/-! ### Witnesses: sources, the selector and the budget -/

theorem witness_ScanStoresSamples : State.reset.resetPin = false ∧ [ScanPart.judge .p8, .budget].Nodup := by decide

/-- A source monitor with a steady voltage. -/
def steady (v : Nat) (qual : Qual) (qualify fail : Option Nat) : SourceMonitor :=
  { ring := List.replicate 8 v, qual := qual, qualifyTimer := qualify, failTimer := fail }

/-- The sample hub with another monitor for LINE. -/
def line (m : SourceMonitor) : State :=
  { on (unit .on) with supply := ⟨m, steady 14420 .usable none none⟩ }

/-- The sample hub with a monitor for LINE and the BATT source feeding the bus. -/
def onBatt (m : SourceMonitor) : State := { line m with sel := { Selector.reset with state := .active .batt } }

/-- The reset record of LINE with other times. -/
def timed (qualify fail : Nat) (s : State) : State :=
  { s with tables := { s.tables with
    source := s.tables.source.set .line { SourceRecord.reset with qualifyTime := qualify, failTime := fail } } }

/-- A clause of R3 or R4 meets a monitor at a voltage. -/
def meets (s : State) (qual : Qual) (v : Nat) : Prop :=
  (s.supply.get .line).average = some v ∧ (s.supply.get .line).qual = qual

theorem witness_SourceJudgement :
    (meets (onBatt (steady 10999 .unusable none none)) .unusable 10999 ∧ ¬(10500 + 500 ≤ 10999)) ∧
    (meets (onBatt (steady 11000 .unusable none none)) .unusable 11000 ∧ 10500 + 500 ≤ 11000 ∧
      SourceRecord.reset.qualifyTime ≠ 0) ∧
    (meets (timed 0 20 (onBatt (steady 34000 .unusable none none))) .unusable 34000 ∧
      ((timed 0 20 (onBatt (steady 34000 .unusable none none))).tables.source.get .line).qualifyTime = 0) ∧
    meets (onBatt (steady 11000 .qualifying (some 5) none)) .qualifying 11000 ∧
    (meets (onBatt (steady 34001 .qualifying (some 5) none)) .qualifying 34001 ∧ ¬(34001 ≤ 34000)) ∧
    meets (onBatt (steady 10500 .usable none none)) .usable 10500 ∧
    (meets (onBatt (steady 10499 .usable none none)) .usable 10499 ∧ SourceRecord.reset.failTime ≠ 0) ∧
    meets (onBatt (steady 34001 .usable none none)) .usable 34001 ∧
    (meets (timed 50 0 (onBatt (steady 10499 .usable none none))) .usable 10499 ∧
      ((timed 50 0 (onBatt (steady 10499 .usable none none))).tables.source.get .line).failTime = 0 ∧
      ((timed 50 0 (onBatt (steady 10499 .usable none none))).supply.get .line).failTimer = none) ∧
    ((timed 50 0 (onBatt (steady 10499 .usable none (some 1)))).supply.get .line).failTimer.isSome = true := by
  unfold meets
  decide

/-- The qualify timer of LINE has run out, in a selector state. -/
def qualifies (st : SelState) : State :=
  { line (steady 14420 .qualifying (some 0) none) with
    sel := { Selector.reset with state := st }, granted := [], ports := PerPort.rep PortUnit.reset }

theorem witness_SourceTimerExpiries :
    (((qualifies .start).supply.get .line).qual = .qualifying ∧
      ((qualifies .start).supply.get .line).qualifyTimer.isSome = true ∧ (qualifies .start).sel.state = .start) ∧
    (qualifies .noSource).sel.state = .noSource ∧ (qualifies .cut).sel.state = .cut ∧
    (((line (steady 0 .usable none (some 0))).supply.get .line).qual = .usable ∧
      ((line (steady 0 .usable none (some 0))).supply.get .line).failTimer.isSome = true) ∧
    (onBatt (steady 0 .usable none (some 0))).sel.state ≠ .active .line ∧
    ((line (steady 0 .usable none (some 0))).sel.state = .active .line ∧
      ((line (steady 0 .usable none (some 0))).supply.get Source.line.other).qual = .usable) ∧
    ({ line (steady 0 .usable none (some 0)) with
        supply := ⟨steady 0 .usable none (some 0), SourceMonitor.reset⟩ }.supply.get Source.line.other).qual ≠ .usable := by
  decide

/-- BATT feeds the bus, LINE is preferred and USABLE, and the auto-return timer has run out. -/
def returns : State :=
  { onBatt (steady 14420 .usable none none) with
    sel := { Selector.reset with state := .active .batt, autoTimer := some 0 } }

/-- The same with another auto-return timer and delay. -/
def preferring (timer : Option Nat) (delay : Nat) : State :=
  { returns with
    sel := { returns.sel with autoTimer := timer }
    tables := { returns.tables with selector := { Tables.reset.selector with autoReturn := delay } } }

theorem witness_ChangeoverBegins :
    (((on (unit .on)).ports.get .p1).state.closed = true ∧ (on (unit .on)).rideThrough .p1 = false ∧
      ((on (unit .on)).ports.get .p2).state.closed = false) ∧
    (returns.resetPin = false ∧ returns.sel.state = .active .batt ∧ returns.sel.autoTimer.isSome = true ∧
      returns.tables.selector.preferred = some .line ∧ Source.line ≠ .batt ∧
      (returns.supply.get .line).qual = .usable) ∧
    ((preferring none 1).sel.state = .active .batt ∧ (preferring none 1).tables.selector.preferred = some .line ∧
      ((preferring none 1).supply.get .line).qual = .usable ∧ (preferring none 1).sel.autoTimer = none ∧
      (preferring none 1).tables.selector.autoReturn ≠ 0 ∧ (preferring none 0).tables.selector.autoReturn = 0 ∧
      (preferring (some 5) 1).sel.autoTimer.isSome = true) ∧
    ((line SourceMonitor.reset).sel.state = .active .line ∧
      (line SourceMonitor.reset).tables.selector.preferred = some .line) := by decide

/-- A changeover to BATT whose dead time has run out, with the qualifications of the two sources. -/
def crossing (a b : Qual) : State :=
  { on PortUnit.reset with
    granted := [], links := PerDest.rep Link.reset
    supply := ⟨steady 14420 a none none, steady 14420 b none none⟩
    sel := { Selector.reset with state := .changeover .batt, deadTimer := some 0 } }

/-- The same with P1 PAUSED under a grant of 60 dW, a record for both sources and a class. -/
def crossingPaused (a b : Qual) (r : SourceRecord) (sheddable : Bool) : State :=
  { crossing a b with
    granted := [.p1], ports := PerPort.rep PortUnit.reset |>.set .p1 (unit .paused)
    tables := { Tables.reset with
      source := PerSource.rep r
      cls := PerClass.rep { ClassRecord.reset with sheddable := sheddable } } }

/-- The state with the ports shed at the end of a changeover to a source (R15, steps 1 to 3). -/
def landed (a : Source) (s : State) : State :=
  State.shedUntil State.sheddable 0
    (State.computeBudget { s with sel := { s.sel with state := .active a, deadTimer := none } })

theorem witness_DeadTimeExpiry :
    ((crossingPaused .usable .usable (plate 10000) true).sel.deadTimer.isSome = true ∧
      ((crossingPaused .usable .usable (plate 10000) true).supply.get .batt).qual = .usable ∧
      0 ≤ (landed .batt (crossingPaused .usable .usable (plate 10000) true)).free ∧
      ((landed .batt (crossingPaused .usable .usable (plate 10000) true)).ports.get .p1).state = .paused ∧
      ((landed .batt (crossingPaused .usable .usable (plate 10000) true)).ports.get .p2).state ≠ .paused ∧
      (landed .batt (crossingPaused .usable .usable (plate 10000) true)).classOf .p1 = some ClassRecord.reset) ∧
    (((crossingPaused .usable .unusable SourceRecord.reset false).supply.get .batt).qual ≠ .usable ∧
      ((crossingPaused .usable .unusable SourceRecord.reset false).supply.get Source.batt.other).qual = .usable ∧
      (landed .line (crossingPaused .usable .unusable SourceRecord.reset false)).free < 0) ∧
    ((crossing .unusable .usable).TimersPlaced ∧ (crossing .unusable .usable).sel.state = .changeover .batt ∧
      ((crossing .unusable .usable).supply.get .batt).qual = .usable) ∧
    ((crossing .usable .unusable).TimersPlaced ∧ ((crossing .usable .unusable).supply.get .batt).qual ≠ .usable ∧
      ((crossing .usable .unusable).supply.get Source.batt.other).qual = .usable) ∧
    ((crossing .unusable .unusable).TimersPlaced ∧
      ((crossing .unusable .unusable).supply.get .batt).qual ≠ .usable ∧
      ((crossing .unusable .unusable).supply.get Source.batt.other).qual ≠ .usable) :=
  ⟨by decide +kernel, by decide +kernel, ⟨timersPlaced_sound (by decide), by decide, by decide⟩,
    ⟨timersPlaced_sound (by decide), by decide, by decide⟩, timersPlaced_sound (by decide), by decide, by decide⟩

theorem witness_EcutCommands : { State.reset with resetPin := true }.resetPin = true ∧
    ((on (unit .on)).resetPin = false ∧ (on (unit .on)).Powered) ∧ (on (unit .on)).sel.state ≠ .cut ∧
    (qualifies .cut).sel.state = .cut :=
  ⟨by decide, ⟨by decide, powered_sound (by decide)⟩, by decide, by decide⟩

theorem witness_Derating : ascending (plate 0).curve = true ∧
    ((⟨12000, 40⟩ : CurvePoint) ∈ (plate 0).curve) ∧
    ((plate 0).curve = ⟨11000, 0⟩ :: (plate 0).curve.tail ∧ 10999 < 11000) ∧
    ((plate 0).curve = [⟨11000, 0⟩, ⟨12000, 40⟩, ⟨13500, 85⟩] ++ [⟨14800, 100⟩] ∧ 14800 ≤ 40950) ∧
    ((plate 0).curve = [⟨11000, 0⟩] ++ ⟨12000, 40⟩ :: ⟨13500, 85⟩ :: [⟨14800, 100⟩] ∧ 12000 < 12001 ∧
      13499 < 13500) := by decide

theorem witness_BudgetFigures : State.reset.sel.state.feeds = false ∧
    ((on (unit .on)).sel.state = .active .line ∧ ((on (unit .on)).supply.get .line).average = some 14420) ∧
    ((on (unit .on)).tables.InRange ∧ ((on (unit .on)).tables.source.get .line).rated = 0 ∧
      ((on (unit .on)).tables.source.get .line).limit = 0) ∧
    ((line SourceMonitor.reset).sel.state.budgetSource = some .line ∧
      ((line SourceMonitor.reset).supply.get .line).ring = []) :=
  ⟨by decide, by decide, ⟨reset_tables, by decide⟩, by decide⟩

/-- The shed delay of the sample hub has run out, with a budget. -/
def overcommitted (b : Nat) (sheddable : Bool) : State :=
  { on (unit .on) with
    budget := { Budget.reset with b := b, overcommit := .timing, shedTimer := some 0 }
    tables := { Tables.reset with cls := PerClass.rep { ClassRecord.reset with sheddable := sheddable } } }

/-- The same with the timer idle, an overcommit state and a shed delay. -/
def short (b delay : Nat) (o : Overcommit) (sheddable : Bool) : State :=
  { overcommitted b sheddable with
    budget := { Budget.reset with b := b, overcommit := o }
    tables := { (overcommitted b sheddable).tables with budget := { Tables.reset.budget with shedDelay := delay } } }

theorem witness_OvercommitAndShedDelay :
    ((overcommitted 59 true).resetPin = false ∧ (overcommitted 59 true).budget.shedTimer.isSome = true ∧
      0 ≤ (State.shedUntil State.overcommitCandidate 0 (overcommitted 59 true)).free ∧
      (State.shedUntil State.overcommitCandidate 0 (overcommitted 59 false)).free < 0) ∧
    (0 ≤ (short 60 200 .unresolved true).free ∧ (short 59 200 .timing true).free < 0 ∧
      (short 59 200 .timing true).budget.overcommit = .timing) ∧
    ((short 59 200 .unresolved false).free < 0 ∧ (short 59 200 .unresolved false).budget.overcommit = .unresolved ∧
      ∀ p ∈ (short 59 200 .unresolved false).granted, (short 59 200 .unresolved false).sheddable p = false) ∧
    ((short 59 200 .clear true).free < 0 ∧ (short 59 200 .clear true).budget.overcommit = .clear ∧
      (short 59 200 .clear true).tables.budget.shedDelay ≠ 0) ∧
    ((short 59 0 .unresolved true).free < 0 ∧ (short 59 0 .unresolved true).tables.budget.shedDelay = 0 ∧
      ∃ p ∈ (short 59 0 .unresolved true).granted, (short 59 0 .unresolved true).sheddable p = true ∧
        ((short 59 0 .unresolved true).ports.get p).state ≠ .paused) ∧
    ((short 59 0 .clear true).sel.state = .active .line ∧ (crossing .usable .usable).sel.state = .changeover .batt) := by
  decide

/-! ### Witnesses: port power units -/

/-- A power unit whose detect line has a sense value and levels. -/
def detects (st : PortState) (sense : Nat) (present stable : Level) (debounce : Option Nat) : PortUnit :=
  { unit st with sense := sense, present := present, stable := stable, debounce := debounce, grant := 0 }

/-- P1 is attached and its debounce ends, before START. -/
def attaches : State :=
  { idle (detects .debounce 300 .attached .open (some 1)) with mgmt := Mgmt.reset }

theorem witness_DetectLine :
    ((299 < 300) ∧ (300 + 450 * ClassNo.c7.number ≤ 3899 ∧ 3899 < 300 + 450 * (ClassNo.c7.number + 1))) ∧
    (((idle (detects .vacant 3899 .open .open none)).ports.get .p1).present ≠ .attached ∧
      ((idle (detects .vacant 3899 .open .open none)).tables.port.get .p1).debounce ≠ 0) ∧
    ((idle (detects .debounce 3899 .attached .open (some 2))).ports.get .p1).debounce = some (0 + 2) ∧
    ((idle (detects .vacant 3900 .open .open none)).ports.get .p1).debounce = none ∧
    ((idle (detects .debounce 3900 .open .open (some 1))).Powered ∧
      ((idle (detects .debounce 3900 .open .open (some 1))).ports.get .p1).debounce.isSome = true) ∧
    (((idle (detects .waiting 3900 .open .attached (some 1))).ports.get .p1).state ≠ .disabled ∧
      ((idle (detects .denied 3900 .open .attached (some 1))).Powered)) ∧
    ((idle (detects .disabled 3900 .open .attached (some 1))).ports.get .p1).state = .disabled ∧
    ((attaches.tables.port.get .p1).classSource = .detected ∧
      ({ PortRecord.reset with classSource := .fixed .c3 }.classSource = .fixed .c3)) ∧
    ((idle (detects .vacant 299 .attached .open (some 1))).reading .p1 = .short ∧
      (idle (detects .vacant 3900 .attached .open (some 1))).reading .p1 = .open ∧
      (idle (detects .vacant 300 .attached .open (some 1))).reading .p1 = .cls .c0 false ∧
      (idle (detects .vacant 300 .attached .open (some 1))).inForce = true) ∧
    (attaches.Powered ∧ (attaches.ports.get .p1).debounce = some 1 ∧ (attaches.ports.get .p1).sense < 3900 ∧
      attaches.resetPin = false ∧ (attaches.ports.get .p1).present = .attached ∧ (attaches.ports.get .p1).stable = .open ∧
      (attaches.ports.get .p1).state = .debounce ∧ attaches.inForce = false ∧
      attaches.reading .p1 = .cls .c0 false) := by
  refine ⟨by decide, by decide, by decide, by decide, ⟨powered_sound (by decide), by decide⟩,
    ⟨by decide, powered_sound (by decide)⟩, by decide, by decide, by decide, powered_sound (by decide), by decide⟩

/-- P1 sees an edge toward ATTACHED with a debounce of 0. -/
def attachesAtOnce : State :=
  { idle (detects .vacant 3899 .open .open none) with
    tables := { Tables.reset with port := PerPort.rep { PortRecord.reset with debounce := 0 } } }

/-- R64, R65: with a debounce of 0 the port is classified within the one scan completion. -/
theorem test_attach_with_no_debounce : ((attachesAtOnce.scanDetect .p1).ports.get .p1).stable = .attached ∧
    ((attachesAtOnce.scanDetect .p1).ports.get .p1).eff = some ⟨.c7, false⟩ := by decide +kernel

theorem witness_DetectLine_at_once :
    (Level.attached ≠ (attachesAtOnce.ports.get .p1).present ∧ (attachesAtOnce.tables.port.get .p1).debounce = 0 ∧
      attachesAtOnce.resetPin = false) ∧
    (((idle (detects .disabled 300 .attached .open (some 1))).ports.get .p1).debounce.isSome = true ∧
      ((idle (detects .disabled 300 .attached .open (some 1))).ports.get .p1).state = .disabled ∧
      ((idle (detects .disabled 300 .attached .open (some 1))).ports.get .p1).stable = .open) := by decide

/-- A unit in RAMP at a position, held or not. -/
def ramps (pos held : Nat) (periodHeld : Bool) : State :=
  on { unit .ramp with rampPos := pos, heldCount := held, periodHeld := periodHeld }

theorem witness_StepTimerExpiry :
    ((on { unit .ramp with current := 2010 }).classOf .p1 = some ClassRecord.reset ∧
      ClassRecord.reset.inrush < ((on { unit .ramp with current := 2010 }).ports.get .p1).current ∧
      ((on { unit .ramp with current := 2000 }).ports.get .p1).current ≤ ClassRecord.reset.inrush) ∧
    (((ramps 14 0 false).ports.get .p1).stepTimer.isSome = true ∧
      (ramps 14 0 false).classOf .p1 = some ClassRecord.reset ∧ ((ramps 14 0 false).ports.get .p1).rampPos < 15) ∧
    15 ≤ ((ramps 15 0 false).ports.get .p1).rampPos ∧ ((ramps 4 2 true).ports.get .p1).heldCount < 3 ∧
    (3 ≤ ((ramps 4 3 true).ports.get .p1).heldCount ∧ (ramps 4 3 true).Powered) :=
  ⟨by decide, by decide, by decide, by decide, by decide, powered_sound (by decide)⟩

theorem witness_Trips : ((on (unit .limit)).Powered ∧ (on (unit .limit)).LinksFollow ∧
      ((on (unit .limit)).ports.get .p1).state.closed = true ∧
      (on (unit .limit)).classOf .p1 = some ClassRecord.reset) ∧
    ClassRecord.reset.retryLimit < ((on { unit .on with retryCount := 3 }).ports.get .p1).retryCount + 1 ∧
    (((on (unit .limit)).ports.get .p1).overdrawTimer.isSome = true ∧
      ((on (unit .limit)).ports.get .p2).state.closed = false) :=
  ⟨⟨powered_sound (by decide), linksFollow_sound (by decide), by decide, by decide⟩, by decide, by decide⟩

/-- P1 has tripped and its retry delay has run out. -/
def tripped : State := idle { unit .tripped with retryTimer := some 0, retryDraw := some 60 }

theorem witness_RetryAndCleanRun :
    ((tripped.ports.get .p1).state = .tripped ∧ (tripped.ports.get .p1).retryTimer.isSome = true ∧
      tripped.classOf .p1 = some ClassRecord.reset ∧ (tripped.ports.get .p1).retryDraw = some 60) ∧
    (((on { unit .on with cleanTimer := some 0 }).ports.get .p1).state = .on ∧
      ((on { unit .on with cleanTimer := some 0 }).ports.get .p1).cleanTimer.isSome = true) := by decide

/-- P1 draws a current at 14,420 mV in a state, with an over-draw time. -/
def draws (st : PortState) (current time : Nat) : State :=
  { on { unit st with current := current } with
    busVolts := 14420
    tables := { Tables.reset with cls := PerClass.rep { ClassRecord.reset with overdrawTime := time } } }

theorem witness_OverdrawJudgement :
    (((draws .on 500 100).ports.get .p1).state = .on ∧ 14420 * 500 / 100000 = 72 ∧ 72 ≤ 60 + 60 * 20 / 100) ∧
    (14420 * 510 / 100000 = 73 ∧ 60 + 60 * 20 / 100 < 73 ∧
      (draws .on 510 100).classOf .p1 = some { ClassRecord.reset with overdrawTime := 100 } ∧
      (draws .on 510 100).linkState (.port .p1) ≠ .down) ∧
    (draws .on 510 0).classOf .p1 = some { ClassRecord.reset with overdrawTime := 0 } ∧
    ((draws .limit 510 100).ports.get .p1).state = .limit ∧ ((draws .limit 500 100).ports.get .p1).state = .limit := by
  decide

/-! ### Witnesses: messages -/

theorem witness_WireIsJudgedGood :
    (MsgKind.data.mayArrive .u = true ∧ MsgKind.data.portFieldAllowed .u 15 = true ∧ (15 : Nat) ≤ 15 ∧
      (List.replicate 48 (0 : Byte)).length ≤ 48 ∧ MsgKind.data.fixedLength = none) ∧
    (MsgKind.demand.mayArrive (.port .p8) = true ∧ MsgKind.demand.portFieldAllowed (.port .p8) 0 = true ∧
      MsgKind.demand.fixedLength = some 2) := by decide

/-- A hub that offers nothing, with P1's link UP. -/
def quiet : State := on (unit .on)

/-- The same, at the moment at which P2's port has left the powered states. -/
def leaving : State :=
  { quiet with links := quiet.links.set (.port .p2) { Link.reset with downAt := some quiet.now } }

/-- R53, R89: the DEMAND that falls together with the leaving is counted received good, and malformed or refused. -/
theorem test_demand_at_leaving :
    (leaving.frameReception (.port .p2) (frame .demand (be16 300))).counters.endpoint.get (.port .p2) =
      { EndpointCounters.zero with good := 1, malformed := 1 } := by decide +kernel

theorem witness_BadFramesAreOnlyCounted :
    (leaving.Settled ∧ leaving.linkState (.port .p2) = .down ∧ (leaving.ports.get .p2).state.closed = false ∧
      (leaving.links.get (.port .p2)).downAt = some leaving.now ∧
      judgeFrame (.port .p2) (wire .demand ⟨false, false, false, 0, 0, 0, be16 300⟩) =
        .good .demand ⟨false, false, false, 0, 0, 0, be16 300⟩ ∧
      (quiet.links.get (.port .p2)).downAt ≠ some quiet.now) ∧
    ((List.replicate 6 (0 : Byte)).length < 7 ∧ 55 < (List.replicate 56 (0 : Byte)).length) ∧
    ((List.replicate 7 (0 : Byte) = List.replicate 5 0 ++ [0, 0]) ∧
      (0 : Byte) ++ (0 : Byte) ≠ crc (List.replicate 5 0)) ∧
    (quiet.resetPin = false ∧ quiet.Settled ∧ quiet.linkState (.port .p1) ≠ .down ∧
      quiet.linkState (.port .p2) = .down ∧ judgeFrame (.port .p1) [] = .malformed ∧
      judgeFrame (.port .p1) (List.replicate 7 0) = .checkError) :=
  ⟨⟨settled_sound (by decide), by decide, by decide, by decide, by decide +kernel, by decide⟩, by decide,
    by decide +kernel, by decide, settled_sound (by decide), by decide, by decide, by decide, by decide +kernel⟩

/-- P1's link waits for its partner. -/
def linkWaits : State :=
  { quiet with links := PerDest.rep Link.reset |>.set (.port .p1) { Link.reset with state := .wait } }

/-- A message with no flags for a payload. -/
def plain (payload : List Byte) : Message := ⟨false, false, false, 0, 0, 0, payload⟩

theorem witness_GoodFramesAreHandedOn :
    (quiet.resetPin = false ∧ quiet.linkState (.port .p1) ≠ .down ∧ linkWaits.linkState (.port .p1) = .wait) ∧
    (judgeFrame (.port .p1) (frame .hold []) = .good .hold (plain []) ∧
      judgeFrame (.port .p1) (frame .resume []) = .good .resume (plain []) ∧
      judgeFrame (.port .p1) (frame .data [7]) = .good .data (plain [7]) ∧
      judgeFrame (.port .p1) (frame .demand (be16 300)) = .good .demand (plain (be16 300))) ∧
    (judgeFrame .u (frame .request []) = .good .request (plain []) ∧ (asked quiet 1 []).linkState .u ≠ .down ∧
      (asked quiet 1 []).mgmt.input.length < 4) ∧
    4 ≤ { Mgmt.reset with input := List.replicate 4 ⟨1, []⟩ }.input.length := by decide +kernel

theorem witness_Routing :
    (lookup camera.tables.route .u 20 ≠ none ∧ (∀ x ∈ camera.tables.route, x.matches (.port .p6) 20 = false)) ∧
    (camera.tables.route = [] ++ camera.tables.route.head (by decide) :: camera.tables.route.tail ∧
      (camera.tables.route.head (by decide)).matches .u 31 = true) ∧
    ((data 8 0).portField = Port.p8.number ∧ (data 15 0).portField = 15 ∧
      lookup Tables.reset.route .u 0 = none ∧ lookup Tables.reset.route (.port .p1) 0 = none) ∧
    ((lookup camera.tables.route (.port .p4) 210).map (·.action) = some .drop ∧
      (lookup camera.tables.route (.port .p3) 70).map (fun e => (e.action, e.dests.get .u)) = some (.forward, true) ∧
      (lookup camera.tables.route (.port .p1) 130).map (·.action) = some .forward) ∧
    (Dest.port .p4 ≠ .u ∧ ∀ x ∈ Dest.all, (dests [.port .p4]).get x = true → x = .port .p4) ∧
    (camera.route (.port .p4) (data 0 210) = none ∧ (camera.route (.port .p3) (data 0 70)).isSome = true) := by decide

/-- The sample hub at frame 250 with queues at P1, all of one length. -/
def filled (n timed : Nat) (released : Bool) : State :=
  { quiet with
    timing := { Timing.reset 0 with counter := 250 }
    phases := PerDest.rep { Phase.reset 0 with released := released }
    queues := PerDest.rep Queues.reset |>.set (.port .p1)
      ⟨List.replicate n ⟨0, false⟩, List.replicate n ⟨0, false⟩, List.replicate timed ⟨0, 251, .send⟩⟩ }

theorem witness_Placement :
    (((filled 7 5 true).queues.get (.port .p1)).bulk.length < 8 ∧
      ((filled 7 5 true).queues.get (.port .p1)).urgent.length < 8 ∧
      ((filled 7 5 true).queues.get (.port .p1)).timed.length < 6) ∧
    (8 ≤ ((filled 8 6 true).queues.get (.port .p1)).bulk.length ∧
      8 ≤ ((filled 8 6 true).queues.get (.port .p1)).urgent.length ∧
      6 ≤ ((filled 8 6 true).queues.get (.port .p1)).timed.length) ∧
    (((251 - (filled 7 5 true).timing.counter).toNat = 1 ∧ (121 - (filled 7 5 true).timing.counter).toNat = 127 ∧
        (122 - (filled 7 5 true).timing.counter).toNat = 128) ∧
      ((250 - (filled 7 5 false).timing.counter).toNat = 0 ∧
        ((filled 7 5 false).phases.get (.port .p1)).released = false ∧
        ((filled 7 5 true).phases.get (.port .p1)).released = true)) ∧
    ((∀ d ∈ [Dest.port .p2, .port .p3], quiet.linkState d = .down) ∧ [Dest.port .p2, .port .p3].Nodup) ∧
    ((∃ d ∈ [Dest.port .p1], quiet.linkState d ≠ .down) ∧
      { quiet with records := List.replicate 64 (some ⟨plain [], .u, 1⟩) }.freeRecords = 0) ∧
    ((plain []).timed = false ∧ { plain [] with timed := true }.timed = true ∧
      (⟨[.port .p1], .bulk, .send, true⟩ : Decision).align = true) ∧
    ([Dest.port .p1, .port .p2].filter (fun d => decide (quiet.linkState d ≠ .down)) = [.port .p1] ∧
      0 < quiet.freeRecords ∧ cellsFor (plain []).payload.length ≤ quiet.freeCells ∧
      (quiet.queues.get (.port .p1)).urgent.length < 8 ∧ (quiet.queues.get (.port .p1)).bulk.length < 8 ∧
      0 < (filled 8 6 true).freeRecords) := by decide +kernel

/-- P1's link sends a message of a kind, in a hub with a record that two references stand to and one that one
does. -/
def sends (k : TxKind) (d : Dest) : State :=
  { on (unit .on) with
    links := PerDest.rep Link.reset |>.set d { Link.reset with state := .up, tx := some ⟨k, []⟩ }
    records := some ⟨plain [], .u, 2⟩ :: some ⟨plain [], .u, 1⟩ :: List.replicate 62 none }

theorem witness_Transmission :
    ((sends (.data 0) (.port .p1)).record 0 = some ⟨plain [], .u, 2⟩ ∧
      (sends (.data 0) (.port .p1)).record 1 = some ⟨plain [], .u, 1⟩ ∧
      (sends (.data 0) (.port .p1)).heldCells ≤ 128) ∧
    (((sends (.data 0) (.port .p1)).links.get (.port .p1)).tx = some ⟨.data 0, []⟩ ∧
      ((sends .mark (.port .p1)).links.get (.port .p1)).tx = some ⟨.mark, []⟩ ∧
      ((sends .grant (.port .p1)).links.get (.port .p1)).tx = some ⟨.grant, []⟩ ∧
      ((sends (.flow .hold) .u).links.get .u).tx = some ⟨.flow .hold, []⟩) ∧
    (((sends (.notice State.reset.events.report) .u).links.get .u).tx =
        some ⟨.notice State.reset.events.report, []⟩ ∧
      ((sends (.response 1 [0] none) .u).links.get .u).tx = some ⟨.response 1 [0] none, []⟩ ∧
      ((sends (.response 1 [0] (some State.reset.events.report)) .u).links.get .u).tx =
        some ⟨.response 1 [0] (some State.reset.events.report), []⟩ ∧
      (sends (.response 1 [0] none) .u).mgmt.inHand ≠ .fullReset) ∧
    (((sends (.response 49 [0] none) .u).links.get .u).tx = some ⟨.response 49 [0] none, []⟩ ∧
      { Mgmt.reset with inHand := .fullReset }.inHand = .fullReset) := by decide

theorem witness_UpstreamLine :
    ((asked quiet 1 []).linkState .u = .up ∧ (asked quiet 1 []).mgmt.inHand ≠ .fullReset ∧
      { asked quiet 1 [] with mgmt := { Mgmt.reset with lane := [.notice] } }.noticeInFlight = true) ∧
    (quiet.ecutPin = false ∧ { Mgmt.reset with inHand := .fullReset }.inHand = .fullReset) ∧
    State.reset.linkState .u = .down := by decide

/-- P1's link, idle and UP or in WAIT, with what its slots hold. -/
def offering (st : LinkState) (flow : Option FlowKind) (mark : Option MarkMsg) : Link :=
  { Link.reset with state := st, flowSlot := flow, markSlot := mark }

/-- A lane with one message at the front. -/
def laned (m : LaneMsg) : State := { asked quiet 1 [] with mgmt := { Mgmt.reset with lane := [m] } }

/-- P1's queues hold a DATA message each. -/
def queued : State :=
  { filled 1 0 true with records := some ⟨plain [], .port .p3, 2⟩ :: List.replicate 63 none }

theorem witness_SelectionOrder :
    ({ Link.reset with tx := some ⟨.mark, []⟩ }.tx.isSome = true ∧ Link.reset.state = .down ∧
      ((offering .wait (some .hold) none).state = .wait ∧ (offering .wait (some .hold) none).markSlot = none ∧
        quiet.grantSlot (.port .p1) = none) ∧
      { offering .up none none with receivedHold := true }.receivedHold = true) ∧
    ((offering .up (some .hold) none).tx = none ∧ (offering .up (some .hold) none).flowSlot = some .hold) ∧
    ((offering .wait (some .hold) (some ⟨0, .locked⟩)).state ≠ .up ∧
      (offering .wait (some .hold) (some ⟨0, .locked⟩)).markSlot = some ⟨0, .locked⟩) ∧
    (((waits (entry .attach none none)).evaluate.grantSlots.get .p1 = some ⟨60, .on, 20⟩) ∧
      (offering .wait none none).markSlot = none ∧ (offering .wait none none).state ≠ .down) ∧
    (((laned .notice).links.get .u).state = .up ∧ ((laned .notice).links.get .u).tx = none ∧
      (laned .notice).mgmt.lane = .notice :: [] ∧
      (laned (.response 1 [0] none)).mgmt.lane = .response 1 [0] none :: []) ∧
    (Tables.reset.InRange) ∧
    ((queued.links.get (.port .p1)).tx = none ∧ (queued.queues.get (.port .p1)).urgent = ⟨0, false⟩ :: [] ∧
      queued.record 0 = some ⟨plain [], .port .p3, 2⟩ ∧ (queued.links.get (.port .p1)).receivedHold = false ∧
      queued.grantSlot (.port .p1) = none ∧ (queued.links.get (.port .p1)).state = .up) ∧
    ({ Queues.reset with bulk := [⟨0, false⟩] }.urgent = [] ∧
      { Queues.reset with bulk := [⟨0, false⟩] }.bulk = ⟨0, false⟩ :: []) :=
  ⟨by decide, by decide, by decide, by decide, by decide, reset_tables, by decide, by decide⟩

/-! ### Witnesses: frames -/

theorem witness_FrameBoundary : State.reset.resetPin = false ∧ (State.reset.phases.get .u).released = true ∧
    State.reset.tables.timing.markInterval.get .u = 0 := by decide

/-- R127, R136: with an interval of 1 a destination of phase 0 receives its MARK at the boundary, with the counter of
the new frame, and its count is 0 again. -/
theorem test_mark_at_boundary :
    let s := { State.reset with
      links := State.reset.links.set .u { Link.reset with state := .up }
      tables := { Tables.reset with timing := { TimingRecord.reset with markInterval := PerDest.rep 1 } } }
    ((s.boundaryAt 40000).links.get .u).markSlot = some ⟨1, .unlocked⟩ ∧
      ((s.boundaryAt 40000).phases.get .u).markCount = 0 := by decide +kernel

theorem witness_PhaseRelease : ((filled 7 5 true).phases.get (.port .p1)).released = true ∧
    ((filled 7 5 false).phases.get (.port .p1)).released = false ∧
    ({ TimingRecord.reset with markInterval := PerDest.rep 1 }.markInterval.get .u ≠ 0 ∧
      { Phase.reset 0 with markCount := 1 }.markCount = 1 ∧ (1 : Nat) ≤ 1) ∧
    (filled 7 5 false).tables.timing.markInterval.get (.port .p1) = 0 := by decide

/-- The hub at a time with its frame timing unit in a state. -/
def at_ (now : Nat) (sync : Sync) (consistent : Nat) (prev : Option Nat) (window : Option Window) : State :=
  { State.reset with
    now := now
    timing := { Timing.reset 0 with
      sync := sync, lastEdge := some 40000, prevPeriod := prev, consistent := consistent, window := window
      holdover := if sync = .holdover then 63 else 0 } }

theorem witness_FsyncEdge : State.reset.timing.sync = .unlocked ∧
    ((at_ 80001 .acquiring 2 (some 39981) none).timing.lastEdge = some 40000 ∧ 40001 = 80001 - 40000 ∧
      16000 ≤ 40001 ∧ 40001 ≤ 42000 ∧ 40001 ≤ 39981 + 20 ∧ 39981 ≤ 40001 + 20 ∧
      (at_ 80001 .acquiring 2 (some 39981) none).timing.consistent < 3) ∧
    (at_ 80001 .acquiring 3 (some 39981) none).timing.consistent = 3 ∧
    ((at_ 55999 .acquiring 0 none none).timing.sync = .acquiring ∧ 55999 - 40000 < 16000 ∧
      42000 < 82001 - 40000 ∧ (39980 ∈ (at_ 80001 .acquiring 2 (some 39980) none).timing.prevPeriod) ∧
      39980 + 20 < 40001) ∧
    ((at_ 79979 .locked 4 none (some ⟨80000, none⟩)).timing.window = some ⟨80000, none⟩ ∧ 79979 + 20 < 80000) ∧
    ((at_ 79979 .holdover 4 none (some ⟨80000, none⟩)).timing.sync = .holdover) ∧
    ((at_ 80020 .locked 4 none (some ⟨80000, some 20⟩)).timing.window = some ⟨80000, some 20⟩ ∧
      80020 ≤ 80000 + 20 ∧ (at_ 80020 .locked 4 none (some ⟨80000, some 20⟩)).timing.nextBoundary ≠ 80000 ∧
      (at_ 40000 .holdover 4 none (some ⟨40000, some 20⟩)).timing.nextBoundary = 40000) := by decide

theorem witness_WindowClosesWithNoEdge :
    (at_ 80020 .locked 4 none (some ⟨80000, some 20⟩)).timing.sync = .locked ∧
    ((at_ 80020 .holdover 4 none (some ⟨80000, some 20⟩)).timing.window = some ⟨80000, some 20⟩ ∧
      (at_ 80020 .holdover 4 none (some ⟨80000, some 20⟩)).timing.holdover = 63) ∧
    { (at_ 80020 .holdover 4 none (some ⟨80000, some 20⟩)).timing with holdover := 62 }.holdover < 63 := by decide

/-! ### Witnesses: requests -/

/-- A payload of zeros. -/
def zeros (n : Nat) : List Byte := List.replicate n 0

theorem witness_RequestsRefusedOrWaiting :
    ((asked quiet 0 []).Executes ⟨0, []⟩ [] ∧ requestLength 0 = none) ∧
    ((asked quiet 1 [0]).Executes ⟨1, [0]⟩ [] ∧ requestLength 1 = some 0) ∧
    ((asked quiet 1 []).resetPin = false ∧ (asked quiet 1 []).mgmt.input = ⟨1, []⟩ :: [] ∧
      { Mgmt.reset with lane := List.replicate 4 .notice }.lane.length = 4 ∧
      (⟨1, []⟩ : Request).row ≠ .trafficReset) :=
  ⟨⟨asked_executes _ _ _ rfl rfl (by decide), by decide⟩, ⟨asked_executes _ _ _ rfl rfl (by decide), by decide⟩,
    by decide⟩

theorem witness_ReadRequests :
    ((asked quiet 1 []).Executes ⟨1, []⟩ []) ∧
    ((asked quiet 2 [9]).Executes ⟨2, [9]⟩ [] ∧ 8 < byteAt [9] 0) ∧
    ((asked quiet 2 [8]).Executes ⟨2, [8]⟩ [] ∧ byteAt [8] 0 = Port.p8.number) ∧
    ((asked quiet 3 [10, 0]).Executes ⟨3, [10, 0]⟩ [] ∧ 9 < byteAt [10, 0] 0) ∧
    ((asked quiet 3 [6, 48]).Executes ⟨3, [6, 48]⟩ [] ∧ tableRef 6 48 = none) ∧
    ((asked quiet 3 [9, 0]).Executes ⟨3, [9, 0]⟩ [] ∧ tableRef 9 0 = some .events) ∧
    (busy.Bounded ∧ quiet.priority? .p1 = some 1 ∧ quiet.granted = [] ++ .p1 :: [] ∧ Port.p2 ∉ quiet.granted ∧
      quiet.entryOf .p1 = none ∧ seeks.admission = [] ++ ⟨.p1, .increase, 70, none, none⟩ :: [] ∧
      Tables.reset.route[47]? = some RouteEntry.reset ∧ (unit .locked).state = .locked ∧
      (unit .locked).retryCount < 32 ∧ (unit .waiting).state ≠ .on ∧ (unit .waiting).state ≠ .limit) :=
  ⟨asked_executes _ _ _ rfl rfl (by decide), ⟨asked_executes _ _ _ rfl rfl (by decide), by decide⟩,
    ⟨asked_executes _ _ _ rfl rfl (by decide), by decide⟩, ⟨asked_executes _ _ _ rfl rfl (by decide), by decide⟩,
    ⟨asked_executes _ _ _ rfl rfl (by decide), by decide⟩, ⟨asked_executes _ _ _ rfl rfl (by decide), by decide⟩,
    witness_StepKeepsBounded.1, by decide⟩

theorem witness_RecordsRoundTrip : Tables.reset.InRange ∧ (47 < 48) ∧ (∀ d, (PerDest.rep 0).get d < 65536) :=
  ⟨reset_tables, by decide, fun d => by rw [PerDest.get_rep]; decide⟩

/-- The reset record of a source as its load carries it. -/
def resetSource (src : Source) : List Byte := SourceRecord.reset.bytes src

/-- The reset timing record as its load carries it. -/
def resetTiming : List Byte := TimingRecord.reset.bytes (PerDest.rep 0)

theorem witness_LoadChecksAndClamps :
    (2 < byteAt [3] 0 ∧ 6000 < wordAt (be16 6001) 0 ∧ 7 < byteAt [8] 0 ∧ 8 < byteAt [9] 0 ∧ 48 ≤ byteAt [48] 0) ∧
    (parseSelector [2, 0, 0] = .ok ⟨some .batt, 0, 1⟩ ∧
      (parseBudget (be16 6000 ++ be16 6000 ++ be16 1000 ++ [255, 255, 255])).toOption.isSome = true ∧
      (parseClass (7 :: be16 0 ++ be16 1200 ++ be16 1200 ++ [3] ++ zeros 10)).toOption.isSome = true) ∧
    (byteAt [7, 0, 0, 0, 0, 4, 177] 0 ≤ 7 ∧ 1200 < wordAt [7, 0, 0, 0, 0, 4, 177] 5) ∧
    (1 ≤ byteAt [8, 1, 8, 0, 0] 0 ∧ byteAt [8, 1, 8, 0, 0] 1 = 1 ∧ 7 < byteAt [8, 1, 8, 0, 0] 2) ∧
    (byteAt [47, 1, 10] 0 < 48 ∧ byteAt [47, 1, 10] 1 ≠ 0 ∧ 9 < byteAt [47, 1, 10] 2 ∧ byteAt [47, 0] 1 = 0) ∧
    (byteAt [] 0 = 0 ∧ 2 < byteAt [3] 0 ∧ 1 ≤ byteAt (resetSource .batt) 0 ∧ byteAt (resetSource .batt) 0 ≤ 2 ∧
      parseSource (resetSource .batt) = .ok (.batt, SourceRecord.reset)) ∧
    (parsePort [8, 1, 7, 3, 50] = .ok (.p8, ⟨.fixed .c7, some 3, 50⟩) ∧
      parsePort [1, 0, 9, 255, 0] = .ok (.p1, ⟨.detected, none, 0⟩) ∧
      parseRoute [47, 1, 9, 5, 5, 1, 1, 1, 1, 1, 1] =
        .ok (47, ⟨true, .anyPort, 5, 5, .drop, dests [.u, .port .p8], .urgent, .drop, true⟩)) ∧
    parseTiming resetTiming = .ok (TimingRecord.reset, PerDest.rep 0) := by decide +kernel

theorem witness_LoadPowerTables :
    ((asked quiet 16 (resetSource .line)).Executes ⟨16, resetSource .line⟩ [] ∧ (resetSource .line).length = 32 ∧
      parseSource (zeros 32) = .error .badIndex ∧ parseSource (resetSource .line) = .ok (.line, SourceRecord.reset) ∧
      parseSource (resetSource .batt) = .ok (.batt, SourceRecord.reset)) ∧
    ((asked quiet 17 [3, 0, 0]).Executes ⟨17, [3, 0, 0]⟩ [] ∧ parseSelector [3, 0, 0] = .error .badValue ∧
      parseSelector [0, 0, 0] = .ok ⟨none, 0, 1⟩) ∧
    ((asked quiet 18 (zeros 9)).Executes ⟨18, zeros 9⟩ [] ∧
      parseBudget (255 :: zeros 8) = .error .badValue ∧ parseBudget (zeros 9) = .ok ⟨⟨0, 0⟩, 0, 0, 0⟩) ∧
    ((asked quiet 19 (zeros 18)).Executes ⟨19, zeros 18⟩ [] ∧ parseClass (8 :: zeros 17) = .error .badIndex ∧
      (parseClass (zeros 18)).toOption.isSome = true) ∧
    ((asked quiet 20 (1 :: zeros 4)).Executes ⟨20, 1 :: zeros 4⟩ [] ∧ parsePort (zeros 5) = .error .badIndex ∧
      parsePort (1 :: zeros 4) = .ok (.p1, ⟨.detected, some 0, 0⟩)) :=
  ⟨⟨asked_executes _ _ _ rfl rfl (by decide), by decide +kernel⟩, ⟨asked_executes _ _ _ rfl rfl (by decide), by decide⟩,
    ⟨asked_executes _ _ _ rfl rfl (by decide), by decide +kernel⟩, ⟨asked_executes _ _ _ rfl rfl (by decide), by decide⟩,
    asked_executes _ _ _ rfl rfl (by decide), by decide⟩

theorem witness_LoadTrafficTables :
    ((asked quiet 21 (zeros 11)).Executes ⟨21, zeros 11⟩ [] ∧ parseRoute (48 :: zeros 10) = .error .badIndex ∧
      parseRoute (zeros 11) = .ok (0, RouteEntry.reset)) ∧
    ((asked quiet 22 resetTiming).Executes ⟨22, resetTiming⟩ [] ∧ parseTiming (zeros 34) = .error .badValue ∧
      parseTiming resetTiming = .ok (TimingRecord.reset, PerDest.rep 0)) ∧
    ((asked quiet 23 [64]).Executes ⟨23, [64]⟩ [] ∧
      { asked quiet 23 [64] with
          records := List.replicate 64 (some ⟨plain [], .u, 1⟩) }.freeCells ≤ parseHoldLevel [64] ∧
      parseHoldLevel [0] + 16 ≤ quiet.freeCells) :=
  ⟨⟨asked_executes _ _ _ rfl rfl (by decide), by decide⟩, ⟨asked_executes _ _ _ rfl rfl (by decide), by decide⟩,
    asked_executes _ _ _ rfl rfl (by decide), by decide +kernel⟩

/-- The sample hub before START, with loaded marks. -/
def unstarted (budget : Bool) : State :=
  { State.reset with mgmt := { Mgmt.reset with lineMark := true, battMark := true, budgetMark := budget } }

theorem witness_StartRequest :
    ((asked quiet 32 []).Executes ⟨32, []⟩ [] ∧ (asked quiet 32 []).mgmt.operational = true) ∧
    ((asked (unstarted false) 32 []).Executes ⟨32, []⟩ [] ∧ (asked (unstarted false) 32 []).mgmt.budgetMark = false) ∧
    ((asked (unstarted true) 32 []).Executes ⟨32, []⟩ [] ∧ (asked (unstarted true) 32 []).mgmt.complete = true) :=
  ⟨⟨asked_executes _ _ _ rfl rfl (by decide), by decide⟩, ⟨asked_executes _ _ _ rfl rfl (by decide), by decide⟩,
    asked_executes _ _ _ rfl rfl (by decide), by decide⟩

/-- A change to BATT at frame 3 is pending. -/
def pendingChange (qual : Qual) (counter : Byte) : State :=
  { on (unit .on) with
    sel := { Selector.reset with state := .active .line, change := some ⟨.batt, 3⟩ }
    supply := ⟨steady 14420 .usable none none, steady 14420 qual none none⟩
    timing := { Timing.reset 0 with counter := counter } }

theorem witness_SetSourceRequests :
    ((asked quiet 33 [2, 0, 0]).Executes ⟨33, [2, 0, 0]⟩ [] ∧ quiet.sel.state = .active .line ∧
      sourceOfCode (byteAt [2, 0, 0] 0) = some .batt ∧ (quiet.supply.get .batt).qual = .usable ∧
      sourceOfCode (byteAt [1, 0, 0] 0) = some .line) ∧
    ((asked quiet 33 [2, 1, 3]).Executes ⟨33, [2, 1, 3]⟩ [] ∧ byteAt [2, 1, 3] 1 = 1) ∧
    (1 < byteAt [2, 2, 0] 1 ∧ sourceOfCode 0 = none) ∧
    ((asked (crossing .usable .usable) 33 [1, 0, 0]).Executes ⟨33, [1, 0, 0]⟩ [] ∧
      (crossing .usable .usable).sel.state = .changeover .batt ∧ State.reset.sel.state = .start) ∧
    ((pendingChange .unusable 2).supply.get .batt).qual ≠ .usable ∧
    ((3 - (pendingChange .usable 2).timing.counter).toNat = 1 ∧
      (3 - (pendingChange .usable 132).timing.counter).toNat = 127 ∧
      (3 - (pendingChange .usable 3).timing.counter).toNat = 0 ∧
      (3 - (pendingChange .usable 131).timing.counter).toNat = 128) :=
  ⟨⟨asked_executes _ _ _ rfl rfl (by decide), by decide⟩, ⟨asked_executes _ _ _ rfl rfl (by decide), by decide⟩,
    by decide, ⟨asked_executes _ _ _ rfl rfl (by decide), by decide⟩, by decide, by decide⟩

theorem witness_PortControlRequests :
    ((asked quiet 34 [9, 1]).Executes ⟨34, [9, 1]⟩ [] ∧ 8 < byteAt [9, 1] 0) ∧
    ((asked quiet 34 [1, 4]).Executes ⟨34, [1, 4]⟩ [] ∧ byteAt [1, 4] 0 = Port.p1.number ∧ 3 < byteAt [1, 4] 1) ∧
    ((quiet.ports.get .p1).state ≠ .disabled ∧
      ((idle (detects .disabled 3900 .open .open none)).ports.get .p1).stable = .open ∧
      ((idle (detects .disabled 300 .attached .attached none)).ports.get .p1).stable = .attached ∧
      ((idle (detects .disabled 300 .attached .attached none)).ports.get .p1).state = .disabled) ∧
    (quiet.Powered ∧ Port.p2 ∉ quiet.granted) ∧
    ((tripped.ports.get .p1).state = .tripped ∧ (quiet.ports.get .p1).state ≠ .locked) ∧
    ((idle (detects .denied 300 .attached .attached none)).reading .p1 = .cls .c0 false ∧
      (idle (detects .denied 299 .attached .attached none)).reading .p1 = .short ∧
      (idle (detects .denied 3900 .attached .attached none)).reading .p1 = .open) :=
  ⟨⟨asked_executes _ _ _ rfl rfl (by decide), by decide⟩, ⟨asked_executes _ _ _ rfl rfl (by decide), by decide⟩,
    by decide, ⟨powered_sound (by decide), by decide⟩, by decide, by decide⟩

theorem witness_EventItems :
    ((asked quiet 35 (zeros 16)).Executes ⟨35, zeros 16⟩ [] ∧ (asked quiet 36 [0, 1, 0]).Executes ⟨36, [0, 1, 0]⟩ []) ∧
    ({ asked quiet 1 [] with events := { Events.reset with noticePending := true } }.events.noticePending = true ∧
      (asked quiet 1 []).linkState .u = .up ∧ .notice ∉ (asked quiet 1 []).mgmt.lane ∧
      (asked quiet 1 []).mgmt.lane.length < 4) ∧
    State.reset.events.noticePending = false :=
  ⟨⟨asked_executes _ _ _ rfl rfl (by decide), asked_executes _ _ _ rfl rfl (by decide)⟩, by decide, by decide⟩

/-- R154: the ninth response is 16 bytes. -/
theorem test_ninth_dump_response : (dumpPayload Counters.zero 8).length = 16 := by decide +kernel

theorem witness_CounterDump :
    ((1 ≤ 1 ∧ 9 ≤ 9 ∧ 11 < 12) ∧ Counters.zero.toList[12 * (9 - 1) + 3]? = some 0) ∧
    ((asked quiet 37 [2]).Executes ⟨37, [2]⟩ [] ∧ 1 < byteAt [2] 0) ∧
    ((asked quiet 37 [0]).Executes ⟨37, [0]⟩ [] ∧ (asked quiet 37 [0]).linkState .u = .up) ∧
    ((asked quiet 37 [1]).Executes ⟨37, [1]⟩ [] ∧ byteAt [1] 0 = 1) ∧
    ({ quiet with mgmt := { Mgmt.reset with input := [⟨37, [0]⟩] } }.Executes ⟨37, [0]⟩ [] ∧
      quiet.linkState .u ≠ .up) ∧
    ({ Mgmt.reset with inHand := .dump [[0]] }.inHand = .dump ([0] :: []) ∧
      { Mgmt.reset with inHand := .dump [[0]] }.lane.length < 4) :=
  ⟨by decide, ⟨asked_executes _ _ _ rfl rfl (by decide), by decide⟩, ⟨asked_executes _ _ _ rfl rfl (by decide), by decide⟩,
    ⟨asked_executes _ _ _ rfl rfl (by decide), by decide⟩, ⟨⟨rfl, rfl, rfl, .inl (by decide)⟩, by decide⟩, by decide⟩

theorem witness_ResetRequests :
    ((asked quiet 48 []).resetPin = false ∧ (asked quiet 48 []).mgmt.input = ⟨48, []⟩ :: [] ∧
      (asked quiet 48 []).mgmt.inHand = .nothing ∧ (asked quiet 48 []).linkState .u = .up ∧
      (asked quiet 48 []).noticeInFlight = false ∧ (asked quiet 48 []).linkState (.port .p1) ≠ .down ∧
      (asked quiet 48 []).linkState (.port .p2) = .down) ∧
    ((asked quiet 49 []).Executes ⟨49, []⟩ [] ∧ (asked quiet 49 []).linkState .u = .up) ∧
    ({ quiet with mgmt := { Mgmt.reset with input := [⟨49, []⟩] } }.Executes ⟨49, []⟩ [] ∧
      quiet.linkState .u ≠ .up ∧ quiet.ecutPin = false) :=
  ⟨by decide, ⟨asked_executes _ _ _ rfl rfl (by decide), by decide⟩, ⟨rfl, rfl, rfl, .inl (by decide)⟩, by decide⟩

end Sys2Proof.Tests
end

/-! SUPPORT. SET SOURCE in its two forms and the judgement of a pending change (R13, R18 to R20, R152): what each
operation of the model answers, and the settling of O56. -/

namespace Sys2Proof.Machine

/-! ### The judgement of a pending change (R20) -/

theorem State.usable_iff (s : State) (src : Source) :
    s.usable src = true ↔ (s.supply.get src).qual = .usable :=
  decide_eq_true_iff

/-- R13: the selector as a changeover begins; pausing the ports does not touch it. -/
theorem State.beginChangeover_sel (q : Source) (s : State) :
    (s.beginChangeover q).sel =
      ⟨.changeover q, some (s.tables.selector.deadTime * 10), none, none⟩ :=
  State.pauseAll_frame _ .sel (by decide)

/-- R20: a change at a frame distance of 1 to 127 stays pending. -/
theorem State.judgeChange_of_ahead {s : State} {c : PendingChange} (hc : s.sel.change = some c)
    (h1 : 1 ≤ s.frameDistance c.frame) (h127 : s.frameDistance c.frame ≤ 127) : s.judgeChange = s := by
  simp [State.judgeChange, hc, h1, h127]

/-- R20: a change at frame distance 0, or at 128 and more, is due. -/
theorem State.judgeChange_of_due {s : State} {c : PendingChange} (hc : s.sel.change = some c)
    (hd : s.frameDistance c.frame = 0 ∨ 128 ≤ s.frameDistance c.frame) : s.judgeChange = s.changeDue c := by
  have hnot : ¬ (1 ≤ s.frameDistance c.frame ∧ s.frameDistance c.frame ≤ 127) := by omega
  simp [State.judgeChange, hc, hnot]

/-- R20: a change that is due to a USABLE source other than the active one begins the changeover. -/
theorem State.changeDue_of_usable {s : State} {c : PendingChange} {a : Source} (ha : s.sel.state = .active a)
    (hu : s.usable c.target = true) (hne : c.target ≠ a) :
    s.changeDue c = (s.modSel fun x => { x with change := none }).beginChangeover c.target := by
  have hu' : (s.modSel fun x => { x with change := none }).usable c.target = true := hu
  simp [State.changeDue, hu', ha, hne.symm]

/-- R20: a change that is due to a source that is not USABLE is refused. -/
theorem State.changeDue_of_unusable {s : State} {c : PendingChange} (hu : ¬ s.usable c.target = true) :
    s.changeDue c = (s.modSel fun x => { x with change := none }).raiseHub .sourceRefused :=
  if_neg hu

/-- R156: raising a hub item does not touch the selector. -/
theorem State.raiseHub_sel (i : HubItem) (s : State) : (s.raiseHub i).sel = s.sel :=
  s.raiseHub_frame i .sel (by decide)

/-- R20: however it ends, a change that is due is removed. -/
theorem State.changeDue_change (c : PendingChange) (s : State) : (s.changeDue c).sel.change = none := by
  unfold State.changeDue
  dsimp only
  split
  · split
    · split
      · rfl
      · rw [State.beginChangeover_sel]
    · rfl
  · rw [State.raiseHub_sel, State.modSel_sel]

/-- R20: a refused change leaves the selector's state, sets SOURCE_REFUSED and changes nothing else. -/
theorem State.changeDue_refused {s : State} {c : PendingChange} (hu : ¬ s.usable c.target = true) :
    (s.changeDue c).sel.state = s.sel.state ∧
      ((s.changeDue c).events.marks (.hub .sourceRefused)).set = true ∧
      (s.changeDue c).SameBut [.sel, .events] s := by
  rw [State.changeDue_of_unusable hu]
  refine ⟨?_, State.raise_set _ _, ?_⟩
  · rw [State.raiseHub_sel, State.modSel_sel]
  · exact (State.raiseHub_frame _ _).comp ((State.modSel_frame _ s).weaken (by decide)) (by decide)

/-! ### What SET SOURCE answers (R18, R19, R152) -/

section Answers

variable {s : State} {r : Request} {act : Source → State → State} {x : Source}

/-- R152: a byte that names no source. -/
theorem State.setSource_of_no_source (h : sourceOfCode (byteAt r.payload 0) = none) :
    s.setSource r act = s.placeResponse r.code [3] none := by
  rw [State.setSource, h]; rfl

/-- R18, R19: a changeover is in progress. -/
theorem State.setSource_of_changeover (h : sourceOfCode (byteAt r.payload 0) = some x) {y : Source}
    (hs : s.sel.state = .changeover y) : s.setSource r act = s.placeResponse r.code [1] none := by
  simp only [State.setSource, h, hs]; rfl

/-- R18, R19: no source feeds the bus. -/
theorem State.setSource_of_no_supply (h : sourceOfCode (byteAt r.payload 0) = some x)
    (hs : s.sel.state = .start ∨ s.sel.state = .noSource ∨ s.sel.state = .cut) :
    s.setSource r act = s.placeResponse r.code [7] none := by
  rcases hs with hs | hs | hs <;> simp only [State.setSource, h, hs] <;> rfl

/-- R18, R19: the active source is named, and a pending change is discarded. -/
theorem State.setSource_of_active (h : sourceOfCode (byteAt r.payload 0) = some x)
    (hs : s.sel.state = .active x) :
    s.setSource r act = State.placeResponse r.code [0] none { s with sel := { s.sel with change := none } } := by
  have hreply : s.setSource r act = (s.modSel fun y => { y with change := none }).reply r .ok := by
    simp only [State.setSource, h, hs, if_true]
  exact hreply

/-- R18, R19: the other source is named, and the form's own action follows. -/
theorem State.setSource_of_other (h : sourceOfCode (byteAt r.payload 0) = some x) {a : Source}
    (hs : s.sel.state = .active a) (hne : a ≠ x) : s.setSource r act = act x s := by
  simp only [State.setSource, h, hs, if_neg hne]

/-- R18: an immediate request for a source that is not USABLE. -/
theorem State.setImmediate_of_unusable (h : (s.supply.get x).qual ≠ .usable) :
    s.setImmediate r x = s.placeResponse r.code [5] none :=
  if_neg fun hu => h ((s.usable_iff x).mp hu)

/-- R18: an immediate request for a USABLE source begins the changeover. -/
theorem State.setImmediate_of_usable (h : (s.supply.get x).qual = .usable) :
    s.setImmediate r x = (s.beginChangeover x).placeResponse r.code [0] none :=
  if_pos ((s.usable_iff x).mpr h)

end Answers

/-! ### The commands of SET SOURCE (R144, R152) -/

/-- The action of the form of SET SOURCE that a command executes. -/
def setSourceAct : Instr → Request → Source → State → State
  | .setSourceFrameAligned => fun r x s => s.setAligned r x
  | _ => fun r x s => s.setImmediate r x

section Commands

variable {s : State} {r : Request} {rest : List Request}

/-- A SET SOURCE of three bytes has the length of its code (R154). -/
theorem Request.lengthOk_of_setSource (hc : r.code = 33) (hl : r.payload.length = 3) : r.lengthOk = true := by
  simp [Request.lengthOk, hc, hl, requestLength]

/-- The frame-aligned form has form byte 1; the immediate row executes every other form (log 9). -/
theorem Request.row_of_setSource (hc : r.code = 33) (hl : r.payload.length = 3) :
    r.row = if byteAt r.payload 1 = 1 then .setSourceFrameAligned else .setSourceImmediate := by
  simp [Request.row, hc, hl]

/-- A SET SOURCE of a form other than frame-aligned is executed by the immediate row. -/
theorem exec_setSourceImmediate_of_executes {t : State} (he : s.Executes r rest) (hc : r.code = 33)
    (hl : r.payload.length = 3) (hf : byteAt r.payload 1 ≠ 1)
    (ht : (s.popped rest).setSourceImmediate r = t) : exec .setSourceImmediate s = .next t.selectAll := by
  rw [← ht]
  exact State.serve_of_executes he (by rw [Request.row_of_setSource hc hl, if_neg hf])
    (Request.lengthOk_of_setSource hc hl)

/-- R18, R19: each form, executed by its own command, comes to the checks that both share. -/
theorem exec_setSource_of_form {c : Instr} {t : State} (he : s.Executes r rest) (hc : r.code = 33)
    (hl : r.payload.length = 3)
    (hform : (c = .setSourceImmediate ∧ byteAt r.payload 1 = 0) ∨
      (c = .setSourceFrameAligned ∧ byteAt r.payload 1 = 1))
    (ht : (s.popped rest).setSource r (setSourceAct c r) = t) : exec c s = .next t.selectAll := by
  rcases hform with ⟨rfl, hf⟩ | ⟨rfl, hf⟩
  · exact exec_setSourceImmediate_of_executes he hc hl (by omega) ((if_pos hf).trans ht)
  · rw [← ht]
    exact State.serve_of_executes he (by rw [Request.row_of_setSource hc hl, if_pos hf])
      (Request.lengthOk_of_setSource hc hl)

/-- R152: a form of neither kind is refused; that the immediate row refuses it is the model's choice (log 9). -/
theorem exec_setSourceImmediate_of_unknown_form (he : s.Executes r rest) (hc : r.code = 33)
    (hl : r.payload.length = 3) (hf : 1 < byteAt r.payload 1) :
    exec .setSourceImmediate s = .next ((s.popped rest).placeResponse r.code [3] none).selectAll :=
  exec_setSourceImmediate_of_executes he hc hl (by omega) (if_neg (by omega))

end Commands

/-- Settles O56. Both forms come to the checks they share, whose answers the lemmas on `State.setSource` give; the
judgement of a pending change is read off `State.changeDue`. -/
theorem setSourceRequests : Obligations.SetSourceRequests := by
  refine ⟨?requests, ?judgement⟩
  case requests =>
    rintro s u ⟨code, payload⟩ rest he rfl hc hl
    obtain rfl : code = 33 := hc
    refine ⟨exec_setSourceImmediate_of_unknown_form he rfl hl, fun c hform => ?_⟩
    have run {t : State} := exec_setSource_of_form (t := t) he rfl hl hform
    refine ⟨fun hx => run (State.setSource_of_no_source hx), fun x hx =>
      ⟨fun y hs => run (State.setSource_of_changeover hx hs),
        fun hs => run (State.setSource_of_no_supply hx hs),
        fun hs => run (State.setSource_of_active hx hs), fun a hs hne => ?_⟩⟩
    have other {t : State} (ht : setSourceAct c ⟨33, payload⟩ x (s.popped rest) = t) :=
      run ((State.setSource_of_other (s := s.popped rest) hx hs hne).trans ht)
    refine ⟨?_, ?_, ?_⟩
    · rintro rfl hq
      exact other (State.setImmediate_of_unusable hq)
    · rintro rfl hq
      exact other (State.setImmediate_of_usable hq)
    · rintro rfl
      exact other rfl
  case judgement =>
    intro s c a hch ha
    refine ⟨State.judgeChange_of_ahead hch, fun hd => ?_⟩
    rw [State.judgeChange_of_due hch hd]
    refine ⟨s.changeDue_change c, fun hq hne => ?_, fun hq => ?_⟩
    · rw [State.changeDue_of_usable ha ((s.usable_iff _).mpr hq) hne, State.beginChangeover_sel]
    · rw [← ha]
      exact State.changeDue_refused fun hu => hq ((s.usable_iff _).mp hu)

end Sys2Proof.Machine

/-! SUPPORT. The derating of a curve and the budget computation (R26 to R30): what each stage gives and its range,
and the settling of O29 and O30. -/

namespace Sys2Proof.Machine

/-! ### Ascending curves (R5) -/

theorem ascending_iff_pairwise (curve : List CurvePoint) :
    ascending curve = true ↔ curve.Pairwise fun a b => a.volts < b.volts := by
  rw [← List.pairwise_map (f := CurvePoint.volts) (R := (· < ·)), ← List.isChain_iff_pairwise]
  induction curve with
  | nil => simp [ascending]
  | cons a rest ih =>
    cases rest with
    | nil => simp [ascending]
    | cons b rest => simpa [ascending] using fun _ => ih

/-! ### Interpolation (R28) -/

section Interpolation

variable {a b : CurvePoint} {v : Nat}

/-- R28: the numerator of the exact derating weighs the two percents by the distances to the far ends. -/
theorem exact_derating_numerator (a b : CurvePoint) (v : Nat) :
    (a.percent : Int) * 10 * (b.volts - a.volts) + (b.percent - a.percent) * 10 * (v - a.volts) =
      a.percent * 10 * (b.volts - v) + b.percent * 10 * (v - a.volts) := by ring

/-- R28: the exact derating, rounded down, is not below the smaller of the two end values. -/
theorem min_le_exact_derating (ha : a.volts < v) (hb : v < b.volts) :
    (min a.percent b.percent : Int) * 10 ≤
      ((a.percent : Int) * 10 * (b.volts - a.volts) + (b.percent - a.percent) * 10 * (v - a.volts)) /
        (b.volts - a.volts) := by
  rw [Int.le_ediv_iff_mul_le (by omega), exact_derating_numerator]
  have hleft : (min a.percent b.percent : Int) * (b.volts - v) ≤ a.percent * (b.volts - v) :=
    mul_le_mul_of_nonneg_right (min_le_left _ _) (by omega)
  have hright : (min a.percent b.percent : Int) * (v - a.volts) ≤ b.percent * (v - a.volts) :=
    mul_le_mul_of_nonneg_right (min_le_right _ _) (by omega)
  linarith

/-- R28: the exact derating, rounded down, is not above the larger of the two end values. -/
theorem exact_derating_le_max (ha : a.volts < v) (hb : v < b.volts) :
    ((a.percent : Int) * 10 * (b.volts - a.volts) + (b.percent - a.percent) * 10 * (v - a.volts)) /
        (b.volts - a.volts) ≤ (max a.percent b.percent : Int) * 10 := by
  refine Int.ediv_le_of_le_mul (by omega) ?_
  rw [exact_derating_numerator]
  have hleft : (a.percent : Int) * (b.volts - v) ≤ max (a.percent : Int) b.percent * (b.volts - v) :=
    mul_le_mul_of_nonneg_right (le_max_left _ _) (by omega)
  have hright : (b.percent : Int) * (v - a.volts) ≤ max (a.percent : Int) b.percent * (v - a.volts) :=
    mul_le_mul_of_nonneg_right (le_max_right _ _) (by omega)
  linarith

/-- R28: rounding the correction term down rounds the whole exact value down, as the other term is whole; and the
exact value is not negative. -/
theorem interpolate_eq (ha : a.volts < v) (hb : v < b.volts) :
    (interpolate a b v : Int) =
      ((a.percent : Int) * 10 * (b.volts - a.volts) + (b.percent - a.percent) * 10 * (v - a.volts)) /
        (b.volts - a.volts) := by
  have hwidth : (b.volts : Int) - a.volts ≠ 0 := by omega
  have hnonneg := min_le_exact_derating ha hb
  rw [Int.mul_add_ediv_right _ _ hwidth] at hnonneg ⊢
  exact Int.toNat_of_nonneg (by omega)

/-- R28: the interpolated derating lies between the two end values. -/
theorem interpolate_between (ha : a.volts < v) (hb : v < b.volts) :
    min a.percent b.percent * 10 ≤ interpolate a b v ∧ interpolate a b v ≤ max a.percent b.percent * 10 := by
  have heq := interpolate_eq ha hb
  have hmin := min_le_exact_derating ha hb
  have hmax := exact_derating_le_max ha hb
  rw [← heq] at hmin hmax
  omega

end Interpolation

/-! ### The derating (R27) -/

section DeratingCases

variable {v : Nat} {a b : CurvePoint} {before rest : List CurvePoint}

/-- R27: at the voltage of a point. -/
theorem derateFrom_of_eq (h : v = a.volts) (rest : List CurvePoint) : derateFrom v a rest = a.percent * 10 := by
  cases rest with
  | nil => rfl
  | cons b rest => rw [derateFrom, if_pos h]

/-- R27: strictly between two adjacent points. -/
theorem derateFrom_of_between (ha : a.volts < v) (hb : v < b.volts) :
    derateFrom v a (b :: rest) = interpolate a b v := by
  rw [derateFrom, if_neg (by omega), if_pos hb]

/-- R27: a point is left behind once the next one is reached. -/
theorem derateFrom_of_next_le (ha : a.volts < b.volts) (hb : b.volts ≤ v) :
    derateFrom v a (b :: rest) = derateFrom v b rest := by
  rw [derateFrom, if_neg (by omega), if_neg (by omega)]

/-- R27: on an ascending curve the derating is found from any point that V has reached; the points before it do not
matter. -/
theorem derateFrom_append (hcurve : (b :: (before ++ a :: rest)).Pairwise fun x y => x.volts < y.volts)
    (ha : a.volts ≤ v) : derateFrom v b (before ++ a :: rest) = derateFrom v a rest := by
  induction before generalizing b with
  | nil => exact derateFrom_of_next_le (List.rel_of_pairwise_cons hcurve (by simp)) ha
  | cons c before ih =>
    obtain ⟨hb, htail⟩ := List.pairwise_cons.mp hcurve
    have hc : c.volts < a.volts := List.rel_of_pairwise_cons htail (by simp)
    exact (derateFrom_of_next_le (hb c (by simp)) (by omega)).trans (ih htail)

/-- R27: below the first point. -/
theorem derate_of_lt_first (h : v < a.volts) : derate (a :: rest) v = a.percent * 10 := if_pos h

/-- R27: the derating of an ascending curve from any point that V has reached. -/
theorem derate_append (hcurve : ascending (before ++ a :: rest) = true) (ha : a.volts ≤ v) :
    derate (before ++ a :: rest) v = derateFrom v a rest := by
  rw [ascending_iff_pairwise] at hcurve
  cases before with
  | nil => exact if_neg (by omega)
  | cons b before =>
    have hb : b.volts < a.volts := List.rel_of_pairwise_cons hcurve (by simp)
    have hfirst : ¬ v < b.volts := by omega
    exact (if_neg hfirst).trans (derateFrom_append hcurve ha)

end DeratingCases

/-- Settles O29. Each clause finds its point by `derate_append` and reads the derating off from there. -/
theorem derating : Obligations.Derating := by
  intro curve v hcurve
  refine ⟨?at_point, ?below, ?above, ?between⟩
  case at_point =>
    rintro a hmem rfl
    obtain ⟨before, rest, rfl⟩ := List.append_of_mem hmem
    rw [derate_append hcurve le_rfl, derateFrom_of_eq rfl]
  case below =>
    rintro a rest rfl hv
    exact derate_of_lt_first hv
  case above =>
    rintro before a rfl hv
    exact derate_append hcurve hv
  case between =>
    rintro before a b rest rfl ha hb
    rw [derate_append hcurve ha.le, derateFrom_of_between ha hb]
    exact ⟨interpolate_eq ha hb, interpolate_between ha hb⟩

/-! ### The range of the derating (R28) -/

/-- R28: the derating from a reached point is at most the largest percent, in tenths. -/
theorem derateFrom_le {p v : Nat} {a : CurvePoint} {rest : List CurvePoint} (hp : ∀ q ∈ a :: rest, q.percent ≤ p)
    (hv : a.volts ≤ v) : derateFrom v a rest ≤ p * 10 := by
  have ha : a.percent ≤ p := hp a (by simp)
  induction rest generalizing a with
  | nil => exact Nat.mul_le_mul_right 10 ha
  | cons b rest ih =>
    have hb : b.percent ≤ p := hp b (by simp)
    rw [derateFrom]
    split
    next => omega
    next hne =>
      split
      next hlt =>
        have hmax := (interpolate_between (a := a) (by omega) hlt).2
        omega
      next hge => exact ih (fun q hq => hp q (List.mem_cons_of_mem a hq)) (by omega) hb

/-- R28: the derating is at most the largest percent of the curve, in tenths. -/
theorem derate_le {p : Nat} {curve : List CurvePoint} (hp : ∀ q ∈ curve, q.percent ≤ p) (v : Nat) :
    derate curve v ≤ p * 10 := by
  cases curve with
  | nil => exact Nat.zero_le _
  | cons a rest =>
    rw [derate]
    split
    next => exact Nat.mul_le_mul_right 10 (hp a (by simp))
    next hv => exact derateFrom_le hp (by omega)

/-- R5: the percents of a record in range are at most 100. -/
theorem SourceRecord.InRange.percent_le {r : SourceRecord} (h : r.InRange) : ∀ q ∈ r.curve, q.percent ≤ 100 := by
  obtain ⟨hvalid, -⟩ := h
  simp only [SourceRecord.valid, Bool.and_eq_true, List.all_eq_true, decide_eq_true_eq] at hvalid
  obtain ⟨⟨⟨⟨⟨-, hpoints⟩, -⟩, -⟩, -⟩, -⟩ := hvalid
  exact fun q hq => (hpoints q hq).1

/-! ### The figures (R29, R30) -/

section Figures

variable (bu : Budget) {r : SourceRecord} (v allowance headroom : Nat)

/-- R29: a record with no rated power or no current limit has no capacity. -/
theorem Budget.compute_c_of_zero (h : r.rated = 0 ∨ r.limit = 0) :
    (bu.compute r v allowance headroom).c = 0 := by
  rcases h with h | h <;> simp [Budget.compute, h]

/-- R29: the capacity is not above the capacity by rating. -/
theorem Budget.compute_c_le_cr (r : SourceRecord) :
    (bu.compute r v allowance headroom).c ≤ (bu.compute r v allowance headroom).cr :=
  Nat.min_le_left _ _

/-- R30: the available budget is not above the capacity. -/
theorem Budget.compute_b_le_c (r : SourceRecord) :
    (bu.compute r v allowance headroom).b ≤ (bu.compute r v allowance headroom).c :=
  (Nat.sub_le _ _).trans (Nat.sub_le _ _)

/-- R29: the capacity by rating of a record in range. -/
theorem Budget.compute_cr_le (h : r.InRange) : (bu.compute r v allowance headroom).cr ≤ 6000 := by
  have hderate : derate r.curve v ≤ 1000 := derate_le h.percent_le v
  obtain ⟨-, -, -, hrated, -⟩ := h
  calc r.rated * derate r.curve v / 1000
      ≤ 6000 * 1000 / 1000 := Nat.div_le_div_right (Nat.mul_le_mul hrated hderate)
    _ = 6000 := rfl

end Figures

/-! ### The computation (R26) -/

section Computation

variable {s : State} {src : Source}

theorem SelState.budgetSource_eq_none_iff (q : SelState) : q.budgetSource = none ↔ q.feeds = false := by
  cases q <;> simp [SelState.budgetSource, SelState.feeds]

theorem SelState.budgetSource_eq_some_iff (q : SelState) (src : Source) :
    q.budgetSource = some src ↔ q = .active src ∨ q = .changeover src := by
  cases q <;> simp [SelState.budgetSource]

/-- R26: the computation is skipped without a budget source. -/
theorem State.computeBudget_of_no_source (h : s.sel.state.budgetSource = none) : s.computeBudget = s := by
  simp only [State.computeBudget, h]

/-- R26, R2: the computation is skipped before the first scan. -/
theorem State.computeBudget_of_no_scan (h : s.sel.state.budgetSource = some src)
    (hring : (s.supply.get src).ring = []) : s.computeBudget = s := by
  simp only [State.computeBudget, h, SourceMonitor.average, hring, if_true]

/-- R26: the computation from the budget source and its averaged voltage. -/
theorem State.computeBudget_of_average {v : Nat} (h : s.sel.state.budgetSource = some src)
    (hv : (s.supply.get src).average = some v) :
    s.computeBudget = s.modBudget fun bu =>
      bu.compute (s.tables.source.get src) v (s.tables.budget.allowance.get src) s.tables.budget.headroom := by
  simp only [State.computeBudget, h, hv]

end Computation

/-- Settles O30. The computation is one of three: skipped for want of a source, skipped for want of a scan, or
`Budget.compute` on the budget source's record, whose figures bound each other: B ≤ C ≤ Cr ≤ 6000. -/
theorem budgetFigures : Obligations.BudgetFigures := by
  intro s
  refine ⟨?no_source, ?figures, ?ranges, ?no_scan⟩
  case no_source =>
    exact fun h => State.computeBudget_of_no_source ((SelState.budgetSource_eq_none_iff _).mpr h)
  case figures =>
    rintro src v r hsel hv rfl
    exact State.computeBudget_of_average ((SelState.budgetSource_eq_some_iff _ _).mpr hsel) hv
  case ranges =>
    intro src v hsel hv
    rw [State.computeBudget_of_average ((SelState.budgetSource_eq_some_iff _ _).mpr hsel) hv,
      State.modBudget_budget]
    refine ⟨Budget.compute_c_of_zero _ _ _ _, fun ⟨hsource, _⟩ => ?_⟩
    have hcr := s.budget.compute_cr_le v (s.tables.budget.allowance.get src) s.tables.budget.headroom (hsource src)
    have hc := (Budget.compute_c_le_cr _ _ _ _ _).trans hcr
    exact ⟨hcr, hc, (Budget.compute_b_le_c _ _ _ _ _).trans hc⟩
  case no_scan =>
    exact fun src h hring => State.computeBudget_of_no_scan h hring

end Sys2Proof.Machine

/-! SUPPORT. Admission, grants and shedding (R41, R46, R49, R52 to R58, R81): what each operation on the admission list
does, what a port keeps when its power is taken back, and the settling of O18, O20 and O22. -/

namespace Sys2Proof.Machine

/-! ### The admission list (R41) -/

section AdmissionList

variable {s : State} {e x : Entry} {p : Port}

theorem State.entryOf_port (h : s.entryOf p = some x) : x.port = p := by
  simpa using List.find?_some h

theorem State.entryOf_isSome_iff : (s.entryOf p).isSome = true ↔ ∃ x ∈ s.admission, x.port = p := by
  simp [State.entryOf, List.find?_isSome]

theorem State.putEntry_of_entry (h : (s.entryOf e.port).isSome = true) :
    s.putEntry e = { s with admission := s.admission.map fun x => if x.port = e.port then e else x } :=
  if_pos (by simpa using State.entryOf_isSome_iff.mp h)

theorem State.putEntry_of_no_entry (h : s.entryOf e.port = none) : s.putEntry e = s.addEntry e :=
  if_neg (by simpa [State.entryOf] using h)

/-- An entry that takes another's place stands for the same port. -/
theorem Entry.port_of_replaced (e x : Entry) : (if x.port = e.port then e else x).port = x.port := by
  split
  · next h => exact h.symm
  · rfl

/-- R41: the entry that is put is its port's entry, and every other port keeps its own. -/
theorem State.putEntry_entryOf (e : Entry) (s : State) (q : Port) :
    (s.putEntry e).entryOf q = if q = e.port then some e else s.entryOf q := by
  by_cases h : (s.entryOf e.port).isSome = true
  · have hmap : (s.putEntry e).entryOf q = (s.entryOf q).map fun x => if x.port = e.port then e else x := by
      simp [State.putEntry_of_entry h, State.entryOf, List.find?_map, Entry.port_of_replaced]
    rw [hmap]
    split
    · next hq =>
      subst hq
      obtain ⟨x, hx⟩ := Option.isSome_iff_exists.mp h
      simp [hx, State.entryOf_port hx]
    · next hq =>
      cases hx : s.entryOf q with
      | none => rfl
      | some x => simp [State.entryOf_port hx, hq]
  · have hnone := Option.not_isSome_iff_eq_none.mp h
    have happend : (s.putEntry e).entryOf q = (s.entryOf q).or (if e.port = q then some e else none) := by
      simp [State.putEntry_of_no_entry hnone, State.addEntry, State.entryOf, List.find?_append, List.find?_singleton]
    rw [happend]
    split
    · next hq =>
      subst hq
      simp [hnone]
    · next hq => simp [Ne.symm hq]

/-- R41: the entry takes the place of its port's entry, or the tail. -/
theorem State.putEntry_places (e : Entry) (s : State) :
    (s.putEntry e).admission.map (·.port) =
      if (s.entryOf e.port).isSome then s.admission.map (·.port) else s.admission.map (·.port) ++ [e.port] := by
  split
  · next h => simp [State.putEntry_of_entry h, Function.comp_def, Entry.port_of_replaced]
  · next h => simp [State.putEntry_of_no_entry (Option.not_isSome_iff_eq_none.mp h), State.addEntry]

end AdmissionList

/-! ### Demands (R52 to R56) -/

section Demands

variable {s : State} {p : Port} {n : Nat} {c : ClassRecord}

/-- R53: a DEMAND of a port that is not powered. -/
theorem State.demand_of_unpowered (h : (s.ports.get p).state.closed = false) :
    s.demand p n = s.countEndpoint (.port p) EndpointCounters.addMalformed :=
  if_neg (by simp [State.powered, h])

/-- R52: a DEMAND of a powered port is taken at its clamped draw. -/
theorem State.demand_of_powered (h : (s.ports.get p).state.closed = true) :
    s.demand p n =
      if s.clampDraw p n < (s.ports.get p).grant then s.demandDecrease p (s.clampDraw p n)
      else if s.clampDraw p n = (s.ports.get p).grant then s.demandEqual p
      else s.demandIncrease p (s.clampDraw p n) :=
  if_pos h

theorem State.clampDraw_of_class (hc : s.classOf p = some c) (n : Nat) :
    s.clampDraw p n = min (max n c.idleDraw) c.maxDemand := by
  rw [State.clampDraw, hc]; rfl

theorem State.waitTimer_of_class (hc : s.classOf p = some c) :
    s.waitTimer p = if c.waitLimit = 0 then none else some (c.waitLimit * 1000000) := by
  rw [State.waitTimer, hc]

/-- R54: the status of the GRANT is that of the port before the reduction, which keeps its state. -/
theorem State.demandDecrease_eq (p : Port) (d : Nat) (s : State) :
    s.demandDecrease p d = (State.postGrant p (if (s.ports.get p).state = .limit then .limit else .on)
      { s with
        ports := s.ports.set p { s.ports.get p with grant := d }
        admission := s.admission.filter fun e =>
          !(decide (e.port = p) && decide (e.reason = .increase)) }).evaluate := by
  simp only [State.demandDecrease, State.grantStatus, State.removeIncrease, State.modPort, PerPort.get_set_self]

/-- R56: an increase with no entry standing makes one at the tail. -/
theorem State.demandIncrease_of_no_entry (hc : s.classOf p = some c) (h : s.entryOf p = none) (d : Nat) :
    s.demandIncrease p d = (State.postGrant p .pending
      { s with
        admission := s.admission ++
          [{ port := p, reason := .increase, draw := d,
             wait := if c.waitLimit = 0 then none else some (c.waitLimit * 1000000),
             holdOff := none }] }).evaluate := by
  have hentry : s.increaseEntry p d = ⟨p, .increase, d, s.waitTimer p, none⟩ := by rw [State.increaseEntry, h]
  rw [State.demandIncrease, hentry, State.putEntry_of_no_entry h, State.waitTimer_of_class hc]
  rfl

/-- R56: an increase with an entry standing takes its place and its wait timer. -/
theorem State.demandIncrease_of_entry {x : Entry} (h : s.entryOf p = some x) (d : Nat) :
    s.demandIncrease p d = (State.postGrant p .pending
      { s with
        admission := s.admission.map fun e =>
          if e.port = p then { port := p, reason := .increase, draw := d, wait := x.wait, holdOff := none }
          else e }).evaluate := by
  have hentry : s.increaseEntry p d = ⟨p, .increase, d, x.wait, none⟩ := by rw [State.increaseEntry, h]
  rw [State.demandIncrease, hentry, State.putEntry_of_entry (by rw [h]; rfl)]

end Demands

/-- Settles O20. The clamped draw is below, at or above the grant; a larger one finds an entry or none. -/
theorem demandEffect : Obligations.DemandEffect := by
  intro s p n c
  refine ⟨State.demand_of_unpowered, fun hpower hc => ?_⟩
  rw [State.demand_of_powered hpower, State.clampDraw_of_class hc]
  refine ⟨fun hless => ?below, fun heq => ?equal, fun hmore hnone => ?fresh, fun x hmore hentry => ?standing⟩
  case below => rw [if_pos hless, State.demandDecrease_eq]
  case equal => rw [if_neg heq.not_lt, if_pos heq]; rfl
  case fresh => rw [if_neg hmore.not_gt, if_neg hmore.ne', State.demandIncrease_of_no_entry hc hnone]
  case standing => rw [if_neg hmore.not_gt, if_neg hmore.ne', State.demandIncrease_of_entry hentry]

/-! ### A link that enters DOWN (R92) -/

section LinkDown

variable {s : State} {p : Port}

theorem State.refsAt_congr {a b : State} (hlinks : a.links = b.links) (hqueues : a.queues = b.queues) (d : Dest) :
    a.refsAt d = b.refsAt d := by
  rw [State.refsAt, State.refsAt, hlinks, hqueues]

/-- R92: the references at a destination are that of a DATA transmission and those of its queues and timed list. -/
theorem State.refsAt_length (s : State) (d : Dest) :
    (s.refsAt d).length = (((s.links.get d).tx.map Tx.refs).getD []).length + (s.queues.get d).urgent.length +
      (s.queues.get d).bulk.length + (s.queues.get d).timed.length := by
  simp only [State.refsAt, List.length_append, List.length_map]

/-- R92: the queues and the timed list of the port are flushed. -/
theorem State.portLinkDown_queues (h : s.linkState (.port p) ≠ .down) :
    (s.portLinkDown p).queues.get (.port p) = Queues.reset := by
  rw [State.portLinkDown, if_neg h]
  have hrelease : ∀ (y : State) is, (y.releaseRefs is).queues = y.queues :=
    fun y is => y.releaseRefs_frame is .queues (by decide)
  simp [State.flushLink, hrelease]

/-- R92: the GRANT slot of the port is emptied if its link was not DOWN, and no other slot changes. -/
theorem State.portLinkDown_grantSlots (p : Port) (s : State) (q : Port) :
    (s.portLinkDown p).grantSlots.get q =
      if q = p ∧ s.linkState (.port p) ≠ .down then none else s.grantSlots.get q := by
  by_cases h : s.linkState (.port p) = .down
  · rw [State.portLinkDown_of_down p s h, if_neg (by simp [h])]
  · rw [State.portLinkDown, if_neg h]
    have hflush : ∀ y : State, (y.flushLink (.port p)).grantSlots = y.grantSlots :=
      fun y => y.flushLink_frame _ .grantSlots (by decide)
    simp [hflush, PerPort.get_set, h]

/-- R92: no counter of a port but its drops is touched. -/
theorem State.portLinkDown_portCounters (p : Port) (s : State) :
    (s.portLinkDown p).counters.port = s.counters.port := by
  by_cases h : s.linkState (.port p) = .down
  · rw [State.portLinkDown_of_down p s h]
  · have hrelease : ∀ (y : State) is, (y.releaseRefs is).counters = y.counters :=
      fun y is => y.releaseRefs_frame is .counters (by decide)
    simp [State.portLinkDown, h, State.flushLink, hrelease, State.countEndpoint]

/-- R92, R121: a link that is DOWN stays so while another is flushed. -/
theorem State.flushLink_linkState_of_down (d : Dest) {x : Dest} (hx : s.linkState x = .down) :
    (s.flushLink d).linkState x = .down := by
  by_cases hd : x = d
  · rw [hd]
    exact congrArg Link.state (State.flushLink_link d s)
  · have hrelease : ∀ y : State, y.linkState x = .down → ∀ is, (y.releaseRefs is).linkState x = .down :=
      fun y hy is => (congrArg Link.state
        (State.foldl_link_of_down (fun s i h => s.releaseRef_link_of_down i x h) is y hy)).trans hy
    refine hrelease _ ?_ _
    rw [← hx]
    exact congrArg Link.state (PerDest.get_set_of_ne _ _ _ _ hd)

theorem State.portLinkDown_linkState_of_down (p : Port) {x : Dest} (hx : s.linkState x = .down) :
    (s.portLinkDown p).linkState x = .down := by
  by_cases hp : x = .port p
  · rw [hp, State.portLinkDown_linkState]
  · by_cases h : s.linkState (.port p) = .down
    · rw [State.portLinkDown_of_down p s h, hx]
    · rw [State.portLinkDown, if_neg h, State.linkState, State.modLink_links, PerDest.get_set_of_ne _ _ _ _ hp]
      exact State.flushLink_linkState_of_down (s := s.modGrantSlot p none) (.port p) hx

end LinkDown

/-! ### A port that loses its power to the admission unit or the selector (R81) -/

/-- R81: the power unit that a shed or a loss of supply leaves in WAITING. -/
def PortUnit.toWaiting (u : PortUnit) : PortUnit := { u.unpowered with state := .waiting, grant := 0 }

/-- R49, R58, R81: the part that a shed and a loss of supply share, before the link goes down. -/
def State.unpower (p : Port) (s : State) : State :=
  ((s.leaveGranted p).setPortState p .waiting).modPort p PortUnit.unpowered

theorem State.unpower_frame (p : Port) (s : State) : (s.unpower p).SameBut [.granted, .ports, .events] s :=
  (State.modPort_frame p _ _).comp ((State.setPortState_frame p _ _).comp
    ((State.leaveGranted_frame p s).weaken (by decide)) (by decide)) (by decide)

theorem State.unpower_granted (p : Port) (s : State) :
    (s.unpower p).granted = s.granted.filter fun q => decide (q ≠ p) :=
  State.setPortState_frame p .waiting _ .granted (by decide)

theorem State.unpower_port (p : Port) (s : State) (q : Port) :
    (s.unpower p).ports.get q = if q = p then (s.ports.get q).toWaiting else s.ports.get q := by
  by_cases hq : q = p
  · subst hq
    simp [State.unpower, State.setPortState_port, State.leaveGranted, PortUnit.toWaiting, PortUnit.unpowered]
  · simp [State.unpower, State.setPortState_port, State.leaveGranted, PerPort.get_set_of_ne _ _ _ _ hq, hq]

theorem State.unpower_linkState (p : Port) (s : State) (d : Dest) : (s.unpower p).linkState d = s.linkState d :=
  congrArg (fun links : PerDest Link => (links.get d).state) (s.unpower_frame p .links (by decide))

/-! ### Shedding (R49) -/

/-- R49: the entry that a shed makes. -/
def State.shedEntry (s : State) (p : Port) : Entry :=
  { port := p, reason := .shed, draw := s.clampDraw p (s.ports.get p).grant, wait := none, holdOff := s.holdOffTimer }

theorem State.shed_eq (p : Port) (s : State) :
    s.shed p = (((s.unpower p).portLinkDown p).putEntry (s.shedEntry p)).countPort p PortCounters.addShed :=
  rfl

section Shed

variable {s : State} {p : Port}

/-- R49: after the link is down, only the admission list and a counter change. -/
theorem State.shed_after_linkDown (p : Port) (s : State) :
    (s.shed p).SameBut [.admission, .counters] ((s.unpower p).portLinkDown p) :=
  (State.countPort_frame p _ _).comp ((State.putEntry_frame _ _).weaken (by decide)) (by decide)

theorem State.shed_granted (p : Port) (s : State) : (s.shed p).granted = s.granted.filter fun q => decide (q ≠ p) :=
  calc (s.shed p).granted
      = ((s.unpower p).portLinkDown p).granted := s.shed_after_linkDown p .granted (by decide)
    _ = (s.unpower p).granted := State.portLinkDown_frame p _ .granted (by decide)
    _ = _ := s.unpower_granted p

theorem State.shed_port (p : Port) (s : State) (q : Port) :
    (s.shed p).ports.get q = if q = p then (s.ports.get q).toWaiting else s.ports.get q := by
  have hports : (s.shed p).ports = (s.unpower p).ports :=
    (s.shed_after_linkDown p .ports (by decide)).trans (State.portLinkDown_frame p _ .ports (by decide))
  rw [hports, State.unpower_port]

theorem State.shed_links (p : Port) (s : State) : (s.shed p).links = ((s.unpower p).portLinkDown p).links :=
  s.shed_after_linkDown p .links (by decide)

theorem State.shed_linkState (p : Port) (s : State) : (s.shed p).linkState (.port p) = .down := by
  rw [State.linkState, State.shed_links]
  exact State.portLinkDown_linkState p _

/-- R92: the link that a shed takes down. -/
theorem State.shed_link (h : s.linkState (.port p) ≠ .down) :
    (s.shed p).links.get (.port p) = { Link.reset with downAt := some s.now } := by
  rw [State.shed_links, State.portLinkDown_link p _ (by rwa [State.unpower_linkState])]
  exact congrArg (fun now => { Link.reset with downAt := some now }) (s.unpower_frame p .now (by decide))

theorem State.shed_queues (h : s.linkState (.port p) ≠ .down) : (s.shed p).queues.get (.port p) = Queues.reset := by
  have hqueues : (s.shed p).queues = ((s.unpower p).portLinkDown p).queues :=
    s.shed_after_linkDown p .queues (by decide)
  rw [hqueues, State.portLinkDown_queues (by rwa [State.unpower_linkState])]

theorem State.shed_grantSlots (p : Port) (s : State) (q : Port) :
    (s.shed p).grantSlots.get q = if q = p ∧ s.linkState (.port p) ≠ .down then none else s.grantSlots.get q := by
  have hslots : (s.shed p).grantSlots = ((s.unpower p).portLinkDown p).grantSlots :=
    s.shed_after_linkDown p .grantSlots (by decide)
  have hunpower : (s.unpower p).grantSlots = s.grantSlots := s.unpower_frame p .grantSlots (by decide)
  rw [hslots, State.portLinkDown_grantSlots, State.unpower_linkState, hunpower]

/-- R41: the entry is put on the list as it stood before the shed. -/
theorem State.shed_admission (p : Port) (s : State) :
    (s.shed p).admission = (s.putEntry (s.shedEntry p)).admission := by
  have hlist : ((s.unpower p).portLinkDown p).admission = s.admission :=
    (State.portLinkDown_frame p _ .admission (by decide)).trans (s.unpower_frame p .admission (by decide))
  simp only [State.shed_eq, State.countPort_admission, State.putEntry, hlist]
  split
  · rfl
  · simp only [State.addEntry, hlist]

theorem State.shed_entryOf (p : Port) (s : State) (q : Port) :
    (s.shed p).entryOf q = if q = p then some (s.shedEntry p) else s.entryOf q := by
  rw [State.entryOf, State.shed_admission]
  exact State.putEntry_entryOf (s.shedEntry p) s q

theorem State.shed_counters (p : Port) (s : State) :
    (s.shed p).counters = (((s.unpower p).portLinkDown p).countPort p PortCounters.addShed).counters := by
  have hput : ∀ (y : State) e, (y.putEntry e).counters = y.counters :=
    fun y e => y.putEntry_frame e .counters (by decide)
  rw [State.shed_eq, State.countPort, hput]
  rfl

/-- R92: the link-down drops of a shed, at the port and at no other endpoint. -/
theorem State.shed_endpoint (p : Port) (s : State) (d : Dest) :
    (s.shed p).counters.endpoint.get d =
      if d = .port p ∧ s.linkState d ≠ .down then (s.counters.endpoint.get d).addLinkDown (s.refsAt d).length
      else s.counters.endpoint.get d := by
  have hcounters : (s.unpower p).counters = s.counters := s.unpower_frame p .counters (by decide)
  have hlast : (s.shed p).counters.endpoint = ((s.unpower p).portLinkDown p).counters.endpoint := by
    rw [State.shed_counters]
    rfl
  rw [hlast]
  by_cases h : s.linkState (.port p) = .down
  · rw [State.portLinkDown_of_down p _ (by rwa [State.unpower_linkState]), hcounters, if_neg]
    rintro ⟨rfl, hup⟩
    exact hup h
  · rw [State.portLinkDown_endpoint p d _ (by rwa [State.unpower_linkState]), hcounters,
      State.refsAt_congr (s.unpower_frame p .links (by decide)) (s.unpower_frame p .queues (by decide))]
    by_cases hd : d = .port p
    · subst hd
      rw [if_pos rfl, if_pos ⟨rfl, h⟩]
    · rw [if_neg hd, if_neg fun hboth => hd hboth.1]

theorem State.shed_sheds (p : Port) (s : State) :
    ((s.shed p).counters.port.get p).sheds = (s.counters.port.get p).sheds + 1 := by
  have hcounters : (s.unpower p).counters = s.counters := s.unpower_frame p .counters (by decide)
  simp only [State.shed_counters, State.countPort, PerPort.get_set_self, PortCounters.addShed,
    State.portLinkDown_portCounters, hcounters]

/-- R31: a port that leaves a list of different ports takes its grant out of the sum. -/
theorem sum_filter_ne_add {l : List Port} (hnodup : l.Nodup) (hp : p ∈ l) (f : Port → Nat) :
    ((l.filter fun q => decide (q ≠ p)).map f).sum + f p = (l.map f).sum := by
  have herase : (l.filter fun q => decide (q ≠ p)) = l.erase p := by
    rw [hnodup.erase_eq_filter]
    exact List.filter_congr fun q _ => by by_cases h : q = p <;> simp [h]
  rw [herase, Nat.add_comm, List.sum_map_erase _ hp]

/-- R31, R49: F rises by the grant that the shed releases. -/
theorem State.shed_free (hnodup : s.granted.Nodup) (hp : p ∈ s.granted) :
    (s.shed p).free = s.free + ((s.ports.get p).grant : Int) := by
  have hbudget : (s.shed p).budget = s.budget := s.shed_frame p .budget (by decide)
  have hothers : (s.shed p).grantedSum =
      ((s.granted.filter fun q => decide (q ≠ p)).map fun q => (s.ports.get q).grant).sum := by
    rw [State.grantedSum, State.shed_granted]
    refine congrArg List.sum (List.map_congr_left fun q hq => ?_)
    rw [State.shed_port, if_neg (by simpa using List.of_mem_filter hq)]
  have hsum : (s.shed p).grantedSum + (s.ports.get p).grant = s.grantedSum := by
    rw [hothers]
    exact sum_filter_ne_add hnodup hp _
  rw [State.free, State.free, hbudget]
  omega

end Shed

/-- Settles O18. Each clause is what one of the parts of `State.shed` does: the port leaves the list with its power,
its link goes down, its entry is put, its counter rises. -/
theorem shedEffect : Obligations.ShedEffect := by
  rintro s p ⟨hnodup, -⟩ - hp
  have hself : (s.shed p).ports.get p = (s.ports.get p).toWaiting := by rw [State.shed_port, if_pos rfl]
  rw [hself]
  refine ⟨s.shed_granted p, rfl, rfl, rfl, rfl, rfl, rfl, fun q hq => by rw [State.shed_port, if_neg hq],
    State.shed_free hnodup hp, s.shed_linkState p, fun hlink => ?link, fun d => ?drops, ?entry, ?places,
    fun q hq => by rw [State.shed_entryOf, if_neg hq], s.shed_sheds p, fun q => ?slots, s.shed_frame p⟩
  case link =>
    refine ⟨State.shed_queues hlink, ?_⟩
    rw [State.shed_link hlink]
    exact ⟨rfl, rfl, rfl, rfl⟩
  case drops =>
    rw [State.shed_endpoint]
    by_cases hd : d = .port p
    · subst hd
      rw [State.refsAt_length]
      cases (s.links.get (.port p)).tx with
      | none => rfl
      | some t =>
        obtain ⟨kind, bytes⟩ := t
        cases kind <;> rfl
    · rw [if_neg fun h => hd h.1, if_neg fun h => hd h.1]
  case entry =>
    rw [State.shed_entryOf, if_pos rfl]
    rfl
  case places =>
    rw [State.shed_admission]
    exact State.putEntry_places (s.shedEntry p) s
  case slots =>
    rw [State.shed_grantSlots]
    split
    · next h => exact .inr ⟨h.1, rfl⟩
    · exact .inl rfl

/-! ### Loss of supply (R12, R58) -/

/-- R58: the entry that a loss of supply makes. -/
def State.supplyEntry (s : State) (p : Port) : Entry :=
  { port := p, reason := .supply, draw := s.clampDraw p (s.ports.get p).grant, wait := none, holdOff := none }

/-- R58: the ports of a list lose their supply one after another. -/
def State.losePorts (l : List Port) (s : State) : State := l.foldl (fun s p => s.losePort p) s

theorem State.losePorts_cons (p : Port) (l : List Port) (s : State) :
    s.losePorts (p :: l) = (s.losePort p).losePorts l :=
  rfl

theorem State.losePort_eq (p : Port) (s : State) :
    s.losePort p = (((s.removeIncrease p).unpower p).portLinkDown p).addEntry (s.supplyEntry p) :=
  rfl

section SupplyLoss

/-- A loss of supply acts on the lists before the link goes down, and on the admission list once more after it. -/
theorem State.losePort_after_linkDown (p : Port) (s : State) :
    (s.losePort p).SameBut [.admission] (((s.removeIncrease p).unpower p).portLinkDown p) :=
  State.addEntry_frame _ _

theorem State.losePort_granted (p : Port) (s : State) :
    (s.losePort p).granted = s.granted.filter fun q => decide (q ≠ p) :=
  calc (s.losePort p).granted
      = (((s.removeIncrease p).unpower p).portLinkDown p).granted := s.losePort_after_linkDown p .granted (by decide)
    _ = ((s.removeIncrease p).unpower p).granted := State.portLinkDown_frame p _ .granted (by decide)
    _ = _ := State.unpower_granted p _

theorem State.losePort_port (p : Port) (s : State) (q : Port) :
    (s.losePort p).ports.get q = if q = p then (s.ports.get q).toWaiting else s.ports.get q := by
  have hports : (s.losePort p).ports = ((s.removeIncrease p).unpower p).ports :=
    (s.losePort_after_linkDown p .ports (by decide)).trans (State.portLinkDown_frame p _ .ports (by decide))
  rw [hports, State.unpower_port]
  rfl

theorem State.losePort_admission (p : Port) (s : State) :
    (s.losePort p).admission =
      (s.admission.filter fun e => !(decide (e.port = p) && decide (e.reason = .increase))) ++ [s.supplyEntry p] := by
  have hlist : (((s.removeIncrease p).unpower p).portLinkDown p).admission = (s.removeIncrease p).admission :=
    (State.portLinkDown_frame p _ .admission (by decide)).trans (State.unpower_frame p _ .admission (by decide))
  rw [State.losePort_eq, State.addEntry, hlist]
  rfl

theorem State.losePort_linkState (p : Port) (s : State) : (s.losePort p).linkState (.port p) = .down :=
  State.portLinkDown_linkState p _

theorem State.losePort_linkState_of_down (p : Port) {s : State} {x : Dest} (h : s.linkState x = .down) :
    (s.losePort p).linkState x = .down :=
  State.portLinkDown_linkState_of_down (s := (s.removeIncrease p).unpower p) p
    ((State.unpower_linkState p _ x).trans h)

/-- R58: what the entry of a port is made from stands while another port loses its supply. -/
theorem State.losePort_supplyEntry {p q : Port} (hq : q ≠ p) (s : State) :
    (s.losePort p).supplyEntry q = s.supplyEntry q := by
  have htables : (s.losePort p).tables = s.tables := s.losePort_frame p .tables (by decide)
  have hport : (s.losePort p).ports.get q = s.ports.get q := by rw [State.losePort_port, if_neg hq]
  simp only [State.supplyEntry, State.clampDraw, State.classOf, htables, hport]

variable {l : List Port}

theorem State.losePorts_granted (l : List Port) (s : State) :
    (s.losePorts l).granted = s.granted.filter fun q => decide (q ∉ l) := by
  induction l generalizing s with
  | nil => simp [State.losePorts]
  | cons p l ih =>
    rw [State.losePorts_cons, ih, State.losePort_granted, List.filter_filter]
    simp [not_or, Bool.and_comm]

theorem State.losePorts_port (hl : l.Nodup) (s : State) (q : Port) :
    (s.losePorts l).ports.get q = if q ∈ l then (s.ports.get q).toWaiting else s.ports.get q := by
  induction l generalizing s with
  | nil => rfl
  | cons p l ih =>
    obtain ⟨hp, hl⟩ := List.nodup_cons.mp hl
    rw [State.losePorts_cons, ih hl, State.losePort_port]
    by_cases hq : q = p
    · subst hq; simp [hp]
    · simp [hq]

theorem State.losePorts_linkState_of_down {x : Dest} {s : State} (h : s.linkState x = .down) :
    (s.losePorts l).linkState x = .down := by
  induction l generalizing s with
  | nil => exact h
  | cons p l ih => exact ih (State.losePort_linkState_of_down p h)

theorem State.losePorts_linkState {q : Port} (hq : q ∈ l) (s : State) :
    (s.losePorts l).linkState (.port q) = .down := by
  induction l generalizing s with
  | nil => cases hq
  | cons p l ih =>
    rw [State.losePorts_cons]
    rcases List.mem_cons.mp hq with rfl | hq
    · exact State.losePorts_linkState_of_down (s.losePort_linkState q)
    · exact ih hq _

/-- R58: the INCREASE entries of the list's ports are gone and their SUPPLY entries stand at the tail, in its order. -/
theorem State.losePorts_admission (hl : l.Nodup) (s : State) :
    (s.losePorts l).admission =
      (s.admission.filter fun e => !(decide (e.reason = .increase) && decide (e.port ∈ l))) ++
        l.map s.supplyEntry := by
  induction l generalizing s with
  | nil => simp [State.losePorts]
  | cons p l ih =>
    obtain ⟨hp, hl⟩ := List.nodup_cons.mp hl
    have hentries : l.map (s.losePort p).supplyEntry = l.map s.supplyEntry :=
      List.map_congr_left fun q hq => State.losePort_supplyEntry (ne_of_mem_of_not_mem hq hp) s
    have hkept : ([s.supplyEntry p].filter fun e => !(decide (e.reason = .increase) && decide (e.port ∈ l))) =
        [s.supplyEntry p] := rfl
    have hgone : ∀ e : Entry, (!(decide (e.reason = .increase) && decide (e.port ∈ l)) &&
        !(decide (e.port = p) && decide (e.reason = .increase))) =
        !(decide (e.reason = .increase) && decide (e.port ∈ p :: l)) := by
      intro e
      by_cases hport : e.port = p <;> by_cases hreason : e.reason = .increase <;> simp [hport, hreason]
    calc (s.losePorts (p :: l)).admission
        = ((s.losePort p).admission.filter fun e => !(decide (e.reason = .increase) && decide (e.port ∈ l))) ++
            l.map (s.losePort p).supplyEntry := ih hl _
      _ = (s.admission.filter fun e => !(decide (e.reason = .increase) && decide (e.port ∈ p :: l))) ++
            (p :: l).map s.supplyEntry := by
          rw [hentries, State.losePort_admission, List.filter_append, hkept, List.filter_filter]
          simp only [hgone, List.append_assoc, List.map_cons, List.singleton_append]

end SupplyLoss

/-- Settles O22. The loss is a fold over the granted list, each port of which keeps its grant until its turn. -/
theorem supplyLossOrder : Obligations.SupplyLossOrder := by
  rintro s ⟨hnodup, -⟩
  have hfold : s.supplyLoss = s.losePorts s.granted := rfl
  have hgranted : s.supplyLoss.granted = [] := by
    rw [hfold, State.losePorts_granted]
    simp
  refine ⟨hgranted, by rw [State.grantedSum, hgranted]; rfl, State.losePorts_admission hnodup s,
    fun p hp => ?lost, fun p hp => ?others, s.supplyLoss_frame⟩
  case lost =>
    rw [hfold, State.losePorts_port hnodup, if_pos hp]
    exact ⟨rfl, rfl, State.losePorts_linkState hp s⟩
  case others => rw [hfold, State.losePorts_port hnodup, if_neg hp]

end Sys2Proof.Machine

/-! SUPPORT. The port power switches (R57, R68 to R77, R82 to R84): what an evaluation leaves of a port that takes no
part in it, what a trip, a step period, the over-draw judgement and PORT CONTROL do, and the settling of O33, O34, O36
and O57. -/

namespace Sys2Proof.Machine

/-! ### Event marks (R62, R156) -/

/-- R62: taking a state clears no item. -/
theorem State.setPortState_set_of_set (p : Port) (st : PortState) (s : State) (i : Item)
    (h : (s.events.marks i).set = true) : ((s.setPortState p st).events.marks i).set = true := by
  unfold State.setPortState
  split
  · exact h
  · exact State.raise_set_of_set _ _ _ h

/-- R62: a change of state sets the port's mark. -/
theorem State.setPortState_mark {p : Port} {st : PortState} {s : State} (h : (s.ports.get p).state ≠ st) :
    ((s.setPortState p st).events.marks (.mark p)).set = true := by
  rw [State.setPortState, if_neg h]
  exact State.raise_set _ _

/-- R62: taking a state touches the marks of no other item. -/
theorem State.setPortState_marks_of_ne (p : Port) (st : PortState) (s : State) {i : Item} (h : i ≠ .mark p) :
    (s.setPortState p st).events.marks i = s.events.marks i := by
  unfold State.setPortState
  split
  · rfl
  · rw [State.raise_marks, if_neg h]
    rfl

/-! ### What every step of an evaluation keeps, the evaluation keeps (R44 to R46) -/

/-- A fold that keeps what it has or takes the next element picks an element of its list. -/
theorem foldl_pick_mem {α : Type} {f : Option α → α → Option α} {l : List α} {a : α}
    (h : l.foldl f none = some a) (hf : ∀ best b, f best b = best ∨ f best b = some b) : a ∈ l := by
  have hpick : ∀ (l : List α) start, l.foldl f start = some a → start = some a ∨ a ∈ l := by
    intro l
    induction l with
    | nil => exact fun start h => .inl h
    | cons b l ih =>
      intro start h
      rcases ih _ h with hfirst | hlater
      · rcases hf start b with hkeep | htake
        · exact .inl (hkeep.symm.trans hfirst)
        · exact .inr (by simp [Option.some.inj (htake.symm.trans hfirst)])
      · exact .inr (List.mem_cons_of_mem b hlater)
  exact (hpick l none h).resolve_left (by simp)

/-- R46: a victim is on the granted list. -/
theorem State.victim_mem {s : State} {candidate : Port → Bool} {q : Port} (h : s.victim candidate = some q) :
    q ∈ s.granted :=
  foldl_pick_mem h fun best p => by cases best <;> grind

/-- R42: the head is on the admission list. -/
theorem State.head_mem {s : State} {e : Entry} (h : s.head = some e) : e ∈ s.admission :=
  foldl_pick_mem h fun best x => by cases best <;> grind

section Evaluation

variable {P : State → Prop} {good : Entry → Prop}

/-- R46: what each shed keeps, shedding keeps. -/
theorem State.shedLoop_keeps (hshed : ∀ s q, P s → q ∈ s.granted → P (s.shed q))
    (candidate : State → Port → Bool) (need : Int) (n : Nat) {s : State} (h : P s) :
    P (State.shedLoop candidate need n s) := by
  induction n generalizing s with
  | zero => exact h
  | succ n ih =>
    unfold State.shedLoop
    split
    · exact h
    · split
      · exact h
      · next q hq => exact ih (hshed s q h (State.victim_mem hq))

/-- R45: what each shed and each grant keeps, the steps of an evaluation keep. -/
theorem State.evaluateLoop_keeps (hgood : ∀ s, P s → ∀ e ∈ s.admission, good e)
    (hgrant : ∀ s e, P s → good e → P (s.grantHead e)) (hshed : ∀ s q, P s → q ∈ s.granted → P (s.shed q))
    (n : Nat) {s : State} (h : P s) : P (State.evaluateLoop n s) := by
  induction n generalizing s with
  | zero => exact h
  | succ n ih =>
    unfold State.evaluateLoop
    split
    · exact h
    · next e he =>
      have hhead : good e := hgood s h e (State.head_mem he)
      split
      · exact ih (hgrant s e h hhead)
      · split
        · exact ih (hgrant _ e (State.shedLoop_keeps hshed _ _ _ h) hhead)
        · exact h

/-- R44, R45: an evaluation keeps what each shed keeps, and each grant of an entry that may stand on the list. -/
theorem State.evaluate_keeps (hgood : ∀ s, P s → ∀ e ∈ s.admission, good e)
    (hgrant : ∀ s e, P s → good e → P (s.grantHead e)) (hshed : ∀ s q, P s → q ∈ s.granted → P (s.shed q))
    {s : State} (h : P s) : P s.evaluate := by
  unfold State.evaluate
  split
  · exact State.evaluateLoop_keeps hgood hgrant hshed _ h
  · exact h

end Evaluation

/-! ### A port that takes no part in an evaluation (R41, R43, R92) -/

/-- The port is on neither list and its link is DOWN, and since an earlier state nothing of its own has changed and
no event item has been cleared. -/
structure State.Aside (p : Port) (earlier s : State) : Prop where
  granted : p ∉ s.granted
  entry : s.entryOf p = none
  link : s.linkState (.port p) = .down
  unit : s.ports.get p = earlier.ports.get p
  slot : s.grantSlots.get p = earlier.grantSlots.get p
  queues : s.queues.get (.port p) = earlier.queues.get (.port p)
  endpoint : s.counters.endpoint.get (.port p) = earlier.counters.endpoint.get (.port p)
  counts : s.counters.port.get p = earlier.counters.port.get p
  marks : ∀ i, (earlier.events.marks i).set = true → (s.events.marks i).set = true

section Aside

variable {p q : Port} {a s : State}

theorem State.Aside.refl (hgranted : p ∉ s.granted) (hentry : s.entryOf p = none)
    (hlink : s.linkState (.port p) = .down) : State.Aside p s s :=
  ⟨hgranted, hentry, hlink, rfl, rfl, rfl, rfl, rfl, fun _ h => h⟩

theorem State.entryOf_eq_none_iff : s.entryOf p = none ↔ ∀ e ∈ s.admission, e.port ≠ p := by
  simp [State.entryOf]

theorem Port.dest_ne (h : p ≠ q) : Dest.port p ≠ .port q := fun e => h (Dest.port.inj e)

theorem State.Aside.modPort (h : State.Aside p a s) (hq : p ≠ q) (f : PortUnit → PortUnit) :
    State.Aside p a (s.modPort q f) :=
  { h with unit := (PerPort.get_set_of_ne _ _ _ _ hq).trans h.unit }

theorem State.Aside.setPortState (h : State.Aside p a s) (hq : p ≠ q) (st : PortState) :
    State.Aside p a (s.setPortState q st) := by
  have hframe := s.setPortState_frame q st
  refine ⟨?_, ?_, ?_, ?_, ?_, ?_, ?_, ?_, fun i hi => State.setPortState_set_of_set q st s i (h.marks i hi)⟩
  · rw [hframe .granted (by decide)]; exact h.granted
  · rw [State.entryOf, hframe .admission (by decide)]; exact h.entry
  · rw [State.linkState, hframe .links (by decide)]; exact h.link
  · rw [State.setPortState_port, if_neg hq]; exact h.unit
  · rw [hframe .grantSlots (by decide)]; exact h.slot
  · rw [hframe .queues (by decide)]; exact h.queues
  · rw [hframe .counters (by decide)]; exact h.endpoint
  · rw [hframe .counters (by decide)]; exact h.counts

theorem State.Aside.leaveGranted (h : State.Aside p a s) (hq : p ≠ q) : State.Aside p a (s.leaveGranted q) :=
  { h.modPort hq fun u => { u with grant := 0 } with
    granted := fun hmem => h.granted (List.mem_of_mem_filter hmem) }

theorem State.Aside.removeEntry (h : State.Aside p a s) (q : Port) : State.Aside p a (s.removeEntry q) :=
  { h with
    entry := State.entryOf_eq_none_iff.mpr fun e he =>
      State.entryOf_eq_none_iff.mp h.entry e (List.mem_of_mem_filter he) }

theorem State.Aside.toTail (h : State.Aside p a s) (hq : p ≠ q) : State.Aside p a (s.toTail q) :=
  { h with
    granted := fun hmem => by
      rcases List.mem_append.mp hmem with hkept | htail
      · exact h.granted (List.mem_of_mem_filter hkept)
      · exact hq (List.mem_singleton.mp htail) }

theorem State.Aside.putEntry {e : Entry} (h : State.Aside p a s) (he : p ≠ e.port) :
    State.Aside p a (s.putEntry e) := by
  have hentry : (s.putEntry e).entryOf p = none := by
    rw [State.putEntry_entryOf, if_neg he]; exact h.entry
  by_cases hsome : (s.entryOf e.port).isSome = true
  · rw [State.putEntry_of_entry hsome] at hentry ⊢
    exact { h with entry := hentry }
  · rw [State.putEntry_of_no_entry (Option.not_isSome_iff_eq_none.mp hsome)] at hentry ⊢
    exact { h with entry := hentry }

theorem State.Aside.countPort (h : State.Aside p a s) (hq : p ≠ q) (f : PortCounters → PortCounters) :
    State.Aside p a (s.countPort q f) :=
  { h with counts := (PerPort.get_set_of_ne _ _ _ _ hq).trans h.counts }

theorem State.Aside.postGrant (h : State.Aside p a s) (hq : p ≠ q) (st : GrantStatus) :
    State.Aside p a (s.postGrant q st) := by
  unfold State.postGrant
  split
  · exact h
  · exact { h with slot := (PerPort.get_set_of_ne _ _ _ _ hq).trans h.slot }

theorem State.Aside.portLinkWait (h : State.Aside p a s) (hq : p ≠ q) : State.Aside p a (s.portLinkWait q) :=
  { h with link := (congrArg Link.state (PerDest.get_set_of_ne _ _ _ _ (Port.dest_ne hq))).trans h.link }

theorem State.Aside.enterRamp (h : State.Aside p a s) (hq : p ≠ q) : State.Aside p a (s.enterRamp q) :=
  ((h.setPortState hq .ramp).modPort hq _).portLinkWait hq

/-- R92: the queues of a port stand while another port's link goes down. -/
theorem State.portLinkDown_queues_of_ne (hq : p ≠ q) (s : State) :
    (s.portLinkDown q).queues.get (.port p) = s.queues.get (.port p) := by
  unfold State.portLinkDown
  split
  · rfl
  · have hrelease : ∀ (y : State) is, (y.releaseRefs is).queues = y.queues :=
      fun y is => y.releaseRefs_frame is .queues (by decide)
    simp [State.flushLink, hrelease, PerDest.get_set_of_ne _ _ _ _ (Port.dest_ne hq)]

theorem State.Aside.portLinkDown (h : State.Aside p a s) (hq : p ≠ q) : State.Aside p a (s.portLinkDown q) := by
  have hframe := s.portLinkDown_frame q
  refine ⟨?_, ?_, State.portLinkDown_linkState_of_down q h.link, ?_, ?_, ?_, ?_, ?_, ?_⟩
  · rw [hframe .granted (by decide)]; exact h.granted
  · rw [State.entryOf, hframe .admission (by decide)]; exact h.entry
  · rw [hframe .ports (by decide)]; exact h.unit
  · rw [State.portLinkDown_grantSlots, if_neg fun hboth => hq hboth.1]; exact h.slot
  · rw [State.portLinkDown_queues_of_ne hq]; exact h.queues
  · by_cases hdown : s.linkState (.port q) = .down
    · rw [State.portLinkDown_of_down q s hdown]; exact h.endpoint
    · rw [State.portLinkDown_endpoint q _ s hdown, if_neg (Port.dest_ne hq)]; exact h.endpoint
  · rw [State.portLinkDown_portCounters]; exact h.counts
  · rw [hframe .events (by decide)]; exact h.marks

theorem State.Aside.shed (h : State.Aside p a s) (hq : p ≠ q) : State.Aside p a (s.shed q) :=
  (((((h.leaveGranted hq).setPortState hq _).modPort hq _).portLinkDown hq).putEntry hq).countPort hq _

theorem State.Aside.grantHead {e : Entry} (h : State.Aside p a s) (he : p ≠ e.port) :
    State.Aside p a (s.grantHead e) := by
  have hlists : State.Aside p a
      (((s.modPort e.port fun u => { u with grant := e.draw }).removeEntry e.port).toTail e.port) :=
    ((h.modPort he _).removeEntry _).toTail he
  unfold State.grantHead
  dsimp only
  split
  · exact (hlists.postGrant he _).countPort he _
  · exact ((hlists.enterRamp he).postGrant he _).countPort he _

/-- R44 to R46: an evaluation leaves a port that takes no part in it. -/
theorem State.Aside.evaluate (h : State.Aside p a s) : State.Aside p a s.evaluate :=
  State.evaluate_keeps (P := State.Aside p a) (good := fun e => p ≠ e.port)
    (fun _ hs e he => (State.entryOf_eq_none_iff.mp hs.entry e he).symm)
    (fun _ _ hs he => hs.grantHead he)
    (fun _ _ hs hq => hs.shed fun hp => hs.granted (hp ▸ hq)) h

/-- R57: the same of the evaluation that follows a release. -/
theorem State.Aside.evaluateIf (h : State.Aside p a s) (released : Bool) : State.Aside p a (s.evaluateIf released) := by
  unfold State.evaluateIf
  split
  · exact h.evaluate
  · exact h

end Aside

/-! ### Running an event -/

/-- Log 5: with RESET released, an event takes its effect and selection follows. -/
theorem event_of_running {s t : State} {f : State → State} (h : s.resetPin = false) (ht : f s = t) :
    event f s = .next t.selectAll := by
  simp [event, h, ht]

/-! ### What a trip does (R77) -/

/-- R77: the part of a trip before the link goes down: the unit's own part, and the lists. -/
def State.tripRelease (p : Port) (reason : TripReason) (s : State) : State :=
  ((s.modPort p fun u => u.tripped reason (s.tripLocks p) (((s.classOf p).map (·.retryDelay)).getD 1)).leaveGranted
    p).removeIncrease p

/-- R77: the state that a trip ends in, with its items and its count. -/
def State.tripEnd (p : Port) (locks : Bool) (s : State) : State :=
  ((if locks then (s.setPortState p .locked).raiseHub .portLocked
    else s.setPortState p .tripped).raiseHub .portTrip).countPort p PortCounters.addTrip

/-- R77: a trip, but for the evaluation that follows the release of the grant. -/
def State.tripAlone (p : Port) (reason : TripReason) (s : State) : State :=
  ((s.tripRelease p reason).portLinkDown p).tripEnd p (s.tripLocks p)

theorem State.trip_eq (p : Port) (reason : TripReason) (s : State) :
    s.trip p reason = (s.tripAlone p reason).evaluateIf (decide (p ∈ s.granted)) :=
  rfl

theorem State.tripEnd_frame (p : Port) (locks : Bool) (s : State) :
    (s.tripEnd p locks).SameBut [.ports, .events, .counters] s := by
  refine (State.countPort_frame p _ _).comp ((State.raiseHub_frame _ _).comp ?_ (by decide)) (by decide)
  split
  · exact (State.raiseHub_frame _ _).comp ((State.setPortState_frame p _ s).weaken (by decide)) (by decide)
  · exact (State.setPortState_frame p _ s).weaken (by decide)

theorem State.tripEnd_ports (p : Port) (locks : Bool) (s : State) :
    (s.tripEnd p locks).ports = (s.setPortState p (if locks then .locked else .tripped)).ports := by
  have hraise : ∀ (y : State) i, (y.raiseHub i).ports = y.ports := fun y i => y.raiseHub_frame i .ports (by decide)
  cases locks <;> simp [State.tripEnd, hraise]

theorem State.tripEnd_counters (p : Port) (locks : Bool) (s : State) :
    (s.tripEnd p locks).counters = (s.countPort p PortCounters.addTrip).counters := by
  have hraise : ∀ (y : State) i, (y.raiseHub i).counters = y.counters :=
    fun y i => y.raiseHub_frame i .counters (by decide)
  have hstate : ∀ st, (s.setPortState p st).counters = s.counters :=
    fun st => s.setPortState_frame p st .counters (by decide)
  cases locks <;> simp [State.tripEnd, hraise, hstate]

/-- R77: PORT_TRIP is raised. -/
theorem State.tripEnd_portTrip (p : Port) (locks : Bool) (s : State) :
    ((s.tripEnd p locks).events.marks (.hub .portTrip)).set = true :=
  State.raise_set _ _

/-- R77: a trip that locks the port raises PORT_LOCKED. -/
theorem State.tripEnd_portLocked (p : Port) (s : State) :
    ((s.tripEnd p true).events.marks (.hub .portLocked)).set = true :=
  State.raise_set_of_set _ _ _ (State.raise_set _ _)

section TripAlone

variable {p : Port} {reason : TripReason} {s : State}

theorem State.tripRelease_frame (p : Port) (reason : TripReason) (s : State) :
    (s.tripRelease p reason).SameBut [.ports, .granted, .admission] s :=
  (State.removeIncrease_frame p _).comp ((State.leaveGranted_frame p _).comp
    ((State.modPort_frame p _ s).weaken (by decide)) (by decide)) (by decide)

theorem State.tripRelease_linkState (p : Port) (reason : TripReason) (s : State) (d : Dest) :
    (s.tripRelease p reason).linkState d = s.linkState d := by
  rw [State.linkState, s.tripRelease_frame p reason .links (by decide)]
  rfl

/-- R77: the end of a trip leaves what the release and the passage to DOWN have done to the lists and the link. -/
theorem State.tripAlone_after_linkDown (p : Port) (reason : TripReason) (s : State) :
    (s.tripAlone p reason).SameBut [.ports, .events, .counters] ((s.tripRelease p reason).portLinkDown p) :=
  State.tripEnd_frame p _ _

theorem State.tripAlone_granted (p : Port) (reason : TripReason) (s : State) :
    (s.tripAlone p reason).granted = s.granted.filter fun q => decide (q ≠ p) :=
  (s.tripAlone_after_linkDown p reason .granted (by decide)).trans
    (State.portLinkDown_frame p (s.tripRelease p reason) .granted (by decide))

theorem State.tripAlone_admission (p : Port) (reason : TripReason) (s : State) :
    (s.tripAlone p reason).admission =
      s.admission.filter fun e => !(decide (e.port = p) && decide (e.reason = .increase)) :=
  (s.tripAlone_after_linkDown p reason .admission (by decide)).trans
    (State.portLinkDown_frame p (s.tripRelease p reason) .admission (by decide))

/-- R77: the power unit that a trip leaves. -/
theorem State.tripAlone_unit (p : Port) (reason : TripReason) (s : State) :
    (s.tripAlone p reason).ports.get p =
      { (s.ports.get p).tripped reason (s.tripLocks p) (((s.classOf p).map (·.retryDelay)).getD 1) with
        grant := 0, state := if s.tripLocks p then .locked else .tripped } := by
  have hdown : ((s.tripRelease p reason).portLinkDown p).ports = (s.tripRelease p reason).ports :=
    State.portLinkDown_frame p _ .ports (by decide)
  rw [State.tripAlone, State.tripEnd_ports, State.setPortState_port, if_pos rfl, hdown]
  simp [State.tripRelease, State.leaveGranted, State.removeIncrease]

/-- R77: the port is on neither list and its link is DOWN, if its only entry was an INCREASE entry. -/
theorem State.tripAlone_aside (hentries : ∀ e ∈ s.admission, e.port = p → e.reason = .increase) :
    State.Aside p (s.tripAlone p reason) (s.tripAlone p reason) := by
  refine .refl ?_ ?_ ?_
  · rw [State.tripAlone_granted]
    simp
  · rw [State.entryOf_eq_none_iff, State.tripAlone_admission]
    intro e he hport
    obtain ⟨hmem, hkept⟩ := List.mem_filter.mp he
    simp [hport, hentries e hmem hport] at hkept
  · rw [State.linkState, s.tripAlone_after_linkDown p reason .links (by decide)]
    exact State.portLinkDown_linkState p _

/-- R77, R57: the trip ends as it does alone; the evaluation that follows leaves the port. -/
theorem State.trip_aside (hentries : ∀ e ∈ s.admission, e.port = p → e.reason = .increase) :
    State.Aside p (s.tripAlone p reason) (s.trip p reason) := by
  rw [State.trip_eq]
  exact (State.tripAlone_aside hentries).evaluateIf _

/-- R92: a trip empties the GRANT slot. -/
theorem State.tripAlone_slot (h : s.linkState (.port p) ≠ .down) :
    (s.tripAlone p reason).grantSlots.get p = none := by
  rw [s.tripAlone_after_linkDown p reason .grantSlots (by decide), State.portLinkDown_grantSlots,
    if_pos ⟨rfl, by rwa [State.tripRelease_linkState]⟩]

/-- R92: a trip flushes the queues and the timed list. -/
theorem State.tripAlone_queues (h : s.linkState (.port p) ≠ .down) :
    (s.tripAlone p reason).queues.get (.port p) = Queues.reset := by
  rw [s.tripAlone_after_linkDown p reason .queues (by decide),
    State.portLinkDown_queues (by rwa [State.tripRelease_linkState])]

/-- R92, R118: the drops that a trip counts. -/
theorem State.tripAlone_endpoint (h : s.linkState (.port p) ≠ .down) :
    (s.tripAlone p reason).counters.endpoint.get (.port p) =
      (s.counters.endpoint.get (.port p)).addLinkDown (s.refsAt (.port p)).length := by
  have hframe := s.tripRelease_frame p reason
  have hend : (s.tripAlone p reason).counters.endpoint =
      ((s.tripRelease p reason).portLinkDown p).counters.endpoint := by
    rw [State.tripAlone, State.tripEnd_counters]
    rfl
  rw [hend, State.portLinkDown_endpoint p _ _ (by rwa [State.tripRelease_linkState]), if_pos rfl,
    hframe .counters (by decide), State.refsAt_congr (hframe .links (by decide)) (hframe .queues (by decide))]

/-- R77: the trips counter rises. -/
theorem State.tripAlone_trips (p : Port) (reason : TripReason) (s : State) :
    ((s.tripAlone p reason).counters.port.get p).trips = (s.counters.port.get p).trips + 1 := by
  rw [State.tripAlone, State.tripEnd_counters, State.countPort_counters, PerPort.get_set_self, PortCounters.addTrip,
    State.portLinkDown_portCounters, s.tripRelease_frame p reason .counters (by decide)]

end TripAlone

section Trips

variable {p : Port} {reason : TripReason} {s : State} {c : ClassRecord}

/-- R41: a powered port has no entry but an INCREASE entry. -/
theorem State.Powered.increase_of_closed (h : s.Powered) (hp : (s.ports.get p).state.closed = true) :
    ∀ e ∈ s.admission, e.port = p → e.reason = .increase := by
  obtain ⟨-, -, -, -, hfits, -⟩ := h
  rintro e he rfl
  by_contra hreason
  have hwaiting : (s.ports.get e.port).state = .waiting := by
    have hfit := hfits e he
    rwa [State.EntryFits, if_neg hreason] at hfit
  rw [hwaiting] at hp
  cases hp

theorem State.tripLocks_of_class (hc : s.classOf p = some c) :
    s.tripLocks p = decide (c.retryLimit < (s.ports.get p).retryCount + 1) := by
  rw [State.tripLocks, hc]
  rfl

/-- R77: the power unit that a trip leaves, by the record of its class. -/
theorem State.tripAlone_unit_of_class (reason : TripReason) (hc : s.classOf p = some c) :
    (s.tripAlone p reason).ports.get p = { s.ports.get p with
      state := if c.retryLimit < (s.ports.get p).retryCount + 1 then .locked else .tripped
      rampPos := 0, heldCount := 0, periodHeld := false, stepTimer := none, overdrawTimer := none
      cleanTimer := none, figures := none, grant := 0, retryCount := (s.ports.get p).retryCount + 1
      retryDraw := some (s.ports.get p).grant, lastTrip := some reason
      retryTimer := if c.retryLimit < (s.ports.get p).retryCount + 1 then none else some (c.retryDelay * 100000)
      lockReason := if c.retryLimit < (s.ports.get p).retryCount + 1 then some .retries else none } := by
  rw [State.tripAlone_unit, State.tripLocks_of_class hc, hc]
  simp [PortUnit.tripped, PortUnit.unpowered]

/-- R76: the comparator trips a powered port with SHORT. -/
theorem State.hardTrip_of_closed (h : (s.ports.get p).state.closed = true) : s.hardTrip p = s.trip p .short :=
  if_pos h

/-- R76: the comparator finds an open switch. -/
theorem State.hardTrip_of_open (h : (s.ports.get p).state.closed = false) : s.hardTrip p = s :=
  if_neg (by simp [State.powered, h])

end Trips

/-- Settles O34. The trip alone does what the statement says, and the evaluation that follows finds the port on neither
list. -/
theorem trips : Obligations.Trips := by
  refine ⟨?effect, ?commands⟩
  case effect =>
    rintro s p reason c u hpowered hlinks rfl hclosed hc
    have haside := State.trip_aside (reason := reason) (hpowered.increase_of_closed hclosed)
    have hup : s.linkState (.port p) ≠ .down := fun hdown => by
      rw [(hlinks p).mp hdown] at hclosed
      cases hclosed
    refine ⟨?unit, haside.granted, haside.entry, haside.link, ?slot, ?queues, ?drops, ?trips, ?item, ?lock,
      (s.trip_frame p reason).weaken (by decide)⟩
    case unit => rw [haside.unit, State.tripAlone_unit_of_class reason hc]
    case slot => rw [haside.slot, State.tripAlone_slot hup]
    case queues => rw [haside.queues, State.tripAlone_queues hup]
    case drops =>
      rw [haside.endpoint, State.tripAlone_endpoint hup, State.refsAt_length]
      rcases (s.links.get (.port p)).tx with - | ⟨kind, bytes⟩
      · rfl
      · cases kind <;> rfl
    case trips => rw [haside.counts, State.tripAlone_trips]
    case item => exact haside.marks _ (State.tripEnd_portTrip p _ _)
    case lock =>
      intro hlocks
      refine haside.marks _ ?_
      rw [State.tripAlone, State.tripLocks_of_class hc, decide_eq_true hlocks]
      exact State.tripEnd_portLocked p _
  case commands =>
    intro s p hrun
    refine ⟨fun hstate => event_of_running hrun (State.hardTrip_of_closed ?_),
      fun hopen => event_of_running hrun (State.hardTrip_of_open hopen),
      fun hlimit htimer => event_of_running hrun (if_pos ⟨hlimit, htimer⟩)⟩
    rcases hstate with h | h | h <;> rw [h] <;> rfl

/-! ### Soft start (R70, R71) -/

section SoftStart

variable {p : Port} {s : State} {c : ClassRecord}

/-- R70: the judgement of a scan in RAMP, by the inrush ceiling of the class. -/
theorem State.scanJudge_of_ramp (hramp : (s.ports.get p).state = .ramp) (hc : s.classOf p = some c) :
    s.scanJudge p =
      if c.inrush < (s.ports.get p).current then s.modPort p fun u => { u with periodHeld := true } else s := by
  simp only [State.scanJudge, hramp, hc]
  rfl

theorem State.stepTime_of_class (hc : s.classOf p = some c) : s.stepTime p = c.rampFactor * 1000 := by
  rw [State.stepTime, hc]
  rfl

/-- R71: a period that was not held, before the last step. -/
theorem State.stepEnd_of_rise (hheld : (s.ports.get p).periodHeld = false) (hpos : (s.ports.get p).rampPos < 15) :
    s.stepEnd p = s.modPort p fun u =>
      { u with rampPos := u.rampPos + 1, heldCount := 0, stepTimer := some (s.stepTime p) } := by
  have hnot : ¬ 16 ≤ (s.ports.get p).rampPos + 1 := by omega
  simp [State.stepEnd, hheld, hnot]

/-- R71: a period that was not held, at the last step. -/
theorem State.stepEnd_of_full (hheld : (s.ports.get p).periodHeld = false) (hpos : 15 ≤ (s.ports.get p).rampPos) :
    s.stepEnd p = (s.modPort p fun u =>
      { u with rampPos := 16, heldCount := 0, stepTimer := none, cleanTimer := some Config.cleanRun,
               figures := none }).setPortState p .on := by
  have hfull : 16 ≤ (s.ports.get p).rampPos + 1 := by omega
  simp [State.stepEnd, hheld, hfull]

/-- R71: the unit after a period that was held. -/
def PortUnit.afterHeld (u : PortUnit) (time : Nat) : PortUnit :=
  { u with heldCount := u.heldCount + 1, periodHeld := false, stepTimer := some time }

/-- R71: a held period before the fourth. -/
theorem State.stepEnd_of_held (hheld : (s.ports.get p).periodHeld = true) (hcount : (s.ports.get p).heldCount < 3) :
    s.stepEnd p = s.modPort p fun u => u.afterHeld (s.stepTime p) := by
  have hnot : ¬ 4 ≤ (s.ports.get p).heldCount + 1 := by omega
  simp [State.stepEnd, hheld, hnot, PortUnit.afterHeld]

/-- R71: the fourth held period in a row trips the port. -/
theorem State.stepEnd_of_stall (hheld : (s.ports.get p).periodHeld = true) (hcount : 3 ≤ (s.ports.get p).heldCount) :
    s.stepEnd p = (s.modPort p fun u => u.afterHeld (s.stepTime p)).trip p .rampStall := by
  have hfull : 4 ≤ (s.ports.get p).heldCount + 1 := by omega
  simp [State.stepEnd, hheld, hfull, PortUnit.afterHeld]

/-- R71: while it does not trip the port, the end of a period touches one unit and its mark. -/
theorem State.stepEnd_frame_of_no_trip (h : (s.ports.get p).periodHeld = false ∨ (s.ports.get p).heldCount < 3) :
    (s.stepEnd p).SameBut [.ports, .events] s ∧ ∀ q, q ≠ p → (s.stepEnd p).ports.get q = s.ports.get q := by
  by_cases hheld : (s.ports.get p).periodHeld = true
  · have hcount := h.resolve_left (by simp [hheld])
    rw [State.stepEnd_of_held hheld hcount]
    exact ⟨(State.modPort_frame p _ s).weaken (by decide), fun q hq => PerPort.get_set_of_ne _ _ _ _ hq⟩
  · have hfree : (s.ports.get p).periodHeld = false := by simpa using hheld
    by_cases hpos : (s.ports.get p).rampPos < 15
    · rw [State.stepEnd_of_rise hfree hpos]
      exact ⟨(State.modPort_frame p _ s).weaken (by decide), fun q hq => PerPort.get_set_of_ne _ _ _ _ hq⟩
    · rw [State.stepEnd_of_full hfree (by omega)]
      refine ⟨(State.setPortState_frame p _ _).comp ((State.modPort_frame p _ s).weaken (by decide)) (by decide),
        fun q hq => ?_⟩
      rw [State.setPortState_port, if_neg hq]
      exact PerPort.get_set_of_ne _ _ _ _ hq

/-- R77: a trip with any reason leaves an open switch, the reason, and the port off the granted list. -/
theorem State.trip_opens {reason : TripReason} (hentries : ∀ e ∈ s.admission, e.port = p → e.reason = .increase) :
    ((s.trip p reason).ports.get p).state.closed = false ∧ ((s.trip p reason).ports.get p).lastTrip = some reason ∧
      p ∉ (s.trip p reason).granted := by
  have haside := State.trip_aside (reason := reason) hentries
  rw [haside.unit, State.tripAlone_unit]
  refine ⟨?_, rfl, haside.granted⟩
  cases s.tripLocks p <;> rfl

end SoftStart

/-- Settles O33. A period ends in one of four ways, which `State.stepEnd_of_rise`, `_full`, `_held` and `_stall` name;
transmit selection touches no unit, list or item of them. -/
theorem stepTimerExpiry : Obligations.StepTimerExpiry := by
  refine ⟨?scan, ?period⟩
  case scan =>
    intro s p c hramp hc
    rw [State.scanJudge_of_ramp hramp hc]
    exact ⟨fun habove => if_pos habove, fun hbelow => if_neg (by omega)⟩
  case period =>
    rintro s p c u hrun rfl hramp htimer hc
    have htime := State.stepTime_of_class hc
    have hselect := (s.stepEnd p).selectAll_frame
    refine ⟨_, event_of_running hrun (if_pos ⟨hramp, htimer⟩), ?_⟩
    rw [hselect .ports (by decide), hselect .granted (by decide), hselect .admission (by decide),
      hselect .events (by decide)]
    refine ⟨fun hheld hpos => ?rise, fun hheld hpos => ?full, fun hheld hcount => ?held,
      fun hheld hcount hpowered => ?stall, fun hno => ?others,
      hselect.comp ((s.stepEnd_frame p).weaken (by decide)) (by decide)⟩
    case rise =>
      rw [State.stepEnd_of_rise hheld hpos, State.modPort_ports, PerPort.get_set_self, htime]
    case full =>
      rw [State.stepEnd_of_full hheld hpos]
      refine ⟨?_, State.setPortState_mark ?_⟩
      · rw [State.setPortState_port, if_pos rfl, State.modPort_ports, PerPort.get_set_self]
        rfl
      · simp [hramp]
    case held =>
      rw [State.stepEnd_of_held hheld hcount, State.modPort_ports, PerPort.get_set_self, htime]
      rfl
    case stall =>
      rw [State.stepEnd_of_stall hheld hcount]
      exact State.trip_opens (s := s.modPort p fun u => u.afterHeld (s.stepTime p))
        (hpowered.increase_of_closed (by rw [hramp]; rfl))
    case others =>
      obtain ⟨hframe, hports⟩ := State.stepEnd_frame_of_no_trip hno
      exact ⟨hports, hframe .granted (by decide), hframe .admission (by decide)⟩

/-! ### Over-draw (R73 to R75) -/

/-- R77: a port keeps its last trip while a port, the same or another, changes in other fields. -/
theorem State.modPort_lastTrip (f : PortUnit → PortUnit) (hf : ∀ u, (f u).lastTrip = u.lastTrip) (q : Port)
    (s : State) (p : Port) : ((s.modPort q f).ports.get p).lastTrip = (s.ports.get p).lastTrip := by
  rw [State.modPort_ports, PerPort.get_set]
  split
  · next h => rw [h, hf]
  · rfl

theorem State.setPortState_lastTrip (q : Port) (st : PortState) (s : State) (p : Port) :
    ((s.setPortState q st).ports.get p).lastTrip = (s.ports.get p).lastTrip := by
  rw [State.setPortState_port]
  split <;> rfl

theorem State.enterRamp_lastTrip (q : Port) (s : State) (p : Port) :
    ((s.enterRamp q).ports.get p).lastTrip = (s.ports.get p).lastTrip := by
  simp only [State.enterRamp, State.portLinkWait, State.modLink_ports, State.modPort_lastTrip, implies_true,
    State.setPortState_lastTrip]

theorem State.grantHead_lastTrip (e : Entry) (s : State) (p : Port) :
    ((s.grantHead e).ports.get p).lastTrip = (s.ports.get p).lastTrip := by
  have hpost : ∀ (y : State) st, (y.postGrant e.port st).ports = y.ports :=
    fun y st => y.postGrant_frame e.port st .ports (by decide)
  have hgrant := State.modPort_lastTrip (fun u => { u with grant := e.draw }) (fun _ => rfl) e.port s p
  unfold State.grantHead
  dsimp only
  rw [State.countPort_ports, hpost]
  split
  · exact hgrant
  · exact (State.enterRamp_lastTrip e.port _ p).trans hgrant

theorem State.shed_lastTrip (q : Port) (s : State) (p : Port) :
    ((s.shed q).ports.get p).lastTrip = (s.ports.get p).lastTrip := by
  rw [State.shed_port]
  split <;> rfl

/-- R77: an evaluation leaves every port its last trip. -/
theorem State.evaluate_lastTrip (s : State) (p : Port) :
    (s.evaluate.ports.get p).lastTrip = (s.ports.get p).lastTrip :=
  State.evaluate_keeps (P := fun t => (t.ports.get p).lastTrip = (s.ports.get p).lastTrip) (good := fun _ => True)
    (fun _ _ _ _ => trivial) (fun t e h _ => (t.grantHead_lastTrip e p).trans h)
    (fun t q h _ => (t.shed_lastTrip q p).trans h) rfl

/-- R77: a trip leaves its reason, whatever the evaluation that follows does with the port. -/
theorem State.trip_lastTrip (p : Port) (reason : TripReason) (s : State) :
    ((s.trip p reason).ports.get p).lastTrip = some reason := by
  have halone : ((s.tripAlone p reason).ports.get p).lastTrip = some reason := by
    rw [State.tripAlone_unit]
    rfl
  rw [State.trip_eq, State.evaluateIf]
  split
  · exact (State.evaluate_lastTrip _ p).trans halone
  · exact halone

/-- R74, R75: a port changes between ON and LIMIT, with a change of its unit, and learns it. -/
def State.levelTo (p : Port) (f : PortUnit → PortUnit) (st : PortState) (g : GrantStatus) (s : State) : State :=
  ((s.modPort p f).setPortState p st).postGrant p g

section Overdraw

variable {p : Port} {s : State} {c : ClassRecord}

theorem State.levelTo_frame (p : Port) (f : PortUnit → PortUnit) (st : PortState) (g : GrantStatus) (s : State) :
    (s.levelTo p f st g).SameBut [.ports, .events, .grantSlots] s :=
  (State.postGrant_frame p g _).comp ((State.setPortState_frame p st _).comp
    ((State.modPort_frame p f s).weaken (by decide)) (by decide)) (by decide)

theorem State.levelTo_unit (p : Port) (f : PortUnit → PortUnit) (st : PortState) (g : GrantStatus) (s : State) :
    (s.levelTo p f st g).ports.get p = { f (s.ports.get p) with state := st } := by
  rw [State.levelTo, State.postGrant_frame p g _ .ports (by decide), State.setPortState_port, if_pos rfl,
    State.modPort_ports, PerPort.get_set_self]

/-- R59: the GRANT that the port learns its level by. -/
theorem State.levelTo_slot {f : PortUnit → PortUnit} (heff : (f (s.ports.get p)).eff = (s.ports.get p).eff)
    (hgrant : (f (s.ports.get p)).grant = (s.ports.get p).grant) (hc : s.classOf p = some c)
    (hup : s.linkState (.port p) ≠ .down) (st : PortState) (g : GrantStatus) :
    (s.levelTo p f st g).grantSlots.get p = some ⟨(s.ports.get p).grant, g, c.tolerance⟩ := by
  have hframe := State.setPortState_frame p st (s.modPort p f)
  have hunit : ((s.modPort p f).setPortState p st).ports.get p = { f (s.ports.get p) with state := st } := by
    rw [State.setPortState_port, if_pos rfl, State.modPort_ports, PerPort.get_set_self]
  have hclass : ((s.modPort p f).setPortState p st).classOf p = some c := by
    rw [← hc, State.classOf, State.classOf, hunit, heff, hframe .tables (by decide)]
    rfl
  have hlink : ((s.modPort p f).setPortState p st).linkState (.port p) ≠ .down := by
    rw [State.linkState, hframe .links (by decide)]
    exact hup
  rw [State.levelTo, State.postGrant_slot, if_pos ⟨rfl, hlink⟩, hunit, hclass, hgrant]
  rfl

/-- R73: the figures of a scan are kept. -/
def State.withFigures (p : Port) (power t : Nat) (s : State) : State :=
  s.modPort p fun u => { u with figures := some (power, t) }

theorem State.withFigures_unit (p : Port) (power t : Nat) (s : State) :
    (s.withFigures p power t).ports.get p = { s.ports.get p with figures := some (power, t) } :=
  PerPort.get_set_self _ _ _

theorem State.withFigures_frame (p : Port) (power t : Nat) (s : State) :
    (s.withFigures p power t).SameBut [.ports] s :=
  State.modPort_frame p _ s

theorem State.withFigures_classOf (power t : Nat) (hc : s.classOf p = some c) :
    (s.withFigures p power t).classOf p = some c := by
  rw [State.classOf, State.withFigures_unit]
  exact hc

/-- R74: the unit as an over-draw time starts. -/
def PortUnit.overdrawing (u : PortUnit) (time : Nat) : PortUnit :=
  { u with overdrawTimer := some (time * 1000), cleanTimer := none }

/-- R75: the unit as an over-draw ends in time. -/
def PortUnit.recovered (u : PortUnit) : PortUnit :=
  { u with overdrawTimer := none, cleanTimer := some Config.cleanRun }

/-- R74: an over-draw found in ON starts the over-draw time. -/
theorem State.overdrawInOn_of_time (hc : s.classOf p = some c) (htime : c.overdrawTime ≠ 0) :
    s.overdrawInOn p = s.levelTo p (fun u => u.overdrawing c.overdrawTime) .limit .limit := by
  simp only [State.overdrawInOn, hc, Option.map_some, Option.getD_some, if_neg htime]
  rfl

/-- R75: an over-draw time of 0 trips the port at that scan. -/
theorem State.overdrawInOn_of_no_time (hc : s.classOf p = some c) (htime : c.overdrawTime = 0) :
    s.overdrawInOn p = s.trip p .overdraw := by
  simp only [State.overdrawInOn, hc, Option.map_some, Option.getD_some, if_pos htime]

theorem State.backToOn_eq (p : Port) (s : State) :
    s.backToOn p = s.levelTo p PortUnit.recovered .on .on :=
  rfl

/-- R73: the judgement of a scan in ON and LIMIT, by the record of the class. -/
theorem State.scanJudge_of_level (hstate : (s.ports.get p).state = .on ∨ (s.ports.get p).state = .limit)
    (hc : s.classOf p = some c) {power t : Nat} (hpower : power = s.busVolts * (s.ports.get p).current / 100000)
    (ht : t = (s.ports.get p).grant * c.tolerance / 100) :
    s.scanJudge p =
      if (s.ports.get p).grant + t < power then
        if (s.ports.get p).state = .on then (s.withFigures p power t).overdrawInOn p else s.withFigures p power t
      else if (s.ports.get p).state = .limit then (s.withFigures p power t).backToOn p
      else s.withFigures p power t := by
  have hjudge : s.scanJudge p = s.judgeOverdraw p := by
    rcases hstate with h | h <;> simp only [State.scanJudge, h]
  rw [hjudge, State.judgeOverdraw, hc, hpower, ht]
  rfl

end Overdraw

/-- Settles O36. The scan keeps its figures, and what follows is by the state and by whether p is above g + t. -/
theorem overdrawJudgement : Obligations.OverdrawJudgement := by
  rintro s p c u power t rfl hc hpower ht
  have hunit := s.withFigures_unit p power t
  have hframe := s.withFigures_frame p power t
  have hclass := State.withFigures_classOf power t hc
  have hgrant : ((s.withFigures p power t).ports.get p).grant = (s.ports.get p).grant := by rw [hunit]
  refine ⟨fun hon hwithin => ?on_within, fun hon hover htime => ?on_over, fun hon hover htime => ?on_trip,
    fun hlimit hover => ?limit_over, fun hlimit hwithin => ?limit_within⟩
  case on_within =>
    rw [State.scanJudge_of_level (.inl hon) hc hpower ht, if_neg (by omega), if_neg (by rw [hon]; decide)]
    exact ⟨hunit, hframe⟩
  case on_over =>
    rw [State.scanJudge_of_level (.inl hon) hc hpower ht, if_pos hover, if_pos hon,
      State.overdrawInOn_of_time hclass htime, State.levelTo_unit, hunit]
    refine ⟨rfl, fun hup => ?_, (State.levelTo_frame _ _ _ _ _).comp (hframe.weaken (by decide)) (by decide)⟩
    rw [State.levelTo_slot (f := fun u => u.overdrawing c.overdrawTime) rfl rfl hclass hup, hgrant]
  case on_trip =>
    rw [State.scanJudge_of_level (.inl hon) hc hpower ht, if_pos hover, if_pos hon,
      State.overdrawInOn_of_no_time hclass htime]
    exact ⟨rfl, State.trip_lastTrip p .overdraw _⟩
  case limit_over =>
    rw [State.scanJudge_of_level (.inr hlimit) hc hpower ht, if_pos hover, if_neg (by rw [hlimit]; decide)]
    exact ⟨hunit, hframe⟩
  case limit_within =>
    rw [State.scanJudge_of_level (.inr hlimit) hc hpower ht, if_neg (by omega), if_pos hlimit, State.backToOn_eq,
      State.levelTo_unit, hunit]
    refine ⟨rfl, fun hup => ?_, (State.levelTo_frame _ _ _ _ _).comp (hframe.weaken (by decide)) (by decide)⟩
    rw [State.levelTo_slot (f := PortUnit.recovered) rfl rfl hclass hup, hgrant]

/-! ### Classification (R68, R69) -/

/-- R69: a port that has a class stands in WAITING with its entry and, for an ATTACH entry, its item. The evaluation
follows. -/
def State.enlist (p : Port) (reason : Reason) (e : EffClass) (s : State) : State :=
  let s' := ((s.modPort p fun u => { u with eff := some e }).setPortState p .waiting).makeEntry p reason
    (s.tables.cls.get e.cls).defaultDemand
  if reason = .attach then s'.raiseHub .portAttach else s'

section Classification

variable {p : Port} {reason : Reason} {s : State}

/-- R69: the class that a port has as its entry is made. -/
theorem State.classOf_waiting (p : Port) (e : EffClass) (s : State) :
    ((s.modPort p fun u => { u with eff := some e }).setPortState p .waiting).classOf p =
      some (s.tables.cls.get e.cls) := by
  rw [State.classOf, State.setPortState_port, if_pos rfl, State.setPortState_frame p _ _ .tables (by decide)]
  simp

theorem State.classify_of_class {c : ClassNo} {fixed : Bool} (h : s.reading p = .cls c fixed) :
    s.classify p reason = (s.enlist p reason ⟨c, fixed⟩).evaluate := by
  simp only [State.classify, h, State.classified, State.classOf_waiting, State.enlist]
  rfl

theorem State.enlist_frame (p : Port) (reason : Reason) (e : EffClass) (s : State) :
    (s.enlist p reason e).SameBut [.ports, .admission, .events] s := by
  have hentry := (State.makeEntry_frame p reason (s.tables.cls.get e.cls).defaultDemand _).comp
    ((State.setPortState_frame p .waiting _).comp
    ((State.modPort_frame p (fun u => { u with eff := some e }) s).weaken (n := [.ports, .admission, .events])
      (by decide)) (by decide)) (by decide)
  unfold State.enlist
  dsimp only
  split
  · exact (State.raiseHub_frame _ _).comp hentry (by decide)
  · exact hentry

theorem State.enlist_ports (p : Port) (reason : Reason) (e : EffClass) (s : State) (q : Port) :
    (s.enlist p reason e).ports.get q =
      if q = p then { s.ports.get q with state := .waiting, eff := some e } else s.ports.get q := by
  have hraise : ∀ (y : State) i, (y.raiseHub i).ports = y.ports := fun y i => y.raiseHub_frame i .ports (by decide)
  have hports : (s.enlist p reason e).ports =
      ((s.modPort p fun u => { u with eff := some e }).setPortState p .waiting).ports := by
    unfold State.enlist
    dsimp only
    split
    · exact hraise _ _
    · rfl
  rw [hports, State.setPortState_port]
  split
  · next hq => simp [hq]
  · next hq => exact PerPort.get_set_of_ne _ _ _ _ hq

/-- R41, R69: the entry joins at the tail, for the default demand of the class. -/
theorem State.enlist_admission (p : Port) (reason : Reason) (e : EffClass) (s : State) :
    (s.enlist p reason e).admission = s.admission ++
      [{ port := p, reason := reason,
         draw := min (max (s.tables.cls.get e.cls).defaultDemand (s.tables.cls.get e.cls).idleDraw)
           (s.tables.cls.get e.cls).maxDemand,
         wait := if (s.tables.cls.get e.cls).waitLimit = 0 then none
           else some ((s.tables.cls.get e.cls).waitLimit * 1000000),
         holdOff := none }] := by
  have hraise : ∀ (y : State) i, (y.raiseHub i).admission = y.admission :=
    fun y i => y.raiseHub_frame i .admission (by decide)
  have hbefore := State.setPortState_frame p .waiting (s.modPort p fun u => { u with eff := some e }) .admission
    (by decide)
  have hclass := State.classOf_waiting p e s
  have hlist : (s.enlist p reason e).admission =
      (((s.modPort p fun u => { u with eff := some e }).setPortState p .waiting).makeEntry p reason
        (s.tables.cls.get e.cls).defaultDemand).admission := by
    unfold State.enlist
    dsimp only
    split
    · exact hraise _ _
    · rfl
  rw [hlist, State.makeEntry, State.addEntry, State.clampDraw_of_class hclass, State.waitTimer_of_class hclass, hbefore]
  rfl

/-- R69: PORT_ATTACH is raised for an ATTACH entry. -/
theorem State.enlist_portAttach (p : Port) (e : EffClass) (s : State) :
    ((s.enlist p .attach e).events.marks (.hub .portAttach)).set = true :=
  State.raise_set _ _

/-- R62, R69: no other item is touched but the port's mark. -/
theorem State.enlist_marks_of_ne (e : EffClass) (s : State) {i : Item} (hmark : i ≠ .mark p)
    (hattach : reason = .attach → i ≠ .hub .portAttach) :
    (s.enlist p reason e).events.marks i = s.events.marks i := by
  have hentry : ∀ y : State, ∀ r n, (y.makeEntry p r n).events = y.events := fun _ _ _ => rfl
  unfold State.enlist
  dsimp only
  split
  · next hr =>
    rw [State.raiseHub, State.raise_marks, if_neg (hattach hr), hentry, State.setPortState_marks_of_ne p _ _ hmark]
    rfl
  · rw [hentry, State.setPortState_marks_of_ne p _ _ hmark]
    rfl

/-- R69: a port takes a state with a change of its unit, and a hub item is raised. -/
def State.settle (p : Port) (f : PortUnit → PortUnit) (st : PortState) (i : HubItem) (s : State) : State :=
  ((s.modPort p f).setPortState p st).raiseHub i

theorem State.classify_of_short (h : s.reading p = .short) :
    s.classify p reason =
      s.settle p (fun u => { u with eff := none, lockReason := some .senseShort }) .locked .portLocked := by
  simp only [State.classify, h]
  rfl

theorem State.classify_of_open (h : s.reading p = .open) :
    s.classify p reason = s.settle p (fun u => { u with eff := none, stable := .open }) .vacant .portDetach := by
  simp only [State.classify, h]
  rfl

theorem State.settle_ports (p : Port) (f : PortUnit → PortUnit) (st : PortState) (i : HubItem) (s : State)
    (q : Port) :
    (s.settle p f st i).ports.get q = if q = p then { f (s.ports.get q) with state := st } else s.ports.get q := by
  rw [State.settle, State.raiseHub_frame i _ .ports (by decide), State.setPortState_port]
  split
  · next hq => simp [hq]
  · next hq => exact PerPort.get_set_of_ne _ _ _ _ hq

theorem State.settle_frame (p : Port) (f : PortUnit → PortUnit) (st : PortState) (i : HubItem) (s : State) :
    (s.settle p f st i).SameBut [.ports, .events] s :=
  (State.raiseHub_frame i _).comp ((State.setPortState_frame p st _).comp
    ((State.modPort_frame p f s).weaken (by decide)) (by decide)) (by decide)

theorem State.settle_item (p : Port) (f : PortUnit → PortUnit) (st : PortState) (i : HubItem) (s : State) :
    ((s.settle p f st i).events.marks (.hub i)).set = true :=
  State.raise_set _ _

end Classification

/-! ### DISABLE (R57, R82) -/

section Disable

variable {p : Port} {s : State}

/-- R57: the unit of a port that is dropped. -/
def PortUnit.dropped (u : PortUnit) : PortUnit :=
  { u.unpowered with grant := 0, retryTimer := none, retryCount := 0, eff := none, retryDraw := none,
                     lastTrip := none, lockReason := none }

theorem State.dropPort_ports (p : Port) (s : State) (q : Port) :
    (s.dropPort p).ports.get q = if q = p then (s.ports.get q).dropped else s.ports.get q := by
  rw [State.dropPort, State.portLinkDown_frame p _ .ports (by decide)]
  split
  · next hq =>
    subst hq
    simp [State.leaveGranted, State.removeEntry, PortUnit.dropped, PortUnit.unpowered]
  · next hq => simp [State.leaveGranted, State.removeEntry, PerPort.get_set_of_ne _ _ _ _ hq]

theorem State.dropPort_granted (p : Port) (s : State) :
    (s.dropPort p).granted = s.granted.filter fun q => decide (q ≠ p) :=
  State.portLinkDown_frame p _ .granted (by decide)

theorem State.dropPort_admission (p : Port) (s : State) :
    (s.dropPort p).admission = s.admission.filter fun e => decide (e.port ≠ p) :=
  State.portLinkDown_frame p _ .admission (by decide)

/-- R82: DISABLE, but for the evaluation that follows the release of the grant. -/
def State.disableAlone (p : Port) (s : State) : State := (s.dropPort p).setPortState p .disabled

theorem State.disable_of_disabled (h : (s.ports.get p).state = .disabled) : s.disable p = s := if_pos h

theorem State.disable_of_other (h : (s.ports.get p).state ≠ .disabled) :
    s.disable p = (s.disableAlone p).evaluateIf (decide (p ∈ s.granted)) :=
  if_neg h

theorem State.disableAlone_ports (p : Port) (s : State) (q : Port) :
    (s.disableAlone p).ports.get q =
      if q = p then { (s.ports.get q).dropped with state := .disabled } else s.ports.get q := by
  rw [State.disableAlone, State.setPortState_port, State.dropPort_ports]
  split <;> rfl

theorem State.disableAlone_aside (p : Port) (s : State) : State.Aside p (s.disableAlone p) (s.disableAlone p) := by
  have hframe := State.setPortState_frame p .disabled (s.dropPort p)
  refine .refl ?_ ?_ ?_
  · rw [State.disableAlone, hframe .granted (by decide), State.dropPort_granted]
    simp
  · rw [State.entryOf_eq_none_iff, State.disableAlone, hframe .admission (by decide), State.dropPort_admission]
    simp
  · rw [State.linkState, State.disableAlone, hframe .links (by decide)]
    exact State.portLinkDown_linkState p _

/-- R82: the port ends disabled, on neither list and with its link DOWN, whatever the evaluation grants to others. -/
theorem State.disable_aside (h : (s.ports.get p).state ≠ .disabled) :
    State.Aside p (s.disableAlone p) (s.disable p) := by
  rw [State.disable_of_other h]
  exact (s.disableAlone_aside p).evaluateIf _

/-- R82: no other port changes when there is no grant to release. -/
theorem State.disable_ports_of_ne (hp : p ∉ s.granted) {q : Port} (hq : q ≠ p) :
    (s.disable p).ports.get q = s.ports.get q := by
  by_cases h : (s.ports.get p).state = .disabled
  · rw [State.disable_of_disabled h]
  · rw [State.disable_of_other h, decide_eq_false hp]
    exact (s.disableAlone_ports p q).trans (if_neg hq)

/-- R43, R62: a disabled port holds no grant. -/
theorem State.Powered.disabled_not_granted (h : s.Powered) (hp : (s.ports.get p).state = .disabled) :
    p ∉ s.granted ∧ (s.ports.get p).grant = 0 := by
  obtain ⟨-, -, hlist, hgrant, -⟩ := h
  have hnot : p ∉ s.granted := by
    rw [hlist, hp]
    decide
  exact ⟨hnot, hgrant p hnot⟩

end Disable

/-! ### The commands of PORT CONTROL (R82 to R84, R152) -/

section PortControl

variable {s : State} {p : Port} {r : Request} {code : Nat} {act : Port → State → State}

theorem Port.ofNumber_of_out_of_range {n : Nat} (h : n = 0 ∨ 8 < n) : Port.ofNumber n = none := by
  rcases h with rfl | h
  · rfl
  · obtain ⟨k, rfl⟩ := Nat.exists_eq_add_of_le' h
    rfl

/-- R152: a byte that names no port. -/
theorem State.portControl_of_no_port (h : byteAt r.payload 0 = 0 ∨ 8 < byteAt r.payload 0) :
    s.portControl r code act = s.placeResponse r.code [2] none := by
  rw [State.portControl, Port.ofNumber_of_out_of_range h]
  rfl

/-- R82 to R84: the action of the row. -/
theorem State.portControl_of_action (hp : byteAt r.payload 0 = p.number) (ha : byteAt r.payload 1 = code) :
    s.portControl r code act = act p s := by
  rw [State.portControl, hp, Port.ofNumber_number]
  exact if_pos ha

/-- R152: an action that is not the row's own. -/
theorem State.portControl_of_other_action (hp : byteAt r.payload 0 = p.number) (ha : byteAt r.payload 1 ≠ code) :
    s.portControl r code act = s.placeResponse r.code [3] none := by
  rw [State.portControl, hp, Port.ofNumber_number]
  exact if_neg ha

/-- R83: ENABLE of a port that is not disabled. -/
theorem State.enable_of_other (h : (s.ports.get p).state ≠ .disabled) : s.enable p = s := if_neg h

/-- R83: ENABLE of a disabled port whose stable level is OPEN. -/
theorem State.enable_of_open (h : (s.ports.get p).state = .disabled) (hopen : (s.ports.get p).stable = .open) :
    s.enable p = s.setPortState p (if (s.ports.get p).debounce.isSome then .debounce else .vacant) := by
  simp only [State.enable, h, hopen, if_true]

/-- R83: ENABLE of a disabled port whose stable level is ATTACHED. -/
theorem State.enable_of_attached (h : (s.ports.get p).state = .disabled)
    (hattached : (s.ports.get p).stable = .attached) : s.enable p = s.classify p .attach := by
  simp only [State.enable, h, hattached, if_true]

/-- R84: the states in which a RESET acts. -/
theorem PortState.resettable_iff (st : PortState) :
    st.resettable = true ↔ st = .tripped ∨ st = .locked ∨ st = .denied := by
  cases st <;> simp [PortState.resettable]

/-- R84: a RESET clears what the trips have left and classifies afresh. -/
theorem State.resetPort_eq (p : Port) (s : State) :
    s.resetPort p = State.classify p .reset { s with ports := s.ports.set p { s.ports.get p with
      retryCount := 0, retryTimer := none, lastTrip := none, lockReason := none, retryDraw := none } } :=
  rfl

variable {rest : List Request}

/-- A PORT CONTROL of two bytes has the length of its code (R154). -/
theorem Request.lengthOk_of_portControl (hc : r.code = 34) (hl : r.payload.length = 2) : r.lengthOk = true := by
  simp [Request.lengthOk, hc, hl, requestLength]

/-- DISABLE has action byte 2 and RESET 3; the enable row executes every other action (log 9). -/
theorem Request.row_of_portControl (hc : r.code = 34) (hl : r.payload.length = 2) :
    r.row = if byteAt r.payload 1 = 2 then .portControlDisable
      else if byteAt r.payload 1 = 3 then .portControlReset else .portControlEnable := by
  simp [Request.row, hc, hl]

theorem exec_portControlEnable_of_executes {t : State} (he : s.Executes r rest) (hc : r.code = 34)
    (hl : r.payload.length = 2) (h2 : byteAt r.payload 1 ≠ 2) (h3 : byteAt r.payload 1 ≠ 3)
    (ht : (s.popped rest).portEnable r = t) : exec .portControlEnable s = .next t.selectAll := by
  rw [← ht]
  exact State.serve_of_executes (act := fun r s => s.portEnable r) he
    (by rw [Request.row_of_portControl hc hl, if_neg h2, if_neg h3]) (Request.lengthOk_of_portControl hc hl)

theorem exec_portControlDisable_of_executes {t : State} (he : s.Executes r rest) (hc : r.code = 34)
    (hl : r.payload.length = 2) (h2 : byteAt r.payload 1 = 2)
    (ht : (s.popped rest).portDisable r = t) : exec .portControlDisable s = .next t.selectAll := by
  rw [← ht]
  exact State.serve_of_executes (act := fun r s => s.portDisable r) he
    (by rw [Request.row_of_portControl hc hl, if_pos h2]) (Request.lengthOk_of_portControl hc hl)

theorem exec_portControlReset_of_executes {t : State} (he : s.Executes r rest) (hc : r.code = 34)
    (hl : r.payload.length = 2) (h3 : byteAt r.payload 1 = 3)
    (ht : (s.popped rest).portReset r = t) : exec .portControlReset s = .next t.selectAll := by
  rw [← ht]
  exact State.serve_of_executes (act := fun r s => s.portReset r) he
    (by rw [Request.row_of_portControl hc hl, if_neg (by omega), if_pos h3]) (Request.lengthOk_of_portControl hc hl)

/-- R152: whichever row executes it, a PORT CONTROL that names no port is answered BAD_INDEX. -/
theorem exec_portControl_of_no_port (he : s.Executes r rest) (hc : r.code = 34) (hl : r.payload.length = 2)
    (h : byteAt r.payload 0 = 0 ∨ 8 < byteAt r.payload 0) :
    exec r.row s = .next ((s.popped rest).placeResponse r.code [2] none).selectAll := by
  rw [Request.row_of_portControl hc hl]
  by_cases h2 : byteAt r.payload 1 = 2
  · rw [if_pos h2]
    exact exec_portControlDisable_of_executes he hc hl h2 (State.portControl_of_no_port h)
  · rw [if_neg h2]
    by_cases h3 : byteAt r.payload 1 = 3
    · rw [if_pos h3]
      exact exec_portControlReset_of_executes he hc hl h3 (State.portControl_of_no_port h)
    · rw [if_neg h3]
      exact exec_portControlEnable_of_executes he hc hl h2 h3 (State.portControl_of_no_port h)

/-- R83: an ENABLE of a port takes its effect and is answered OK. -/
theorem exec_portControlEnable_of_port {t : State} (he : s.Executes r rest) (hc : r.code = 34)
    (hl : r.payload.length = 2) (hp : byteAt r.payload 0 = p.number) (ha : byteAt r.payload 1 = 1)
    (ht : (s.popped rest).enable p = t) :
    exec .portControlEnable s = .next (t.placeResponse r.code [0] none).selectAll := by
  subst ht
  exact exec_portControlEnable_of_executes he hc hl (by omega) (by omega) (State.portControl_of_action hp ha)

/-- R82: a DISABLE of a port takes its effect and is answered OK. -/
theorem exec_portControlDisable_of_port {t : State} (he : s.Executes r rest) (hc : r.code = 34)
    (hl : r.payload.length = 2) (hp : byteAt r.payload 0 = p.number) (ha : byteAt r.payload 1 = 2)
    (ht : (s.popped rest).disable p = t) :
    exec .portControlDisable s = .next (t.placeResponse r.code [0] none).selectAll := by
  subst ht
  exact exec_portControlDisable_of_executes he hc hl ha (State.portControl_of_action hp ha)

/-- R84: a RESET of a port in TRIPPED, LOCKED or DENIED takes its effect and is answered OK. -/
theorem exec_portControlReset_of_resettable {t : State} (he : s.Executes r rest) (hc : r.code = 34)
    (hl : r.payload.length = 2) (hp : byteAt r.payload 0 = p.number) (ha : byteAt r.payload 1 = 3)
    (h : (s.ports.get p).state.resettable = true) (ht : (s.popped rest).resetPort p = t) :
    exec .portControlReset s = .next (t.placeResponse r.code [0] none).selectAll := by
  subst ht
  exact exec_portControlReset_of_executes he hc hl ha ((State.portControl_of_action hp ha).trans (if_pos h))

/-- R84: a RESET in every other state is answered WRONG_STATE. -/
theorem exec_portControlReset_of_other (he : s.Executes r rest) (hc : r.code = 34) (hl : r.payload.length = 2)
    (hp : byteAt r.payload 0 = p.number) (ha : byteAt r.payload 1 = 3)
    (h : ¬ (s.ports.get p).state.resettable = true) :
    exec .portControlReset s = .next ((s.popped rest).placeResponse r.code [7] none).selectAll :=
  exec_portControlReset_of_executes he hc hl ha ((State.portControl_of_action hp ha).trans (if_neg h))

end PortControl

/-- Settles O57. Each action comes to its port by its own row; DISABLE leaves the port aside of the evaluation that it
may bring about, and a classification ends in one of three ways. -/
theorem portControlRequests : Obligations.PortControlRequests := by
  refine ⟨?requests, ?classification⟩
  case requests =>
    rintro s u ⟨code, payload⟩ rest he rfl hc hl
    obtain rfl : code = 34 := hc
    refine ⟨exec_portControl_of_no_port he rfl hl, fun p hp => ⟨fun ha => ?unknown, fun ha => ?enable,
      fun ha => ?disable, fun ha => ?reset⟩⟩
    case unknown =>
      exact exec_portControlEnable_of_executes he rfl hl (by omega) (by omega)
        (State.portControl_of_other_action hp (by omega))
    case enable =>
      have run {t : State} := exec_portControlEnable_of_port (t := t) he rfl hl hp ha
      exact ⟨fun h => run (State.enable_of_other h), fun h hopen => run (State.enable_of_open h hopen),
        fun h hattached => run (State.enable_of_attached h hattached)⟩
    case disable =>
      have run {t : State} := exec_portControlDisable_of_port (t := t) he rfl hl hp ha
      refine ⟨fun h => run (State.disable_of_disabled h), fun hpowered => ⟨_, run rfl, ?_⟩⟩
      have hframe := State.disable_frame p (s.popped rest)
      have hothers : p ∉ s.granted → ∀ q, q ≠ p → ((s.popped rest).disable p).ports.get q = s.ports.get q :=
        fun hnot q hq => State.disable_ports_of_ne (s := s.popped rest) hnot hq
      by_cases h : (s.ports.get p).state = .disabled
      · obtain ⟨hnot, hgrant⟩ := hpowered.disabled_not_granted h
        rw [State.disable_of_disabled (s := s.popped rest) h] at hframe hothers ⊢
        exact ⟨h, rfl, hgrant, hnot, fun hne => absurd h hne, hothers, hframe.weaken (by decide)⟩
      · have haside := State.disable_aside (s := s.popped rest) h
        have hunit : ((s.popped rest).disable p).ports.get p =
            { (s.ports.get p).dropped with state := .disabled } :=
          haside.unit.trans ((State.disableAlone_ports p _ p).trans (if_pos rfl))
        rw [hunit]
        exact ⟨rfl, rfl, rfl, haside.granted, fun _ => ⟨rfl, rfl, haside.entry, haside.link⟩, hothers,
          hframe.weaken (by decide)⟩
    case reset =>
      have run {t : State} := exec_portControlReset_of_resettable (t := t) he rfl hl hp ha
      have refuse := exec_portControlReset_of_other he rfl hl hp ha
      refine ⟨fun h => run ((PortState.resettable_iff _).mpr h) (State.resetPort_eq p _),
        fun htripped hlocked hdenied => refuse fun h => ?_⟩
      rcases (PortState.resettable_iff _).mp h with h | h | h
      exacts [htripped h, hlocked h, hdenied h]
  case classification =>
    intro s p reason
    refine ⟨fun c fixed h => ⟨s.enlist p reason ⟨c, fixed⟩, State.classify_of_class h, ?_, fun q hq => ?_,
      s.enlist_admission p reason ⟨c, fixed⟩, ?_, fun i hmark hattach => State.enlist_marks_of_ne _ s hmark hattach,
      s.enlist_frame p reason _⟩, fun h => ?short, fun h => ?vacant⟩
    · rw [State.enlist_ports, if_pos rfl]
    · rw [State.enlist_ports, if_neg hq]
    · rintro rfl
      exact s.enlist_portAttach p _
    case short =>
      rw [State.classify_of_short h]
      exact ⟨by rw [State.settle_ports, if_pos rfl], State.settle_item _ _ _ _ _,
        fun q hq => by rw [State.settle_ports, if_neg hq], State.settle_frame _ _ _ _ _⟩
    case vacant =>
      rw [State.classify_of_open h]
      exact ⟨by rw [State.settle_ports, if_pos rfl], State.settle_item _ _ _ _ _,
        fun q hq => by rw [State.settle_ports, if_neg hq], State.settle_frame _ _ _ _ _⟩

end Sys2Proof.Machine

/-! SUPPORT. The route unit (R105 to R108, R111): which entry lookup finds, what directed, default, DROP and FORWARD
messages give, what becomes of a message, and the settling of O40. -/

namespace Sys2Proof.Machine

/-! ### Lookup (R105) -/

section Lookup

variable {table : List RouteEntry} {ingress : Dest} {channel : Byte}

@[simp] theorem RouteIngress.upstream_describes (d : Dest) : RouteIngress.upstream.describes d = true ↔ d = .u := by
  cases d <;> simp [RouteIngress.describes]

@[simp] theorem RouteIngress.port_describes (q : Port) (d : Dest) :
    (RouteIngress.port q).describes d = true ↔ d = .port q := by
  cases d <;> simp [RouteIngress.describes, eq_comm]

@[simp] theorem RouteIngress.anyPort_describes (d : Dest) : RouteIngress.anyPort.describes d = true ↔ d ≠ .u := by
  cases d <;> simp [RouteIngress.describes]

theorem RouteEntry.matches_iff (e : RouteEntry) (ingress : Dest) (channel : Byte) :
    e.matches ingress channel = true ↔
      e.valid = true ∧ e.low ≤ channel.toNat ∧ channel.toNat ≤ e.high ∧ e.ingress.describes ingress = true := by
  simp only [RouteEntry.matches, Bool.and_eq_true, decide_eq_true_eq]
  tauto

/-- Entries that do not match are passed over, and the first that matches decides, whatever stands behind it. -/
theorem lookup_of_first_match {before behind : List RouteEntry} {e : RouteEntry}
    (he : e.matches ingress channel = true) (hbefore : ∀ x ∈ before, x.matches ingress channel = false) :
    lookup (before ++ e :: behind) ingress channel = some e :=
  List.find?_eq_some_iff_append.mpr ⟨he, before, behind, rfl, fun x hx => by rw [hbefore x hx]; rfl⟩

theorem lookup_of_no_match (h : ∀ x ∈ table, x.matches ingress channel = false) :
    lookup table ingress channel = none :=
  List.find?_eq_none.mpr fun x hx => by rw [h x hx]; exact Bool.false_ne_true

end Lookup

/-! ### The action of an entry (R108) -/

section Action

variable {e : RouteEntry} {d x : Dest}

/-- The delivery list of a FORWARD entry: its set without the ingress, in the order of the destinations. -/
def RouteEntry.delivery (e : RouteEntry) (ingress : Dest) : List Dest :=
  Dest.all.filter fun x => e.dests.get x && decide (x ≠ ingress)

@[simp] theorem RouteEntry.mem_delivery : x ∈ e.delivery d ↔ e.dests.get x = true ∧ x ≠ d := by
  simp [RouteEntry.delivery, Dest.mem_all]

theorem RouteEntry.nodup_delivery (e : RouteEntry) (d : Dest) : (e.delivery d).Nodup := Dest.nodup_all.filter _

theorem RouteEntry.decision_of_drop (h : e.action = .drop) : e.decision d = none := by
  rw [RouteEntry.decision, h]

theorem RouteEntry.decision_of_forward (h : e.action = .forward) :
    e.decision d = if e.delivery d = [] then none else some ⟨e.delivery d, e.cls, e.late, e.align⟩ := by
  rw [RouteEntry.decision, h]
  rfl

theorem RouteEntry.decision_of_no_destination (h : e.action = .forward) (honly : ∀ x, e.dests.get x = true → x = d) :
    e.decision d = none := by
  have hempty : e.delivery d = [] :=
    List.eq_nil_iff_forall_not_mem.mpr fun x hx => by
      obtain ⟨hget, hne⟩ := mem_delivery.mp hx
      exact hne (honly x hget)
  rw [decision_of_forward h, if_pos hempty]

theorem RouteEntry.decision_of_destination (h : e.action = .forward) (hget : e.dests.get x = true) (hne : x ≠ d) :
    e.decision d = some ⟨e.delivery d, e.cls, e.late, e.align⟩ := by
  rw [decision_of_forward h, if_neg (List.ne_nil_of_mem (mem_delivery.mpr ⟨hget, hne⟩))]

end Action

/-! ### Directed and routed messages (R106, R107) -/

section Route

variable {s : State} {m : Message} {d : Dest} {p : Port} {e : RouteEntry}

/-- R106: the table has no say. -/
theorem State.route_of_directed (h : m.portField = p.number) :
    s.route .u m = some (Decision.plain (.port p) m.urgent) := by
  unfold State.route
  rw [h, Port.ofNumber_number]

/-- Section 6.2: all that is not directed is routed. -/
theorem State.route_of_not_directed (h : d ≠ .u ∨ m.portField = 15) : s.route d m = s.routed d m := by
  cases d with
  | port p => rfl
  | u =>
    have hfield : m.portField = 15 := h.resolve_left fun hu => hu rfl
    unfold State.route
    rw [hfield, Port.ofNumber_of_out_of_range (by decide)]

theorem State.route_of_match (h : d ≠ .u ∨ m.portField = 15) (he : lookup s.tables.route d m.channel = some e) :
    s.route d m = e.decision d := by
  rw [State.route_of_not_directed h]
  unfold State.routed
  rw [he]

/-- R107: the default of U. -/
theorem State.route_of_no_match_from_u (h : m.portField = 15) (hnone : lookup s.tables.route .u m.channel = none) :
    s.route .u m = none := by
  rw [State.route_of_not_directed (.inr h)]
  unfold State.routed
  rw [hnone]

/-- R107: the default of a port. -/
theorem State.route_of_no_match_from_port (hnone : lookup s.tables.route (.port p) m.channel = none) :
    s.route (.port p) m = some (Decision.plain .u m.urgent) := by
  rw [State.route_of_not_directed (.inl Dest.noConfusion)]
  unfold State.routed
  rw [hnone]

end Route

/-! ### What becomes of the message (R107, R108, R111) -/

section RouteData

variable {s : State} {ingress : Dest} {m : Message} {x : Decision}

theorem State.routeData_of_dropped (h : s.route ingress m = none) :
    s.routeData ingress m = s.countEndpoint ingress EndpointCounters.addMalformed := by
  rw [State.routeData, h]

theorem State.routeData_of_decided (h : s.route ingress m = some x) :
    s.routeData ingress m = s.handOff ingress m x := by
  rw [State.routeData, h]

end RouteData

/-- Settles O40: the entry that decides, then the decision by the way a message takes through section 6.2, then the two
ends of a message. -/
theorem routing : Obligations.Routing := by
  refine ⟨fun table ingress channel => ⟨?first, lookup_of_no_match, fun e => ?matching⟩,
    fun s m p d e => ⟨State.route_of_directed, State.route_of_no_match_from_u, State.route_of_no_match_from_port,
      fun h he hdrop => ?drop, fun h he hforward honly => ?alone, fun x h he hforward hget hne => ?forward⟩,
    fun s ingress m => ⟨State.routeData_of_dropped, fun x => State.routeData_of_decided⟩⟩
  case first =>
    rintro before e behind rfl he hbefore
    exact lookup_of_first_match he hbefore
  case matching =>
    rw [RouteEntry.matches_iff]
    cases e.ingress <;> simp
  case drop => rw [State.route_of_match h he, RouteEntry.decision_of_drop hdrop]
  case alone => rw [State.route_of_match h he, RouteEntry.decision_of_no_destination hforward honly]
  case forward =>
    rw [State.route_of_match h he, RouteEntry.decision_of_destination hforward hget hne]
    exact ⟨_, rfl, rfl, rfl, rfl, e.nodup_delivery d, fun z => RouteEntry.mem_delivery⟩

end Sys2Proof.Machine

/-! SUPPORT. The traffic side of every operation (R97, R112 to R121): what stands on the lines, which references a
record still owes, the levels of the pool, and the preorder `State.Flows` of the operations that keep all three. -/

namespace Sys2Proof.Machine

open Sys2Proof

/-! ### Lines: the state of a link and its transmission -/

/-- Every link has the state and the transmission that it had. -/
def State.SameLines (t s : State) : Prop :=
  ∀ d, (t.links.get d).tx = (s.links.get d).tx ∧ t.linkState d = s.linkState d

section Lines

variable {s t u : State}

theorem State.SameLines.trans (h : u.SameLines t) (k : t.SameLines s) : u.SameLines s :=
  fun d => ⟨(h d).1.trans (k d).1, (h d).2.trans (k d).2⟩

theorem State.SameLines.of_links (h : t.links = s.links) : t.SameLines s :=
  fun d => by simp only [State.linkState, h, and_self]

/-- A change of one link that keeps its state and its transmission. -/
theorem State.modLink_lines (d : Dest) (f : Link → Link) (hf : ∀ l, (f l).tx = l.tx ∧ (f l).state = l.state)
    (s : State) : (s.modLink d f).SameLines s := fun x => by
  simp only [State.linkState, State.modLink_links, PerDest.get_set]
  split
  · next h => subst h; exact hf _
  · exact ⟨rfl, rfl⟩

theorem State.foldl_lines {α : Type} {f : State → α → State} (h : ∀ s a, (f s a).SameLines s) (l : List α) (s : State) :
    (l.foldl f s).SameLines s := by
  induction l generalizing s with
  | nil => exact .of_links rfl
  | cons a l ih => exact (ih _).trans (h s a)

theorem State.postFlow_lines (k : FlowKind) (d : Dest) (s : State) : (s.postFlow k d).SameLines s := by
  unfold State.postFlow
  split
  · refine State.modLink_lines d _ ?_ s
    exact fun _ => ⟨rfl, rfl⟩
  · exact .of_links rfl

theorem State.postFlowAll_lines (k : FlowKind) (s : State) : (s.postFlowAll k).SameLines s :=
  State.foldl_lines (fun s d => s.postFlow_lines k d) _ s

theorem State.postMark_lines (m : MarkMsg) (d : Dest) (s : State) : (s.postMark m d).SameLines s := by
  unfold State.postMark
  split
  · exact .of_links rfl
  · refine State.modLink_lines d _ ?_ s
    exact fun _ => ⟨rfl, rfl⟩

theorem State.enterHeld_lines (s : State) : s.enterHeld.SameLines s :=
  State.SameLines.trans (.of_links (State.raiseHub_frame _ _ .links (by decide)))
    ((State.postFlowAll_lines .hold { s with held := true }).trans (.of_links rfl))

theorem State.judgeTake_lines (s : State) : s.judgeTake.SameLines s := by
  unfold State.judgeTake
  split
  · exact s.enterHeld_lines
  · exact .of_links rfl

theorem State.judgeFree_lines (s : State) : s.judgeFree.SameLines s := by
  unfold State.judgeFree
  split
  · exact (State.postFlowAll_lines .resume { s with held := false }).trans (.of_links rfl)
  · exact .of_links rfl

theorem State.freeIfUnused_lines (i : Nat) (s : State) : (s.freeIfUnused i).SameLines s := by
  unfold State.freeIfUnused
  split
  · exact .of_links rfl
  · split
    · exact (State.judgeFree_lines _).trans (.of_links rfl)
    · exact .of_links rfl

theorem State.releaseRef_lines (i : Nat) (s : State) : (s.releaseRef i).SameLines s := by
  unfold State.releaseRef
  split
  · exact .of_links rfl
  · exact (State.freeIfUnused_lines i _).trans (.of_links rfl)

theorem State.releaseRefs_lines (is : List Nat) (s : State) : (s.releaseRefs is).SameLines s :=
  State.foldl_lines (fun s i => s.releaseRef_lines i) is s

end Lines

/-! ### Records, one place at a time -/

section Records

variable {s t : State}

theorem State.record_congr (h : t.records = s.records) (i : Nat) : t.record i = s.record i := by
  rw [State.record, State.record, h]

/-- The record of every slot after one slot is written. -/
theorem State.record_set (s : State) (i j : Nat) (r : Option Record) :
    ({ s with records := s.records.set i r } : State).record j =
      if i = j ∧ i < s.records.length then r else s.record j := by
  simp only [State.record, List.getElem?_set]
  by_cases hij : i = j
  · subst hij
    by_cases hi : i < s.records.length
    · simp [hi]
    · simp [hi]
  · simp [hij]

theorem State.lt_of_record {i : Nat} {r : Record} (h : s.record i = some r) : i < s.records.length := by
  by_contra hle
  simp [State.record, List.getElem?_eq_none (Nat.le_of_not_lt hle)] at h

theorem State.record_set_of_some {i : Nat} {r : Record} (h : s.record i = some r) (x : Option Record) (j : Nat) :
    ({ s with records := s.records.set i x } : State).record j = if i = j then x else s.record j := by
  rw [State.record_set]
  simp [State.lt_of_record h]

theorem State.freeIfUnused_record (i : Nat) (s : State) (j : Nat) :
    (s.freeIfUnused i).record j =
      if i = j ∧ (s.record i).any (fun r => decide (r.refs = 0)) = true then none else s.record j := by
  have hjudge : ∀ y : State, y.judgeFree.record j = y.record j :=
    fun y => State.record_congr (y.judgeFree_frame .records (by decide)) j
  unfold State.freeIfUnused
  split
  · next h => simp [h]
  · next r h =>
    split
    · next h0 => rw [hjudge, State.record_set_of_some h]; simp [h, h0]
    · next h0 => simp [h, h0]

/-- R116: what releasing a reference does to every record. -/
theorem State.releaseRef_record (i : Nat) (s : State) (j : Nat) :
    (s.releaseRef i).record j =
      if i = j then (s.record i).bind fun r => if r.refs ≤ 1 then none else some { r with refs := r.refs - 1 }
      else s.record j := by
  unfold State.releaseRef
  split
  · next h =>
    split
    · next hij => rw [← hij, h]; rfl
    · rfl
  · next r h =>
    rw [State.freeIfUnused_record, State.record_set_of_some h, State.record_set_of_some h]
    by_cases hij : i = j
    · have hzero : r.refs - 1 = 0 ↔ r.refs ≤ 1 := by omega
      subst hij
      simp [h, hzero]
    · simp [hij]

end Records
end Sys2Proof.Machine

namespace Sys2Proof.Machine

open Sys2Proof

/-! ### References owed (R116) -/

section Owed

variable {s t : State} {i : Nat} {d : Dest}

theorem State.refsAt_of_lines (hlines : t.SameLines s) (hqueues : t.queues = s.queues) (d : Dest) :
    t.refsAt d = s.refsAt d := by
  rw [State.refsAt, State.refsAt, (hlines d).1, hqueues]

/-- The sum over different things changes by what one summand changes. -/
theorem sum_map_change {α : Type} [DecidableEq α] {l : List α} {d : α} {f g : α → Nat} {a b : Nat} (hd : d ∈ l)
    (hothers : ∀ x, x ≠ d → f x = g x) (hl : l.Nodup) (hchange : f d + a = g d + b) :
    (l.map f).sum + a = (l.map g).sum + b := by
  have hrest : (l.erase d).map f = (l.erase d).map g :=
    List.map_congr_left fun x hx => hothers x ((hl.mem_erase_iff.mp hx).1)
  rw [← List.sum_map_erase f hd, ← List.sum_map_erase g hd, hrest]
  omega

/-- The references to a record change by what one destination changes. -/
theorem State.refsTo_change {a b : Nat} (hothers : ∀ x, x ≠ d → t.refsAt x = s.refsAt x)
    (hchange : (t.refsAt d).count i + a = (s.refsAt d).count i + b) : t.refsTo i + a = s.refsTo i + b :=
  sum_map_change (Dest.mem_all d) (fun x hx => by rw [hothers x hx]) Dest.nodup_all hchange

theorem State.refsTo_congr (h : ∀ d, t.refsAt d = s.refsAt d) (i : Nat) : t.refsTo i = s.refsTo i := by
  simp only [State.refsTo, h]

/-- Every record in use counts the references that stand to it and those of a list that are still to be released, and
but for a fresh one it has at least one; nothing refers to a free record. -/
def State.Owed (extra : List Nat) (fresh : Option Nat) (s : State) : Prop :=
  ∀ i, match s.record i with
    | some r => r.refs = s.refsTo i + extra.count i ∧ (fresh ≠ some i → 1 ≤ r.refs)
    | none => s.refsTo i + extra.count i = 0

theorem State.refsCounted_iff_owed : s.RefsCounted ↔ s.Owed [] none := by
  refine forall_congr' fun i => ?_
  cases s.record i <;> simp

variable {extra : List Nat} {fresh : Option Nat}

theorem State.Owed.congr (h : s.Owed extra fresh) (hrecords : t.records = s.records)
    (hrefs : ∀ d, t.refsAt d = s.refsAt d) : t.Owed extra fresh := fun i => by
  rw [State.record_congr hrecords, State.refsTo_congr hrefs]
  exact h i

theorem State.RefsCounted.congr (h : s.RefsCounted) (hrecords : t.records = s.records)
    (hrefs : ∀ d, t.refsAt d = s.refsAt d) : t.RefsCounted := by
  rw [State.refsCounted_iff_owed] at h ⊢
  exact State.Owed.congr h hrecords hrefs

/-- References that stand and references to be released may change places. -/
theorem State.Owed.move {more : List Nat} (h : s.Owed extra fresh) (hrecords : t.records = s.records)
    (hcount : ∀ i, t.refsTo i + more.count i = s.refsTo i + extra.count i) : t.Owed more fresh := fun i => by
  rw [State.record_congr hrecords]
  have hi := h i
  cases hr : s.record i with
  | none => simp only [hr] at hi ⊢; rw [hcount]; exact hi
  | some r => simp only [hr] at hi ⊢; rw [hcount]; exact hi

/-- The same at one destination. -/
theorem State.Owed.move_at {more : List Nat} (h : s.Owed extra fresh) (hrecords : t.records = s.records)
    (hothers : ∀ x, x ≠ d → t.refsAt x = s.refsAt x)
    (hcount : ∀ i, (t.refsAt d).count i + more.count i = (s.refsAt d).count i + extra.count i) : t.Owed more fresh :=
  h.move hrecords fun i => State.refsTo_change hothers (hcount i)

theorem State.Owed.releaseRef (h : s.Owed (i :: extra) fresh) (hi : fresh ≠ some i) :
    (s.releaseRef i).Owed extra fresh := fun j => by
  have hrefs : (s.releaseRef i).refsTo j = s.refsTo j :=
    State.refsTo_congr (State.refsAt_of_lines (s.releaseRef_lines i) (s.releaseRef_frame i .queues (by decide))) j
  have hj := h j
  rw [State.releaseRef_record, hrefs]
  by_cases hij : i = j
  · subst hij
    rw [if_pos rfl]
    cases hr : s.record i with
    | none =>
      simp only [hr, List.count_cons_self] at hj
      simp only [Option.bind_none]
      omega
    | some r =>
      simp only [hr, List.count_cons_self] at hj
      obtain ⟨hcount, hone⟩ := hj
      by_cases hle : r.refs ≤ 1
      · simp only [Option.bind_some, if_pos hle]
        have := hone hi
        omega
      · simp only [Option.bind_some, if_neg hle]
        omega
  · rw [if_neg hij]
    simpa [List.count_cons_of_ne hij] using hj

theorem State.Owed.releaseRefs (is : List Nat) (h : s.Owed (is ++ extra) none) : (s.releaseRefs is).Owed extra none := by
  induction is generalizing s with
  | nil => exact h
  | cons i is ih => exact ih (State.Owed.releaseRef h (by simp))

end Owed
end Sys2Proof.Machine

namespace Sys2Proof.Machine

open Sys2Proof

/-! ### The levels of the pool (R112, R119 to R121) -/

section Pool

variable {s t : State}

/-- The cells that a slot holds. -/
def slotCells (r : Option Record) : Nat := (r.map Record.cells).getD 0

theorem State.heldCells_eq (s : State) : s.heldCells = (s.records.map slotCells).sum := rfl

/-- One slot is written: the sum changes by what it held and holds. -/
theorem sum_slotCells_set {l : List (Option Record)} {i : Nat} (hi : i < l.length) (x : Option Record) :
    ((l.set i x).map slotCells).sum + slotCells (l[i]) = (l.map slotCells).sum + slotCells x := by
  induction l generalizing i with
  | nil => simp at hi
  | cons a l ih =>
    cases i with
    | zero => simp; omega
    | succ i =>
      have h := ih (i := i) (by simpa using hi)
      simp only [List.set_cons_succ, List.map_cons, List.sum_cons, List.getElem_cons_succ]
      omega

/-- R112: a record in use makes way for one that holds no more cells. -/
theorem State.freeCells_le_of_set {i : Nat} {r : Record} (h : s.record i = some r) {x : Option Record}
    (hx : slotCells x ≤ r.cells) : s.freeCells ≤ ({ s with records := s.records.set i x } : State).freeCells := by
  have hi := State.lt_of_record h
  have hr : s.records[i] = some r := by
    simpa [State.record, List.getElem?_eq_getElem hi] using h
  have hsum := sum_slotCells_set hi x
  have hcells : slotCells (s.records[i]) = r.cells := by rw [hr]; rfl
  simp only [State.freeCells, State.heldCells_eq]
  omega

theorem State.freeCells_congr (h : t.records = s.records) : t.freeCells = s.freeCells := by
  rw [State.freeCells, State.heldCells, h]; rfl

theorem State.PoolJudged.congr (h : s.PoolJudged) (htables : t.tables = s.tables) (hheld : t.held = s.held)
    (hrecords : t.records = s.records) : t.PoolJudged := by
  rw [State.PoolJudged, htables, hheld, State.freeCells_congr hrecords]
  exact h

/-- A pool that has gained cells, or lost none, is judged as before. -/
theorem State.PoolJudged.of_free (h : s.PoolJudged) (htables : t.tables = s.tables) (hheld : t.held = s.held)
    (hfree : s.freeCells ≤ t.freeCells) : t.PoolJudged := by
  obtain ⟨hlow, hhigh, hclear⟩ := h
  rw [State.PoolJudged, htables, hheld]
  exact ⟨hlow, hhigh, fun hc => (hclear hc).trans_le hfree⟩

/-- R120: a judged take leaves CLEAR only a pool above its hold level. -/
theorem State.judgeTake_pool (hlow : 8 ≤ s.tables.holdLevel) (hhigh : s.tables.holdLevel ≤ 64) :
    s.judgeTake.PoolJudged := by
  have hframe := s.judgeTake_frame
  rw [State.PoolJudged, hframe .tables (by decide), State.judgeTake_held,
    State.freeCells_congr (hframe .records (by decide))]
  refine ⟨hlow, hhigh, fun hclear => ?_⟩
  simp only [Bool.or_eq_false_iff, decide_eq_false_iff_not] at hclear
  exact Nat.lt_of_not_le hclear.2

/-- R121: a judged freeing leaves HELD only at the resume level. -/
theorem State.PoolJudged.judgeFree (h : s.PoolJudged) : s.judgeFree.PoolJudged := by
  obtain ⟨hlow, hhigh, hclear⟩ := h
  have hframe := s.judgeFree_frame
  rw [State.PoolJudged, hframe .tables (by decide), State.judgeFree_held,
    State.freeCells_congr (hframe .records (by decide))]
  refine ⟨hlow, hhigh, fun hnow => ?_⟩
  rcases Bool.and_eq_false_iff.mp hnow with hheld | hfree
  · exact hclear hheld
  · have : s.resumeLevel ≤ s.freeCells := by simpa using hfree
    unfold State.resumeLevel Config.resumeBand at this
    omega

theorem State.PoolJudged.freeIfUnused (h : s.PoolJudged) (i : Nat) : (s.freeIfUnused i).PoolJudged := by
  unfold State.freeIfUnused
  split
  · exact h
  · next r hr =>
    split
    · exact (State.PoolJudged.of_free (t := { s with records := s.records.set i none }) h rfl rfl
        (State.freeCells_le_of_set hr (Nat.zero_le _))).judgeFree
    · exact h

theorem State.PoolJudged.releaseRef (h : s.PoolJudged) (i : Nat) : (s.releaseRef i).PoolJudged := by
  unfold State.releaseRef
  split
  · exact h
  · next r hr =>
    exact (State.PoolJudged.of_free (t := { s with records := s.records.set i (some { r with refs := r.refs - 1 }) })
      h rfl rfl (State.freeCells_le_of_set hr le_rfl)).freeIfUnused i

theorem State.PoolJudged.releaseRefs (h : s.PoolJudged) (is : List Nat) : (s.releaseRefs is).PoolJudged := by
  induction is generalizing s with
  | nil => exact h
  | cons i is ih => exact ih (h.releaseRef i)

theorem State.PoolJudged.addRef (h : s.PoolJudged) (i : Nat) : (s.addRef i).PoolJudged := by
  unfold State.addRef
  split
  · exact h
  · next r hr => exact h.of_free rfl rfl (State.freeCells_le_of_set hr le_rfl)

end Pool

/-! ### The number of records -/

section Length

variable (s : State) (i : Nat)

theorem State.freeIfUnused_records_length : (s.freeIfUnused i).records.length = s.records.length := by
  unfold State.freeIfUnused
  split
  · rfl
  · split
    · rw [State.judgeFree_frame _ .records (by decide)]
      exact List.length_set ..
    · rfl

theorem State.releaseRef_records_length : (s.releaseRef i).records.length = s.records.length := by
  unfold State.releaseRef
  split
  · rfl
  · rw [State.freeIfUnused_records_length]
    exact List.length_set ..

theorem State.releaseRefs_records_length (is : List Nat) : (s.releaseRefs is).records.length = s.records.length := by
  induction is generalizing s with
  | nil => rfl
  | cons i is ih => exact (ih _).trans (s.releaseRef_records_length i)

theorem State.addRef_records_length : (s.addRef i).records.length = s.records.length := by
  unfold State.addRef
  split
  · rfl
  · exact List.length_set ..

end Length

/-! ### What keeps the traffic in order -/

/-- The parts that the power side may change. -/
def Part.working : List Part := Part.feeding ++ [.supply, .busVolts]

/-- From the first state to the second the power side has worked: it has left the line of U and the management unit
alone, and the bounds, the references and the levels of the pool are kept. -/
structure State.Flows (s t : State) : Prop where
  frame : t.SameBut Part.working s
  uLine : t.linkState .u = s.linkState .u
  bounded : s.Bounded → t.Bounded
  refs : s.RefsCounted → t.RefsCounted
  pool : s.PoolJudged → t.PoolJudged

section Flows

variable {s t u : State}

theorem State.Flows.refl (s : State) : s.Flows s := ⟨.refl _ s, rfl, id, id, id⟩

theorem State.Flows.trans (h : s.Flows t) (k : t.Flows u) : s.Flows u :=
  ⟨k.frame.comp h.frame fun _ hx => hx, k.uLine.trans h.uLine, k.bounded ∘ h.bounded, k.refs ∘ h.refs, k.pool ∘ h.pool⟩

theorem State.Flows.foldl {α : Type} {f : State → α → State} (h : ∀ (s : State) a, s.Flows (f s a)) (l : List α) (s : State) :
    s.Flows (l.foldl f s) := by
  induction l generalizing s with
  | nil => exact .refl s
  | cons a l ih => exact (h s a).trans (ih _)

theorem State.Bounded.congr (h : s.Bounded) (hmgmt : t.mgmt = s.mgmt) (hphases : t.phases = s.phases)
    (hqueues : ∀ d, (t.queues.get d).Bounded ∨ t.queues.get d = s.queues.get d)
    (hrecords : t.records.length = s.records.length) : t.Bounded := by
  obtain ⟨hinput, hlane, hnotice, hq, hmarks, hlength⟩ := h
  rw [State.Bounded, hmgmt, hphases, hrecords]
  refine ⟨hinput, hlane, hnotice, fun d => ?_, hmarks, hlength⟩
  rcases hqueues d with hd | hd
  · exact hd
  · rw [hd]; exact hq d

/-- What leaves the lines, the queues, the records and the held state alone. -/
theorem State.Flows.of_lines (hframe : t.SameBut Part.working s) (hlines : t.SameLines s)
    (hqueues : t.queues = s.queues) (hrecords : t.records = s.records) (hheld : t.held = s.held) : s.Flows t where
  frame := hframe
  uLine := (hlines .u).2
  bounded h := h.congr (hframe .mgmt (by decide)) (hframe .phases (by decide)) (fun d => .inr (by rw [hqueues]))
    (by rw [hrecords])
  refs h := State.RefsCounted.congr h hrecords (State.refsAt_of_lines hlines hqueues)
  pool h := h.congr (hframe .tables (by decide)) hheld hrecords

/-- What touches no traffic at all. -/
theorem State.Flows.of_frame {m : List Part} (h : t.SameBut m s)
    (hm : ∀ x ∈ m, x ∈ Part.working ∧ x ∉ [Part.links, .queues, .records, .held]) : s.Flows t :=
  have hout {x : Part} (hx : x ∈ [Part.links, .queues, .records, .held]) : x ∉ m := fun hmem => (hm x hmem).2 hx
  .of_lines (h.weaken fun x hx => (hm x hx).1) (.of_links (h .links (hout (by decide)))) (h .queues (hout (by decide)))
    (h .records (hout (by decide))) (h .held (hout (by decide)))

/-! ### A link that goes DOWN (R92, R118) -/

/-- R118: the references that stood at the destination are to be released. -/
theorem State.Owed.flush (d : Dest) (h : s.Owed [] none) :
    State.Owed (s.refsAt d ++ []) none
      { s with links := s.links.set d Link.reset, queues := s.queues.set d Queues.reset } := by
  refine h.move_at (d := d) rfl (fun x hx => ?_) fun i => ?_
  · simp only [State.refsAt, PerDest.get_set_of_ne _ _ _ _ hx]
  · simp [State.refsAt, Link.reset, Queues.reset]

theorem State.flushLink_refs (d : Dest) (h : s.RefsCounted) : (s.flushLink d).RefsCounted := by
  rw [State.refsCounted_iff_owed] at h ⊢
  exact State.Owed.releaseRefs _ (((h.flush d).congr rfl) fun _ => rfl)

theorem State.flushLink_pool (d : Dest) (h : s.PoolJudged) : (s.flushLink d).PoolJudged :=
  State.PoolJudged.releaseRefs (s := State.countEndpoint d _
    { s with links := s.links.set d Link.reset, queues := s.queues.set d Queues.reset }) (h.congr rfl rfl rfl) _

theorem State.flushLink_queues (d x : Dest) (s : State) :
    (s.flushLink d).queues.get x = if x = d then Queues.reset else s.queues.get x := by
  have hrelease : ∀ (y : State) is, (y.releaseRefs is).queues = y.queues :=
    fun y is => y.releaseRefs_frame is .queues (by decide)
  rw [State.flushLink, hrelease]
  exact PerDest.get_set _ _ _ _

theorem Queues.reset_bounded : Queues.reset.Bounded := ⟨by decide, by decide, by decide⟩

theorem State.flushLink_bounded (d : Dest) (h : s.Bounded) : (s.flushLink d).Bounded := by
  have hframe := s.flushLink_frame d
  refine h.congr (hframe .mgmt (by decide)) (hframe .phases (by decide)) (fun x => ?_) ?_
  · rw [State.flushLink_queues]
    split
    · exact .inl Queues.reset_bounded
    · exact .inr rfl
  · exact State.releaseRefs_records_length _ _

/-- R92: only the link that goes DOWN changes its line. -/
theorem State.flushLink_line_of_ne {d x : Dest} (hx : x ≠ d) (s : State) :
    ((s.flushLink d).links.get x).tx = (s.links.get x).tx ∧ (s.flushLink d).linkState x = s.linkState x := by
  refine (State.releaseRefs_lines _ _ x).imp (fun h => h.trans ?_) fun h => h.trans ?_
  · exact congrArg Link.tx (PerDest.get_set_of_ne _ _ _ _ hx)
  · exact congrArg Link.state (PerDest.get_set_of_ne _ _ _ _ hx)

theorem State.portLinkDown_linkState_of_ne {p : Port} {x : Dest} (hx : x ≠ .port p) (s : State) :
    (s.portLinkDown p).linkState x = s.linkState x := by
  unfold State.portLinkDown
  split
  · rfl
  · rw [State.linkState, State.modLink_links, PerDest.get_set_of_ne _ _ _ _ hx]
    exact (State.flushLink_line_of_ne hx (s.modGrantSlot p none)).2

/-- R92, R118: a port link that goes DOWN. -/
theorem State.Flows.portLinkDown (p : Port) (s : State) : s.Flows (s.portLinkDown p) := by
  have hframe := s.portLinkDown_frame p
  refine ⟨hframe.weaken (by decide), State.portLinkDown_linkState_of_ne (by simp) s, ?_, ?_, ?_⟩ <;>
    unfold State.portLinkDown <;> split
  · exact id
  · exact fun h => (State.flushLink_bounded (s := s.modGrantSlot p none) (.port p) h).congr rfl rfl
      (fun _ => .inr rfl) rfl
  · exact id
  · intro h
    have hflush := State.flushLink_refs (s := s.modGrantSlot p none) (.port p) h
    rw [State.refsCounted_iff_owed] at hflush ⊢
    refine hflush.congr rfl (State.refsAt_of_lines (State.modLink_lines _ _ ?_ _) rfl)
    exact fun _ => ⟨rfl, rfl⟩
  · exact id
  · exact fun h => (State.flushLink_pool (s := s.modGrantSlot p none) (.port p) h).congr rfl rfl rfl

end Flows
end Sys2Proof.Machine

namespace Sys2Proof.Machine

open Sys2Proof

/-! ### A port as the power side sees it (R41, R43, R62, R91) -/

/-- A port's unit, its place on the two lists, and whether its link is DOWN. -/
structure PortView where
  unit : PortUnit
  granted : Bool
  entry : Option Entry
  down : Bool

def State.view (s : State) (p : Port) : PortView :=
  { unit := s.ports.get p, granted := decide (p ∈ s.granted), entry := s.entryOf p,
    down := decide (s.linkState (.port p) = .down) }

/-- The port is on the granted list exactly while it holds a grant, its entry fits its state, and it has a class where
it needs one. -/
structure PortView.Fed (v : PortView) : Prop where
  listed : v.granted = v.unit.state.holdsGrant
  grant : v.granted = false → v.unit.grant = 0
  entry : ∀ e, v.entry = some e →
    if e.reason = .increase then v.unit.state.closed = true else v.unit.state = .waiting
  eff : v.unit.state.classed = true → v.unit.eff.isSome = true

/-- `State.Powered` but for what the selector and the gate have to say. -/
structure State.Fed (s : State) : Prop where
  granted : s.granted.Nodup
  entries : (s.admission.map (·.port)).Nodup
  view : ∀ p, (s.view p).Fed

/-- Only a changeover pauses a port. -/
def State.PausePlaced (s : State) : Prop := ∀ p, (s.ports.get p).state = .paused → s.sel.state.target ≠ none

/-- No port holds a grant while the hub is UNCONFIGURED or in START, NO_SOURCE or CUT. -/
def State.GrantPlaced (s : State) : Prop :=
  s.sel.state.feeds = false ∨ s.mgmt.operational = false → s.granted = []

/-- No grant, retry draw or requested draw of the port is above 1200 dW. -/
structure PortView.Drawn (v : PortView) : Prop where
  grant : v.unit.grant ≤ 1200
  retry : ∀ n ∈ v.unit.retryDraw, n ≤ 1200
  entry : ∀ e, v.entry = some e → e.draw ≤ 1200

section Views

variable {s t : State} {p : Port} {e : Entry}

theorem State.view_congr (hunit : t.ports.get p = s.ports.get p) (hgranted : p ∈ t.granted ↔ p ∈ s.granted)
    (hentry : t.entryOf p = s.entryOf p) (hlink : t.linkState (.port p) = s.linkState (.port p)) :
    t.view p = s.view p := by
  simp only [State.view, hunit, hgranted, hentry, hlink]

theorem State.entryOf_congr (h : t.admission = s.admission) (p : Port) : t.entryOf p = s.entryOf p := by
  rw [State.entryOf, h, ← State.entryOf]

theorem State.linkState_congr (h : t.links = s.links) (d : Dest) : t.linkState d = s.linkState d := by
  rw [State.linkState, h, ← State.linkState]

theorem State.entryOf_mem (h : s.entryOf p = some e) : e ∈ s.admission := List.mem_of_find?_eq_some h

/-- R41: with one entry to a port, an entry on the list is its port's entry. -/
theorem State.entryOf_of_mem (hentries : (s.admission.map (·.port)).Nodup) (he : e ∈ s.admission) :
    s.entryOf e.port = some e := by
  obtain ⟨x, hx⟩ := Option.isSome_iff_exists.mp (State.entryOf_isSome_iff.mpr ⟨e, he, rfl⟩)
  rw [hx, List.inj_on_of_nodup_map hentries he (State.entryOf_mem hx) (State.entryOf_port hx).symm]

theorem State.Fed.listed (h : s.Fed) (p : Port) : p ∈ s.granted ↔ (s.ports.get p).state.holdsGrant = true :=
  decide_eq_true_iff.symm.trans (Bool.eq_iff_iff.mp (h.view p).listed)

theorem State.Fed.fits (h : s.Fed) (he : e ∈ s.admission) : s.EntryFits e :=
  (h.view e.port).entry e (State.entryOf_of_mem h.entries he)

/-- `State.Powered`, port by port. -/
theorem State.powered_iff : s.Powered ↔ s.Fed ∧ s.PausePlaced ∧ s.GrantPlaced := by
  constructor
  · rintro ⟨hgranted, hentries, hlisted, hgrant, hfits, heff, hpaused, hoff⟩
    refine ⟨⟨hgranted, hentries, fun p => ⟨?_, fun hp => hgrant p (of_decide_eq_false hp), fun e he => ?_, heff p⟩⟩,
      ⟨hpaused, hoff⟩⟩
    · exact Bool.eq_iff_iff.mpr (decide_eq_true_iff.trans (hlisted p))
    · have hport : e.port = p := State.entryOf_port he
      subst hport
      exact hfits e (State.entryOf_mem he)
  · rintro ⟨hfed, hpaused, hoff⟩
    exact ⟨hfed.granted, hfed.entries, hfed.listed, fun p hp => (hfed.view p).grant (decide_eq_false hp),
      fun e he => hfed.fits he, fun p => (hfed.view p).eff, hpaused, hoff⟩

theorem State.linksFollow_iff : s.LinksFollow ↔ ∀ p, (s.view p).down = !(s.view p).unit.state.closed :=
  forall_congr' fun p => by
    simp only [State.view]
    cases (s.ports.get p).state.closed <;> simp

theorem State.budgeted_iff (hentries : (s.admission.map (·.port)).Nodup) :
    s.Budgeted ↔ s.budget.b ≤ 6000 ∧ s.grantedSum ≤ 6000 ∧ ∀ p, (s.view p).Drawn := by
  constructor
  · rintro ⟨hb, hsum, hdraws, hports⟩
    exact ⟨hb, hsum, fun p => ⟨(hports p).1, (hports p).2, fun e he => hdraws e (State.entryOf_mem he)⟩⟩
  · rintro ⟨hb, hsum, hviews⟩
    exact ⟨hb, hsum, fun e he => (hviews e.port).entry e (State.entryOf_of_mem hentries he),
      fun p => ⟨(hviews p).grant, (hviews p).retry⟩⟩

/-- An entry is found as before where no entry of its port is taken away. -/
theorem find?_filter_port {l : List Entry} {f : Entry → Bool} {q : Port} (hf : ∀ e, e.port = q → f e = true) :
    (l.filter f).find? (fun e => decide (e.port = q)) = l.find? fun e => decide (e.port = q) := by
  rw [List.find?_filter]
  refine congrArg (fun g => List.find? g l) (funext fun e => ?_)
  by_cases h : e.port = q
  · simp [h, hf e h]
  · simp [h]

end Views

/-! ### A move of one port -/

/-- What a port may become while the selector is in a state and the gate is open or not. -/
structure PortView.Moves (T : Tables) (sel : SelState) (gate : Bool) (v w : PortView) : Prop where
  fed : w.Fed
  paused : w.unit.state = .paused → v.unit.state = .paused ∨ sel.target ≠ none
  fresh : w.granted = true → v.granted = true ∨ (sel.feeds = true ∧ gate = true)
  follows : (v.down = !v.unit.state.closed) → w.down = !w.unit.state.closed
  timers : v.unit.TimersPlaced → w.unit.TimersPlaced
  drawn : T.InRange → v.Drawn → w.Drawn

theorem PortView.Moves.refl {T : Tables} {sel : SelState} {gate : Bool} {v : PortView} (h : v.Fed) :
    v.Moves T sel gate v :=
  ⟨h, .inl, .inl, id, id, fun _ => id⟩

/-- A change of a unit that keeps its power, its grant and its entry fitting. -/
structure PortUnit.Moves (u w : PortUnit) : Prop where
  closed : w.state.closed = u.state.closed
  paused : w.state = .paused ↔ u.state = .paused
  waiting : w.state = .waiting ↔ u.state = .waiting
  eff : (u.state.classed = true → u.eff.isSome = true) → w.state.classed = true → w.eff.isSome = true
  grant : w.grant = u.grant
  retry : w.retryDraw = u.retryDraw ∨ w.retryDraw = none
  timers : u.TimersPlaced → w.TimersPlaced

theorem PortUnit.Moves.refl (u : PortUnit) : u.Moves u :=
  ⟨rfl, .rfl, .rfl, id, rfl, .inl rfl, id⟩

theorem PortUnit.Moves.view {T : Tables} {sel : SelState} {gate : Bool} {v : PortView} {w : PortUnit}
    (h : v.unit.Moves w) (hv : v.Fed) : v.Moves T sel gate { v with unit := w } where
  fed :=
    { listed := by
        have hpaused : decide (w.state = .paused) = decide (v.unit.state = .paused) := by simp only [h.paused]
        rw [hv.listed, PortState.holdsGrant, PortState.holdsGrant, h.closed, hpaused]
      grant := fun hg => h.grant.trans (hv.grant hg)
      entry := fun e he => by
        have := hv.entry e he
        simpa only [h.closed, h.waiting] using this
      eff := h.eff hv.eff }
  paused hw := .inl (h.paused.mp hw)
  fresh := .inl
  follows hd := by simpa only [h.closed] using hd
  timers := h.timers
  drawn _ hd :=
    { grant := h.grant.le.trans hd.grant
      retry := fun n hn => by
        rcases h.retry with heq | hnone
        · exact hd.retry n (heq ▸ hn)
        · simp [hnone] at hn
      entry := hd.entry }

/-! ### The work of the power side -/

/-- From the first state to the second the power side has worked, and what R41, R43, R62, R91 and the timers' rules say
of the ports still holds. -/
structure State.Works (s t : State) : Prop where
  flows : s.Flows t
  fed : s.Fed → t.Fed
  links : s.Fed → s.LinksFollow → t.LinksFollow
  timers : s.Fed → s.TimersPlaced → t.TimersPlaced
  budgeted : s.Fed → s.tables.InRange → s.Budgeted → t.Budgeted

/-- Work after which the selector and the gate still have no objection. -/
structure State.Runs (s t : State) : Prop extends s.Works t where
  paused : s.Fed → s.PausePlaced → t.PausePlaced
  off : s.Fed → s.GrantPlaced → t.GrantPlaced

section Work

variable {s t u : State}

theorem State.Works.refl (s : State) : s.Works s :=
  ⟨.refl s, id, fun _ => id, fun _ => id, fun _ _ => id⟩

theorem State.Works.trans (h : s.Works t) (k : t.Works u) : s.Works u where
  flows := h.flows.trans k.flows
  fed := k.fed ∘ h.fed
  links hs hl := k.links (h.fed hs) (h.links hs hl)
  timers hs ht := k.timers (h.fed hs) (h.timers hs ht)
  budgeted hs hr hb := k.budgeted (h.fed hs) (by rw [h.flows.frame .tables (by decide)]; exact hr) (h.budgeted hs hr hb)

theorem State.Runs.refl (s : State) : s.Runs s := ⟨.refl s, fun _ => id, fun _ => id⟩

theorem State.Runs.trans (h : s.Runs t) (k : t.Runs u) : s.Runs u :=
  ⟨h.toWorks.trans k.toWorks, fun hs hp => k.paused (h.fed hs) (h.paused hs hp),
    fun hs ho => k.off (h.fed hs) (h.off hs ho)⟩

theorem State.Runs.foldl {α : Type} {f : State → α → State} (h : ∀ (s : State) a, s.Runs (f s a)) (l : List α)
    (s : State) : s.Runs (l.foldl f s) := by
  induction l generalizing s with
  | nil => exact .refl s
  | cons a l ih => exact (h s a).trans (ih _)

/-- Each port moves, and the granted sum does not grow or stays within the budget. -/
theorem State.Runs.of_views (hflows : s.Flows t) (hframe : t.SameBut Part.power s)
    (hgranted : s.Fed → t.granted.Nodup) (hentries : s.Fed → (t.admission.map (·.port)).Nodup)
    (hviews : s.Fed → ∀ p, (s.view p).Moves s.tables s.sel.state s.mgmt.operational (t.view p))
    (hsum : s.Fed → t.grantedSum ≤ s.grantedSum ∨ 0 ≤ t.free) : s.Runs t where
  flows := hflows
  fed hs := ⟨hgranted hs, hentries hs, fun p => (hviews hs p).fed⟩
  links hs hl := State.linksFollow_iff.mpr fun p => (hviews hs p).follows (State.linksFollow_iff.mp hl p)
  timers hs ht := by
    obtain ⟨hsources, hsel, hshed, hports⟩ := ht
    rw [State.TimersPlaced, hframe .supply (by decide), hframe .sel (by decide), hframe .budget (by decide)]
    exact ⟨hsources, hsel, hshed, fun p => (hviews hs p).timers (hports p)⟩
  budgeted hs hr hb := by
    have hbudget : t.budget = s.budget := hframe .budget (by decide)
    rw [State.budgeted_iff hs.entries] at hb
    obtain ⟨hb, hg, hd⟩ := hb
    refine (State.budgeted_iff (hentries hs)).mpr ⟨by rw [hbudget]; exact hb, ?_, fun p => (hviews hs p).drawn hr (hd p)⟩
    rcases hsum hs with hle | hfree
    · exact hle.trans hg
    · rw [State.free, hbudget] at hfree
      omega
  paused hs hp p hpaused := by
    rw [hframe .sel (by decide)]
    exact ((hviews hs p).paused hpaused).elim (hp p) id
  off hs ho hoff := List.eq_nil_iff_forall_not_mem.mpr fun p hmem => by
    rw [hframe .sel (by decide), hframe .mgmt (by decide)] at hoff
    rcases (hviews hs p).fresh (decide_eq_true hmem) with hold | ⟨hfeeds, hgate⟩
    · have := of_decide_eq_true hold
      rw [ho hoff] at this
      cases this
    · simp [hfeeds, hgate] at hoff

/-- What the power side does to units alone. -/
theorem State.Runs.of_units (hframe : t.SameBut [.ports, .events, .grantSlots, .counters] s)
    (hunits : ∀ p, s.Fed → (s.ports.get p).Moves (t.ports.get p)) : s.Runs t := by
  have hgranted : t.granted = s.granted := hframe .granted (by decide)
  have hadmission : t.admission = s.admission := hframe .admission (by decide)
  have hlinks : t.links = s.links := hframe .links (by decide)
  have hview : ∀ p, t.view p = { s.view p with unit := t.ports.get p } := fun p => by
    simp only [State.view, hgranted, State.entryOf_congr hadmission, State.linkState_congr hlinks]
  refine .of_views (.of_frame hframe (by decide)) (hframe.weaken (by decide)) (fun hs => hgranted ▸ hs.granted)
    (fun hs => hadmission ▸ hs.entries) (fun hs p => ?_) fun hs => .inl ?_
  · rw [hview]
    exact (hunits p hs).view (hs.view p)
  · simp only [State.grantedSum, hgranted, (hunits _ hs).grant, le_rfl]

/-- What the power side does to one unit alone. -/
theorem State.Runs.of_unit (p : Port) (hframe : t.SameBut [.ports, .events, .grantSlots, .counters] s)
    (hothers : ∀ q, q ≠ p → t.ports.get q = s.ports.get q)
    (hunit : s.Fed → (s.ports.get p).Moves (t.ports.get p)) : s.Runs t :=
  .of_units hframe fun q hs => by
    by_cases hq : q = p
    · subst hq; exact hunit hs
    · rw [hothers q hq]; exact .refl _

/-- What no rule about a port speaks of. -/
theorem State.Runs.of_frame {m : List Part} (h : t.SameBut m s)
    (hm : ∀ x ∈ m, x ∈ [Part.events, .grantSlots, .counters]) : s.Runs t := by
  have hframe : t.SameBut [.events, .grantSlots, .counters] s := h.weaken hm
  refine .of_units (hframe.weaken (by decide)) fun p _ => ?_
  rw [hframe .ports (by decide)]
  exact .refl _

/-- R31: ports leave the list and grants fall. -/
theorem State.grantedSum_le (hlist : t.granted.Sublist s.granted)
    (hgrant : ∀ p, (t.ports.get p).grant ≤ (s.ports.get p).grant) : t.grantedSum ≤ s.grantedSum :=
  ((hlist.map _).sum_le_sum fun _ _ => Nat.zero_le _).trans (List.sum_le_sum fun p _ => hgrant p)

/-- One port moves, stays on the granted list or leaves it, and its grant does not rise. -/
theorem State.Runs.of_port (p : Port) (hflows : s.Flows t) (hframe : t.SameBut Part.power s)
    (hothers : ∀ q, q ≠ p → t.view q = s.view q) (hlist : t.granted.Sublist s.granted)
    (hentries : s.Fed → (t.admission.map (·.port)).Nodup)
    (hmove : s.Fed → (s.view p).Moves s.tables s.sel.state s.mgmt.operational (t.view p) ∧
      (t.ports.get p).grant ≤ (s.ports.get p).grant) : s.Runs t := by
  refine .of_views hflows hframe (fun hs => hs.granted.sublist hlist) hentries (fun hs q => ?_) fun hs =>
    .inl (State.grantedSum_le hlist fun q => ?_) <;> by_cases hq : q = p
  · subst hq; exact (hmove hs).1
  · rw [hothers q hq]; exact .refl (hs.view q)
  · subst hq; exact (hmove hs).2
  · exact (congrArg (fun v => v.unit.grant) (hothers q hq)).le

end Work
end Sys2Proof.Machine

namespace Sys2Proof.Machine

open Sys2Proof

/-! ### What becomes of a port's view -/

section ViewMoves

variable {T : Tables} {sel : SelState} {gate : Bool} {v : PortView} {e : Entry}

theorem PortState.holdsGrant_iff (st : PortState) :
    st.holdsGrant = true ↔ st = .ramp ∨ st = .on ∨ st = .limit ∨ st = .paused := by
  cases st <;> decide

theorem PortState.closed_iff (st : PortState) : st.closed = true ↔ st = .ramp ∨ st = .on ∨ st = .limit := by
  cases st <;> decide

theorem PortState.holdsGrant_of_closed {st : PortState} (h : st.closed = true) : st.holdsGrant = true := by
  cases st <;> simp_all [PortState.closed, PortState.holdsGrant]

theorem PortView.Fed.eff_of_granted (h : v.Fed) (hg : v.granted = true) : v.unit.eff.isSome = true :=
  h.eff (by rw [PortState.classed, ← h.listed, hg]; rfl)

/-- R41: a port that holds a grant has no entry but an INCREASE entry, and a paused one none. -/
theorem PortView.Fed.increase_of_granted (h : v.Fed) (hg : v.granted = true) (he : v.entry = some e) :
    e.reason = .increase ∧ v.unit.state.closed = true := by
  have hfit := h.entry e he
  have hlisted := h.listed.symm.trans hg
  split at hfit
  · next hr => exact ⟨hr, hfit⟩
  · rw [hfit] at hlisted
    cases hlisted

/-- R49, R58: a port on the granted list is taken off it, to wait with a new entry. -/
theorem PortView.Moves.toWaiting (hv : v.Fed) (hg : v.granted = true) (hreason : e.reason ≠ .increase)
    (hdraw : T.InRange → v.unit.grant ≤ 1200 → e.draw ≤ 1200) :
    v.Moves T sel gate ⟨v.unit.toWaiting, false, some e, true⟩ where
  fed := ⟨rfl, fun _ => rfl, fun x hx => by cases hx; rw [if_neg hreason]; rfl, fun _ => hv.eff_of_granted hg⟩
  paused h := by cases h
  fresh h := by cases h
  follows _ := rfl
  timers h := by
    obtain ⟨-, -, hretry, -⟩ := h
    have hstate := (PortState.holdsGrant_iff _).mp (hv.listed.symm.trans hg)
    refine ⟨by simp [PortUnit.toWaiting, PortUnit.unpowered], by simp [PortUnit.toWaiting, PortUnit.unpowered], ?_,
      by simp [PortUnit.toWaiting, PortUnit.unpowered]⟩
    rw [show v.unit.toWaiting.retryTimer = v.unit.retryTimer from rfl, hretry]
    rcases hstate with h | h | h | h <;> simp [h, PortUnit.toWaiting]
  drawn hT hd := ⟨Nat.zero_le _, hd.retry, fun x hx => by cases hx; exact hdraw hT hd.grant⟩

/-- R77: a powered port trips. -/
theorem PortView.Moves.tripped (hv : v.Fed) (hclosed : v.unit.state.closed = true) (reason : TripReason)
    (locks : Bool) (delay : Nat) :
    v.Moves T sel gate ⟨{ v.unit.tripped reason locks delay with
      grant := 0, state := if locks then .locked else .tripped }, false, none, true⟩ where
  fed := by
    refine ⟨by cases locks <;> rfl, fun _ => rfl, fun x hx => (by cases hx), fun _ => ?_⟩
    exact hv.eff (by rw [PortState.classed, PortState.holdsGrant_of_closed hclosed]; rfl)
  paused h := by cases locks <;> cases h
  fresh h := by cases h
  follows _ := by cases locks <;> rfl
  timers _ := by cases locks <;> simp [PortUnit.TimersPlaced, PortUnit.tripped, PortUnit.unpowered]
  drawn _ hd := by
    refine ⟨Nat.zero_le _, fun n hn => ?_, fun x hx => (by cases hx)⟩
    cases (Option.some.inj hn : v.unit.grant = n)
    exact hd.grant

/-- R66, R82: a port is dropped, to be vacant or disabled. -/
theorem PortView.Moves.dropped {st : PortState} (hst : st = .vacant ∨ st = .disabled) (stable : Level) :
    v.Moves T sel gate ⟨{ v.unit.dropped with state := st, stable := stable }, false, none, true⟩ where
  fed := by
    refine ⟨by rcases hst with rfl | rfl <;> rfl, fun _ => rfl, fun x hx => (by cases hx), fun h => ?_⟩
    rcases hst with rfl | rfl <;> cases h
  paused h := by rcases hst with rfl | rfl <;> cases h
  fresh h := by cases h
  follows _ := by rcases hst with rfl | rfl <;> rfl
  timers _ := by
    rcases hst with rfl | rfl <;> simp [PortUnit.TimersPlaced, PortUnit.dropped, PortUnit.unpowered]
  drawn _ hd := ⟨Nat.zero_le _, fun n hn => (by cases hn), fun x hx => (by cases hx)⟩

/-- R80: a powered port pauses for a changeover. -/
theorem PortView.Moves.paused_of_changeover (hv : v.Fed) (hclosed : v.unit.state.closed = true)
    (hsel : sel.target ≠ none) :
    v.Moves T sel gate ⟨{ v.unit.unpowered with state := .paused }, v.granted, none, true⟩ where
  fed := by
    have hg := hv.listed.trans (PortState.holdsGrant_of_closed hclosed)
    exact ⟨hg.trans rfl, fun h => (by rw [hg] at h; cases h), fun x hx => (by cases hx), fun _ => hv.eff_of_granted hg⟩
  paused _ := .inr hsel
  fresh := .inl
  follows _ := rfl
  timers h := by
    obtain ⟨-, -, hretry, -⟩ := h
    refine ⟨by simp [PortUnit.unpowered], by simp [PortUnit.unpowered], ?_, by simp [PortUnit.unpowered]⟩
    rw [show v.unit.unpowered.retryTimer = v.unit.retryTimer from rfl, hretry]
    rcases (PortState.closed_iff _).mp hclosed with h | h | h <;> simp [h]
  drawn _ hd := ⟨hd.grant, hd.retry, fun x hx => (by cases hx)⟩

/-- R70: the unit of a port that enters RAMP with a step time. -/
def PortUnit.ramped (u : PortUnit) (time : Nat) : PortUnit :=
  { u with state := .ramp, rampPos := 0, heldCount := 0, periodHeld := false, stepTimer := some time }

theorem PortUnit.ramped_timers {u : PortUnit} (time : Nat) (h : u.TimersPlaced)
    (hst : u.state = .waiting ∨ u.state = .paused) : (u.ramped time).TimersPlaced := by
  obtain ⟨-, hover, hretry, hclean⟩ := h
  rcases hst with hst | hst <;> simp_all [PortUnit.TimersPlaced, PortUnit.ramped]

/-- R15: a paused port ramps again under the grant it kept. -/
theorem PortView.Moves.reramped (hv : v.Fed) (hpaused : v.unit.state = .paused) (time : Nat) :
    v.Moves T sel gate ⟨v.unit.ramped time, v.granted, v.entry, false⟩ where
  fed := by
    have hg : v.granted = true := hv.listed.trans (by rw [hpaused]; rfl)
    refine ⟨hg.trans rfl, fun h => (by rw [hg] at h; cases h), fun x hx => ?_, fun _ => hv.eff_of_granted hg⟩
    rw [(hv.increase_of_granted hg hx).1, if_pos rfl]
    rfl
  paused h := by cases h
  fresh := .inl
  follows _ := rfl
  timers h := PortUnit.ramped_timers time h (.inr hpaused)
  drawn _ hd := ⟨hd.grant, hd.retry, hd.entry⟩

/-- R47: the head of the list is granted from WAITING. -/
theorem PortView.Moves.granted_from_waiting (hv : v.Fed) (he : v.entry = some e) (hreason : e.reason ≠ .increase)
    (hfeeds : sel.feeds = true) (hgate : gate = true) (time : Nat) :
    v.Moves T sel gate ⟨{ v.unit.ramped time with grant := e.draw }, true, none, false⟩ := by
  have hwaiting : v.unit.state = .waiting := by
    have := hv.entry e he
    rwa [if_neg hreason] at this
  exact
    { fed := ⟨rfl, fun h => (by cases h), fun x hx => (by cases hx), fun _ => hv.eff (by rw [hwaiting]; rfl)⟩
      paused := fun h => by cases h
      fresh := fun _ => .inr ⟨hfeeds, hgate⟩
      follows := fun _ => rfl
      timers := fun h => PortUnit.ramped_timers (u := v.unit) time h (.inl hwaiting)
      drawn := fun _ hd => ⟨hd.entry e he, hd.retry, fun x hx => (by cases hx)⟩ }

/-- R47, R54: a powered port takes another grant, and its entry is gone. -/
theorem PortView.Moves.regranted (hv : v.Fed) (hclosed : v.unit.state.closed = true) {n : Nat}
    (hn : v.Drawn → n ≤ 1200) :
    v.Moves T sel gate ⟨{ v.unit with grant := n }, true, none, v.down⟩ where
  fed :=
    have hg := PortState.holdsGrant_of_closed hclosed
    ⟨hg.symm, fun h => (by cases h), fun x hx => (by cases hx), hv.eff⟩
  paused := .inl
  fresh _ := .inl (hv.listed.trans (PortState.holdsGrant_of_closed hclosed))
  follows := id
  timers := id
  drawn _ hd := ⟨hn hd, hd.retry, fun x hx => (by cases hx)⟩

/-- R41: an entry comes, changes or goes that fits the port's state. -/
theorem PortView.Moves.with_entry {x : Option Entry} (hv : v.Fed)
    (hx : ∀ e, x = some e → if e.reason = .increase then v.unit.state.closed = true else v.unit.state = .waiting)
    (hdraw : T.InRange → v.Drawn → ∀ e, x = some e → e.draw ≤ 1200) :
    v.Moves T sel gate { v with entry := x } :=
  ⟨⟨hv.listed, hv.grant, hx, hv.eff⟩, .inl, .inl, id, id, fun hT hd => ⟨hd.grant, hd.retry, hdraw hT hd⟩⟩

/-- R50: a WAITING port is denied. -/
theorem PortView.Moves.denied (hv : v.Fed) (hwaiting : v.unit.state = .waiting) :
    v.Moves T sel gate ⟨{ v.unit with state := .denied }, v.granted, none, v.down⟩ where
  fed := ⟨hv.listed.trans (by rw [hwaiting]; rfl), hv.grant, fun x hx => (by cases hx), fun h => (by cases h)⟩
  paused h := by cases h
  fresh := .inl
  follows h := by rw [hwaiting] at h; exact h
  timers h := by
    obtain ⟨hstep, hover, hretry, hclean⟩ := h
    simp_all [PortUnit.TimersPlaced]
  drawn _ hd := ⟨hd.grant, hd.retry, fun x hx => (by cases hx)⟩

/-- R69, R78: a port that holds no grant comes to wait, with a class and an entry. -/
theorem PortView.Moves.enlisted {u : PortUnit} (hv : v.Fed) (hidle : v.unit.state.holdsGrant = false)
    (hstate : u.state = .waiting) (heff : u.eff.isSome = true) (hgrant : u.grant = v.unit.grant)
    (hretry : u.retryDraw = v.unit.retryDraw ∨ u.retryDraw = none) (htimers : v.unit.TimersPlaced → u.TimersPlaced)
    (hreason : e.reason ≠ .increase) (hdraw : T.InRange → v.Drawn → e.draw ≤ 1200) :
    v.Moves T sel gate ⟨u, v.granted, some e, v.down⟩ where
  fed :=
    { listed := hv.listed.trans (by rw [hidle, hstate]; rfl)
      grant := fun h => hgrant.trans (hv.grant h)
      entry := fun x hx => by cases hx; rw [if_neg hreason]; exact hstate
      eff := fun _ => heff }
  paused h := by rw [hstate] at h; cases h
  fresh := .inl
  follows h := by
    have hopen : v.unit.state.closed = false := by
      cases hc : v.unit.state.closed
      · rfl
      · rw [PortState.holdsGrant_of_closed hc] at hidle; cases hidle
    rw [hopen] at h
    rw [hstate]
    exact h
  timers := htimers
  drawn hT hd := by
    refine ⟨hgrant.le.trans hd.grant, fun n hn => ?_, fun x hx => by cases hx; exact hdraw hT hd⟩
    rcases hretry with h | h
    · exact hd.retry n (h ▸ hn)
    · simp [h] at hn

end ViewMoves

/-! ### Draws in range -/

section Draws

variable {s : State} {p : Port}

theorem State.classOf_inRange (hT : s.tables.InRange) {c : ClassRecord} (hc : s.classOf p = some c) : c.InRange := by
  obtain ⟨-, -, -, hcls, -⟩ := hT
  simp only [State.classOf, Option.map_eq_some_iff] at hc
  obtain ⟨e, -, rfl⟩ := hc
  exact hcls e.cls

/-- R41, R52: a draw brought into the range of a class is at most 1200 dW. -/
theorem State.clampDraw_le_of_class (hT : s.tables.InRange) {c : ClassRecord} (hc : s.classOf p = some c) (n : Nat) :
    s.clampDraw p n ≤ 1200 := by
  obtain ⟨hmax, -⟩ := State.classOf_inRange hT hc
  rw [State.clampDraw_of_class hc]
  omega

theorem State.clampDraw_le (hT : s.tables.InRange) {n : Nat} (hn : n ≤ 1200) : s.clampDraw p n ≤ 1200 := by
  cases hc : s.classOf p with
  | none => rw [State.clampDraw, hc]; exact hn
  | some c => exact State.clampDraw_le_of_class hT hc n

end Draws
end Sys2Proof.Machine

namespace Sys2Proof.Machine

open Sys2Proof

/-! ### Entering RAMP and granting the head (R47, R70) -/

section Granting

variable {s : State} {p : Port} {e : Entry}

theorem State.classOf_congr {s t : State} (htables : t.tables = s.tables) {p : Port}
    (heff : (t.ports.get p).eff = (s.ports.get p).eff) : t.classOf p = s.classOf p := by
  rw [State.classOf, heff, htables, ← State.classOf]

theorem State.enterRamp_ports (p : Port) (s : State) (q : Port) :
    (s.enterRamp p).ports.get q = if q = p then (s.ports.get q).ramped (s.stepTime p) else s.ports.get q := by
  have hclass : (s.setPortState p .ramp).classOf p = s.classOf p :=
    State.classOf_congr (s.setPortState_frame p .ramp .tables (by decide)) (by rw [State.setPortState_port, if_pos rfl])
  simp only [State.enterRamp, State.portLinkWait, State.modLink_ports, State.modPort_ports, PerPort.get_set,
    State.setPortState_port, hclass]
  split
  · next hq => subst hq; rfl
  · rfl

theorem State.enterRamp_links (p : Port) (s : State) :
    (s.enterRamp p).links =
      s.links.set (.port p) { s.links.get (.port p) with state := .wait, receivedHold := false } := by
  have hlinks : (s.setPortState p .ramp).links = s.links := s.setPortState_frame p .ramp .links (by decide)
  simp only [State.enterRamp, State.portLinkWait, State.modLink_links, State.modPort_links, hlinks]

theorem State.enterRamp_linkState (p : Port) (s : State) (d : Dest) :
    (s.enterRamp p).linkState d = if d = .port p then .wait else s.linkState d := by
  rw [State.linkState, State.enterRamp_links, PerDest.get_set]
  split <;> rfl

/-- R47: the part of a grant that touches the lists. -/
def State.grantLists (e : Entry) (s : State) : State :=
  ((s.modPort e.port fun u => { u with grant := e.draw }).removeEntry e.port).toTail e.port

/-- R47: the port as its grant is posted. -/
def State.grantPower (e : Entry) (s : State) : State :=
  if e.reason = .increase then s.grantLists e else (s.grantLists e).enterRamp e.port

theorem State.grantHead_eq (e : Entry) (s : State) :
    s.grantHead e = ((s.grantPower e).postGrant e.port ((s.grantPower e).grantStatus e.port)).countPort e.port
      PortCounters.addGrant := by
  unfold State.grantHead State.grantPower State.grantLists
  cases e.reason <;> rfl

theorem State.grantHead_after_power (e : Entry) (s : State) :
    (s.grantHead e).SameBut [.grantSlots, .counters] (s.grantPower e) := by
  rw [State.grantHead_eq]
  exact (State.countPort_frame _ _ _).comp ((State.postGrant_frame _ _ _).weaken (by decide)) (by decide)

theorem State.grantPower_after_lists (e : Entry) (s : State) :
    (s.grantPower e).SameBut [.ports, .events, .links] (s.grantLists e) := by
  unfold State.grantPower
  split
  · exact .refl _ _
  · exact State.enterRamp_frame _ _

theorem State.grantHead_granted (e : Entry) (s : State) :
    (s.grantHead e).granted = s.granted.filter (fun q => decide (q ≠ e.port)) ++ [e.port] :=
  (s.grantHead_after_power e .granted (by decide)).trans (s.grantPower_after_lists e .granted (by decide))

theorem State.grantHead_admission (e : Entry) (s : State) :
    (s.grantHead e).admission = s.admission.filter fun x => decide (x.port ≠ e.port) :=
  (s.grantHead_after_power e .admission (by decide)).trans (s.grantPower_after_lists e .admission (by decide))

theorem State.grantLists_ports (e : Entry) (s : State) (q : Port) :
    (s.grantLists e).ports.get q = if q = e.port then { s.ports.get q with grant := e.draw } else s.ports.get q := by
  simp only [State.grantLists, State.toTail, State.removeEntry, State.modPort_ports, PerPort.get_set]
  split
  · next h => rw [h]
  · rfl

/-- R47, R70: the unit of the port that is granted. -/
def State.grantedUnit (s : State) (e : Entry) : PortUnit :=
  if e.reason = .increase then { s.ports.get e.port with grant := e.draw }
  else { (s.ports.get e.port).ramped (s.stepTime e.port) with grant := e.draw }

theorem State.grantHead_ports (e : Entry) (s : State) (q : Port) :
    (s.grantHead e).ports.get q = if q = e.port then s.grantedUnit e else s.ports.get q := by
  have hports : (s.grantHead e).ports = (s.grantPower e).ports := s.grantHead_after_power e .ports (by decide)
  have htime : (s.grantLists e).stepTime e.port = s.stepTime e.port := by
    have heff : ((s.grantLists e).ports.get e.port).eff = (s.ports.get e.port).eff := by
      rw [State.grantLists_ports, if_pos rfl]
    have hclass : (s.grantLists e).classOf e.port = s.classOf e.port := 
      State.classOf_congr (s := s) (t := s.grantLists e) rfl heff
    rw [State.stepTime, State.stepTime, hclass]
  rw [hports, State.grantPower, State.grantedUnit]
  split
  · rw [State.grantLists_ports]
    split
    · next hq => rw [hq]
    · rfl
  · rw [State.enterRamp_ports, State.grantLists_ports, htime]
    split
    · next hq => rw [hq]; rfl
    · rfl

theorem State.grantHead_links (e : Entry) (s : State) :
    (s.grantHead e).links = if e.reason = .increase then s.links
      else s.links.set (.port e.port)
        { s.links.get (.port e.port) with state := .wait, receivedHold := false } := by
  have hlinks : (s.grantHead e).links = (s.grantPower e).links := s.grantHead_after_power e .links (by decide)
  rw [hlinks, State.grantPower]
  split
  · rfl
  · exact State.enterRamp_links _ _

theorem State.grantHead_linkState (e : Entry) (s : State) (d : Dest) :
    (s.grantHead e).linkState d = if e.reason ≠ .increase ∧ d = .port e.port then .wait else s.linkState d := by
  rw [State.linkState, State.grantHead_links]
  by_cases hr : e.reason = .increase
  · simp [hr, State.linkState]
  · by_cases hd : d = .port e.port
    · simp [hr, hd]
    · simp [hr, hd, PerDest.get_set_of_ne _ _ _ _ hd, State.linkState]

theorem State.grantHead_entryOf (e : Entry) (s : State) (q : Port) :
    (s.grantHead e).entryOf q = if q = e.port then none else s.entryOf q := by
  rw [State.entryOf, State.grantHead_admission]
  split
  · next hq => subst hq; simp
  · next hq => exact find?_filter_port fun x hx => by simp [hx, hq]

/-- The port of an entry that stands, as a view. -/
theorem State.Fed.view_entry (h : s.Fed) (he : e ∈ s.admission) : (s.view e.port).entry = some e :=
  State.entryOf_of_mem h.entries he

/-- R31, R47: F falls by the need of the head. -/
theorem State.grantHead_free (h : s.Fed) (he : e ∈ s.admission) : (s.grantHead e).free = s.free - s.need e := by
  have hbudget : (s.grantHead e).budget = s.budget := s.grantHead_frame e .budget (by decide)
  have hunit : ((s.grantHead e).ports.get e.port).grant = e.draw := by
    rw [State.grantHead_ports, if_pos rfl, State.grantedUnit]
    split <;> rfl
  have hothers : ((s.granted.filter fun q => decide (q ≠ e.port)).map fun q => ((s.grantHead e).ports.get q).grant) =
      (s.granted.filter fun q => decide (q ≠ e.port)).map fun q => (s.ports.get q).grant :=
    List.map_congr_left fun q hq => by
      rw [State.grantHead_ports, if_neg (by simpa using List.of_mem_filter hq)]
  have hsum : (s.grantHead e).grantedSum =
      ((s.granted.filter fun q => decide (q ≠ e.port)).map fun q => (s.ports.get q).grant).sum + e.draw := by
    rw [State.grantedSum, State.grantHead_granted, List.map_append, List.sum_append, hothers]
    simp [hunit]
  have hfit := h.fits he
  rw [State.free, State.free, hbudget, hsum, State.need]
  by_cases hr : e.reason = .increase
  · rw [State.EntryFits, if_pos hr] at hfit
    have hmem : e.port ∈ s.granted := (h.listed e.port).mpr (PortState.holdsGrant_of_closed hfit)
    have := sum_filter_ne_add h.granted hmem fun q => (s.ports.get q).grant
    simp only [hr, State.grantedSum]
    omega
  · rw [State.EntryFits, if_neg hr] at hfit
    have hnot : e.port ∉ s.granted := by
      rw [h.listed, hfit]
      decide
    have hall : s.granted.filter (fun q => decide (q ≠ e.port)) = s.granted :=
      List.filter_eq_self.mpr fun q hq => decide_eq_true fun heq => hnot (heq ▸ hq)
    rw [hall]
    cases hreason : e.reason <;> simp_all [State.grantedSum] <;> omega

end Granting
end Sys2Proof.Machine

namespace Sys2Proof.Machine

open Sys2Proof

/-! ### The atoms of the power side at one port -/

section Atoms

variable {s t : State} {p q : Port} {e : Entry}

theorem State.linkState_of_frame {m : List Part} (h : t.SameBut m s) (hm : Part.links ∉ m) (d : Dest) :
    t.linkState d = s.linkState d :=
  State.linkState_congr (h .links hm) d

theorem State.entryOf_of_frame {m : List Part} (h : t.SameBut m s) (hm : Part.admission ∉ m) (p : Port) :
    t.entryOf p = s.entryOf p :=
  State.entryOf_congr (h .admission hm) p

/-- A list of entries that is filtered names no port twice. -/
theorem nodup_ports_filter {l : List Entry} (h : (l.map (·.port)).Nodup) (f : Entry → Bool) :
    ((l.filter f).map (·.port)).Nodup :=
  h.sublist (List.filter_sublist.map _)

/-- An entry joins at the tail of a list that names its port nowhere. -/
theorem nodup_ports_append {l : List Entry} (h : (l.map (·.port)).Nodup) (hnew : ∀ x ∈ l, x.port ≠ e.port) :
    ((l ++ [e]).map (·.port)).Nodup := by
  rw [List.map_append, List.nodup_append]
  refine ⟨h, List.nodup_singleton _, fun a ha b hb => ?_⟩
  obtain ⟨x, hx, rfl⟩ := List.mem_map.mp ha
  cases List.mem_singleton.mp hb
  exact hnew x hx

/-- R41: a put entry names no port twice. -/
theorem State.putEntry_nodup (h : (s.admission.map (·.port)).Nodup) (e : Entry) :
    ((s.putEntry e).admission.map (·.port)).Nodup := by
  rw [State.putEntry_places]
  split
  · exact h
  · next hnone =>
    have hnew := State.entryOf_eq_none_iff.mp (Option.not_isSome_iff_eq_none.mp hnone)
    simpa using nodup_ports_append (e := e) h hnew

/-! #### The head is granted (R47) -/

theorem State.Flows.portLinkWait (p : Port) (s : State) : s.Flows (s.portLinkWait p) where
  frame := (s.portLinkWait_frame p).weaken (by decide)
  uLine := by
    rw [State.linkState, State.portLinkWait, State.modLink_links, PerDest.get_set_of_ne _ _ _ _ (by simp),
      ← State.linkState]
  bounded h := h.congr rfl rfl (fun _ => .inr rfl) rfl
  refs h := State.RefsCounted.congr h rfl fun d => by
    rw [State.refsAt, State.refsAt, State.portLinkWait, State.modLink_links, State.modLink_queues, PerDest.get_set]
    split
    · next hd => rw [hd]
    · rfl
  pool h := h.congr rfl rfl rfl

theorem State.Flows.enterRamp (p : Port) (s : State) : s.Flows (s.enterRamp p) :=
  .trans (.of_frame (s.setPortState_frame p .ramp) (by decide))
    (.trans (.of_frame (State.modPort_frame p _ _) (by decide)) (.portLinkWait p _))

theorem State.Flows.grantHead (e : Entry) (s : State) : s.Flows (s.grantHead e) := by
  have hlists : s.Flows (s.grantLists e) :=
    .of_frame (m := [.granted, .admission, .ports]) ((State.toTail_frame _ _).comp
      ((State.removeEntry_frame _ _).comp ((State.modPort_frame _ _ s).weaken (by decide)) (by decide)) (by decide))
      (by decide)
  have hpower : s.Flows (s.grantPower e) := by
    unfold State.grantPower
    split
    · exact hlists
    · exact hlists.trans (.enterRamp _ _)
  exact hpower.trans (.of_frame (s.grantHead_after_power e) (by decide))

theorem State.grantHead_view_of_ne (hq : q ≠ e.port) (s : State) : (s.grantHead e).view q = s.view q := by
  refine State.view_congr (by rw [State.grantHead_ports, if_neg hq]) ?_ (by rw [State.grantHead_entryOf, if_neg hq]) ?_
  · rw [State.grantHead_granted]
    simp [hq]
  · rw [State.grantHead_linkState, if_neg]
    exact fun h => hq (Dest.port.inj h.2)

theorem State.grantHead_view (e : Entry) (s : State) :
    (s.grantHead e).view e.port =
      ⟨s.grantedUnit e, true, none, if e.reason = .increase then (s.view e.port).down else false⟩ := by
  simp only [State.view, State.grantHead_ports, State.grantHead_granted, State.grantHead_entryOf,
    State.grantHead_linkState]
  by_cases hr : e.reason = .increase <;> simp [hr]

theorem State.Runs.grantHead (h : s.Fed → s.inForce = true ∧ e ∈ s.admission ∧ s.need e ≤ s.free) :
    s.Runs (s.grantHead e) := by
  refine .of_views (.grantHead e s) ((s.grantHead_frame e).weaken (by decide)) (fun hs => ?_) (fun hs => ?_)
    (fun hs q => ?_) fun hs => .inr ?_
  · rw [State.grantHead_granted]
    refine List.nodup_append.mpr ⟨hs.granted.filter _, List.nodup_singleton _, fun a ha b hb => ?_⟩
    rw [List.mem_singleton.mp hb]
    simpa using List.of_mem_filter ha
  · rw [State.grantHead_admission]
    exact nodup_ports_filter hs.entries _
  · obtain ⟨hforce, he, -⟩ := h hs
    obtain ⟨hgate, hsel⟩ : s.mgmt.operational = true ∧ s.sel.state.isActive = true := by
      simpa [State.inForce] using hforce
    have hfeeds : s.sel.state.feeds = true := by
      cases hst : s.sel.state <;> rw [hst] at hsel <;> first | rfl | cases hsel
    by_cases hq : q = e.port
    · subst hq
      have hview := hs.view e.port
      have hentry := hs.view_entry he
      rw [State.grantHead_view]
      by_cases hr : e.reason = .increase
      · have hclosed := hview.entry e hentry
        rw [if_pos hr] at hclosed
        rw [State.grantedUnit, if_pos hr, if_pos hr]
        exact .regranted hview hclosed fun hd => hd.entry e hentry
      · rw [State.grantedUnit, if_neg hr, if_neg hr]
        exact .granted_from_waiting hview hentry hr hfeeds hgate _
    · rw [State.grantHead_view_of_ne hq]
      exact .refl (hs.view q)
  · obtain ⟨-, he, hneed⟩ := h hs
    rw [State.grantHead_free hs he]
    omega

/-! #### A port is shed, or loses its supply (R49, R58) -/

theorem State.Flows.unpower (p : Port) (s : State) : s.Flows (s.unpower p) :=
  .of_frame (s.unpower_frame p) (by decide)

theorem State.Flows.shed (p : Port) (s : State) : s.Flows (s.shed p) :=
  (State.Flows.unpower p s).trans ((State.Flows.portLinkDown p _).trans
    (.of_frame (s.shed_after_linkDown p) (by decide)))

theorem State.shed_linkState_of_ne (hq : q ≠ p) (s : State) :
    (s.shed p).linkState (.port q) = s.linkState (.port q) := by
  rw [State.linkState_congr (s.shed_links p),
    State.portLinkDown_linkState_of_ne (fun h => hq (Dest.port.inj h)), State.unpower_linkState]

theorem State.shed_view_of_ne (hq : q ≠ p) (s : State) : (s.shed p).view q = s.view q :=
  State.view_congr (by rw [State.shed_port, if_neg hq]) (by rw [State.shed_granted]; simp [hq])
    (by rw [State.shed_entryOf, if_neg hq]) (State.shed_linkState_of_ne hq s)

theorem State.shed_view (p : Port) (s : State) :
    (s.shed p).view p = ⟨(s.ports.get p).toWaiting, false, some (s.shedEntry p), true⟩ := by
  simp only [State.view, State.shed_port, State.shed_granted, State.shed_entryOf, State.shed_linkState]
  simp

theorem State.Runs.shed (hp : s.Fed → p ∈ s.granted) : s.Runs (s.shed p) := by
  refine .of_port p (.shed p s) ((s.shed_frame p).weaken (by decide)) (fun q hq => State.shed_view_of_ne hq s)
    (by rw [State.shed_granted]; exact List.filter_sublist) (fun hs => ?_) fun hs => ⟨?_, ?_⟩
  · rw [State.shed_admission]
    exact State.putEntry_nodup hs.entries _
  · rw [State.shed_view]
    exact .toWaiting (hs.view p) (decide_eq_true (hp hs)) (by simp [State.shedEntry])
      fun hT hd => State.clampDraw_le hT hd
  · rw [State.shed_port, if_pos rfl]
    exact Nat.zero_le _

theorem State.Flows.losePort (p : Port) (s : State) : s.Flows (s.losePort p) :=
  .trans (.of_frame (State.removeIncrease_frame p s) (by decide))
    ((State.Flows.unpower p _).trans ((State.Flows.portLinkDown p _).trans
      (.of_frame (s.losePort_after_linkDown p) (by decide))))

theorem State.losePort_linkState_of_ne (hq : q ≠ p) (s : State) :
    (s.losePort p).linkState (.port q) = s.linkState (.port q) := by
  rw [State.linkState_of_frame (s.losePort_after_linkDown p) (by decide),
    State.portLinkDown_linkState_of_ne (fun h => hq (Dest.port.inj h)), State.unpower_linkState]
  rfl

/-- R41: while only a port's INCREASE entry may go, the others keep theirs. -/
theorem State.entryOf_of_filter (hadmission : t.admission =
      s.admission.filter fun e => !(decide (e.port = p) && decide (e.reason = .increase)))
    (hq : q ≠ p) : t.entryOf q = s.entryOf q := by
  rw [State.entryOf, hadmission]
  exact find?_filter_port fun x hx => by simp [hx, hq]

theorem State.losePort_entryOf_of_ne (hq : q ≠ p) (s : State) : (s.losePort p).entryOf q = s.entryOf q := by
  rw [State.entryOf, State.losePort_admission, List.find?_append,
    find?_filter_port (q := q) fun x hx => by simp [hx, hq], ← State.entryOf]
  cases s.entryOf q <;> simp [State.supplyEntry, Ne.symm hq]

/-- R41: a port on the granted list that loses its INCREASE entry has none left. -/
theorem State.Fed.no_entry_left (hs : s.Fed) (hp : p ∈ s.granted) :
    ∀ x ∈ s.admission.filter fun e => !(decide (e.port = p) && decide (e.reason = .increase)), x.port ≠ p := by
  rintro x hx rfl
  obtain ⟨hmem, hkept⟩ := List.mem_filter.mp hx
  have hincrease := (hs.view x.port).increase_of_granted (decide_eq_true hp) (hs.view_entry hmem)
  simp [hincrease.1] at hkept

theorem State.losePort_view (hs : s.Fed) (hp : p ∈ s.granted) :
    (s.losePort p).view p = ⟨(s.ports.get p).toWaiting, false, some (s.supplyEntry p), true⟩ := by
  have hentry : (s.losePort p).entryOf p = some (s.supplyEntry p) := by
    rw [State.entryOf, State.losePort_admission, List.find?_append, List.find?_eq_none.mpr fun x hx => by
      simpa using hs.no_entry_left hp x hx]
    simp [State.supplyEntry]
  simp only [State.view, State.losePort_port, State.losePort_granted, State.losePort_linkState, hentry]
  simp

theorem State.Runs.losePort (hp : s.Fed → p ∈ s.granted) : s.Runs (s.losePort p) := by
  refine .of_port p (.losePort p s) ((s.losePort_frame p).weaken (by decide))
    (fun q hq => State.view_congr (by rw [State.losePort_port, if_neg hq])
      (by rw [State.losePort_granted]; simp [hq]) (State.losePort_entryOf_of_ne hq s)
      (State.losePort_linkState_of_ne hq s))
    (by rw [State.losePort_granted]; exact List.filter_sublist) (fun hs => ?_) fun hs => ⟨?_, ?_⟩
  · rw [State.losePort_admission]
    exact nodup_ports_append (nodup_ports_filter hs.entries _) (hs.no_entry_left (hp hs))
  · rw [State.losePort_view hs (hp hs)]
    exact .toWaiting (hs.view p) (decide_eq_true (hp hs)) (by simp [State.supplyEntry])
      fun hT hd => State.clampDraw_le hT hd
  · rw [State.losePort_port, if_pos rfl]
    exact Nat.zero_le _

/-! #### A port trips, is dropped, pauses or ramps again (R15, R57, R77, R80) -/

theorem State.Flows.tripAlone (p : Port) (reason : TripReason) (s : State) : s.Flows (s.tripAlone p reason) :=
  .trans (.of_frame (s.tripRelease_frame p reason) (by decide)) ((State.Flows.portLinkDown p _).trans
    (.of_frame (s.tripAlone_after_linkDown p reason) (by decide)))

theorem State.tripAlone_ports_of_ne (hq : q ≠ p) (reason : TripReason) (s : State) :
    (s.tripAlone p reason).ports.get q = s.ports.get q := by
  have hdown : ((s.tripRelease p reason).portLinkDown p).ports = (s.tripRelease p reason).ports :=
    State.portLinkDown_frame p _ .ports (by decide)
  rw [State.tripAlone, State.tripEnd_ports, State.setPortState_port, if_neg hq, hdown]
  simp [State.tripRelease, State.leaveGranted, State.removeIncrease, PerPort.get_set_of_ne _ _ _ _ hq]

theorem State.tripAlone_linkState (p : Port) (reason : TripReason) (s : State) :
    (s.tripAlone p reason).linkState (.port p) = .down := by
  rw [State.linkState_of_frame (s.tripAlone_after_linkDown p reason) (by decide)]
  exact State.portLinkDown_linkState p _

theorem State.tripAlone_linkState_of_ne (hq : q ≠ p) (reason : TripReason) (s : State) :
    (s.tripAlone p reason).linkState (.port q) = s.linkState (.port q) := by
  rw [State.linkState_of_frame (s.tripAlone_after_linkDown p reason) (by decide),
    State.portLinkDown_linkState_of_ne (fun h => hq (Dest.port.inj h)), State.tripRelease_linkState]

theorem State.tripAlone_frame (p : Port) (reason : TripReason) (s : State) :
    (s.tripAlone p reason).SameBut Part.power s :=
  ((s.tripAlone_after_linkDown p reason).weaken (by decide)).comp
    (((State.portLinkDown_frame p _).weaken (n := Part.power) (by decide)).comp
      ((s.tripRelease_frame p reason).weaken (by decide)) fun _ hx => hx) fun _ hx => hx

theorem State.Runs.tripAlone (reason : TripReason) (hp : s.Fed → (s.ports.get p).state.closed = true) :
    s.Runs (s.tripAlone p reason) := by
  refine .of_port p (.tripAlone p reason s) (s.tripAlone_frame p reason)
    (fun q hq => State.view_congr (State.tripAlone_ports_of_ne hq reason s)
      (by rw [State.tripAlone_granted]; simp [hq]) (State.entryOf_of_filter (s.tripAlone_admission p reason) hq)
      (State.tripAlone_linkState_of_ne hq reason s))
    (by rw [State.tripAlone_granted]; exact List.filter_sublist) (fun hs => ?_) fun hs => ⟨?_, ?_⟩
  · rw [State.tripAlone_admission]
    exact nodup_ports_filter hs.entries _
  · have hclosed := hp hs
    have hgranted := (hs.listed p).mpr (PortState.holdsGrant_of_closed hclosed)
    have hnone : (s.tripAlone p reason).entryOf p = none :=
      State.entryOf_eq_none_iff.mpr fun x hx => hs.no_entry_left hgranted x (s.tripAlone_admission p reason ▸ hx)
    have hview : (s.tripAlone p reason).view p = ⟨(s.tripAlone p reason).ports.get p, false, none, true⟩ := by
      simp only [State.view, State.tripAlone_granted, hnone, State.tripAlone_linkState]
      simp
    rw [hview, State.tripAlone_unit]
    exact .tripped (hs.view p) hclosed reason _ _
  · rw [State.tripAlone_unit]
    exact Nat.zero_le _

theorem State.Flows.dropPort (p : Port) (s : State) : s.Flows (s.dropPort p) :=
  .trans (.of_frame (m := [.granted, .admission, .ports]) ((State.modPort_frame p _ _).comp
    ((State.removeEntry_frame p _).comp ((s.leaveGranted_frame p).weaken (by decide)) (by decide)) (by decide))
    (by decide)) (.portLinkDown p _)

theorem State.dropPort_entryOf (p : Port) (s : State) (q : Port) :
    (s.dropPort p).entryOf q = if q = p then none else s.entryOf q := by
  rw [State.entryOf, State.dropPort_admission]
  split
  · next hq => subst hq; simp
  · next hq => exact find?_filter_port fun x hx => by simp [hx, hq]

theorem State.dropPort_linkState (p : Port) (s : State) : (s.dropPort p).linkState (.port p) = .down :=
  State.portLinkDown_linkState p _

theorem State.dropPort_linkState_of_ne (hq : q ≠ p) (s : State) :
    (s.dropPort p).linkState (.port q) = s.linkState (.port q) := by
  rw [State.dropPort, State.portLinkDown_linkState_of_ne (fun h => hq (Dest.port.inj h))]
  rfl

/-- R66, R82: a port is dropped and takes one of the two states that hold nothing. -/
theorem State.Runs.of_dropped {st : PortState} (hst : st = .vacant ∨ st = .disabled) (stable : Level)
    (hafter : t.SameBut [.ports, .events] (s.dropPort p))
    (hports : ∀ q, t.ports.get q =
      if q = p then { (s.ports.get q).dropped with state := st, stable := stable } else s.ports.get q) : s.Runs t := by
  have hgranted : t.granted = s.granted.filter fun q => decide (q ≠ p) :=
    Eq.trans (hafter .granted (by decide)) (s.dropPort_granted p)
  have hadmission : t.admission = s.admission.filter fun e => decide (e.port ≠ p) :=
    Eq.trans (hafter .admission (by decide)) (s.dropPort_admission p)
  have hentry : ∀ q, t.entryOf q = if q = p then none else s.entryOf q :=
    fun q => (State.entryOf_of_frame hafter (by decide) q).trans (s.dropPort_entryOf p q)
  refine .of_port p ((State.Flows.dropPort p s).trans (.of_frame hafter (by decide)))
    ((hafter.weaken (by decide)).comp ((s.dropPort_frame p).weaken (n := Part.power) (by decide)) fun _ hx => hx)
    (fun q hq => State.view_congr (by rw [hports, if_neg hq]) (by rw [hgranted]; simp [hq])
      (by rw [hentry, if_neg hq]) ?_)
    (by rw [hgranted]; exact List.filter_sublist) (fun hs => ?_) fun hs => ⟨?_, ?_⟩
  · rw [State.linkState_of_frame hafter (by decide), State.dropPort_linkState_of_ne hq]
  · rw [hadmission]
    exact nodup_ports_filter hs.entries _
  · have hview : t.view p = ⟨{ (s.ports.get p).dropped with state := st, stable := stable }, false, none, true⟩ := by
      simp only [State.view, hports, hgranted, hentry, State.linkState_of_frame hafter (by decide),
        State.dropPort_linkState]
      simp
    rw [hview]
    exact PortView.Moves.dropped (v := s.view p) hst stable
  · rw [hports, if_pos rfl]
    exact Nat.zero_le _

theorem State.Runs.disableAlone (p : Port) (s : State) : s.Runs (s.disableAlone p) := by
  have hframe := State.setPortState_frame p .disabled (s.dropPort p)
  refine .of_dropped (p := p) (.inr rfl) (s.ports.get p).stable hframe fun q => ?_
  rw [State.disableAlone_ports]
  split
  · next hq => subst hq; rfl
  · rfl

/-- R66: a detach, but for the evaluation that follows the release of the grant. -/
def State.detachAlone (p : Port) (s : State) : State :=
  (((s.dropPort p).setPortState p .vacant).modPort p fun u => { u with stable := .open }).raiseHub .portDetach

theorem State.detach_eq (p : Port) (s : State) :
    s.detach p = (s.detachAlone p).evaluateIf (decide (p ∈ s.granted)) :=
  rfl

theorem State.detachAlone_frame (p : Port) (s : State) :
    (s.detachAlone p).SameBut [.ports, .events] (s.dropPort p) :=
  (State.raiseHub_frame _ _).comp ((State.modPort_frame p _ _).comp (State.setPortState_frame p .vacant _)
    (by decide)) (by decide)

theorem State.detachAlone_ports (p : Port) (s : State) (q : Port) :
    (s.detachAlone p).ports.get q =
      if q = p then { (s.ports.get q).dropped with state := .vacant, stable := .open } else s.ports.get q := by
  rw [State.detachAlone, State.raiseHub_frame _ _ .ports (by decide), State.modPort_ports, PerPort.get_set,
    State.setPortState_port, State.setPortState_port, State.dropPort_ports, State.dropPort_ports]
  split
  · next hq => subst hq; simp
  · rfl

theorem State.Runs.detachAlone (p : Port) (s : State) : s.Runs (s.detachAlone p) :=
  .of_dropped (.inl rfl) .open (s.detachAlone_frame p) (s.detachAlone_ports p)

end Atoms
end Sys2Proof.Machine

namespace Sys2Proof.Machine

open Sys2Proof

section Atoms

variable {s t : State} {p q : Port} {e : Entry}

/-! #### A port pauses, and ramps again (R15, R80) -/

/-- R80: the pause of a port whose class is not ride-through. -/
def State.pauseAlone (p : Port) (s : State) : State :=
  (((s.setPortState p .paused).modPort p PortUnit.unpowered).removeIncrease p).portLinkDown p

theorem State.pause_of_powered (h : (s.ports.get p).state.closed = true) (hride : s.rideThrough p = false) :
    s.pause p = s.pauseAlone p :=
  if_pos (by simp [State.powered, h, hride])

theorem State.pause_of_other (h : (s.ports.get p).state.closed = false ∨ s.rideThrough p = true) : s.pause p = s :=
  if_neg (by rcases h with h | h <;> simp [State.powered, h])

/-- The part of a pause before the link goes down. -/
def State.pauseUnit (p : Port) (s : State) : State :=
  ((s.setPortState p .paused).modPort p PortUnit.unpowered).removeIncrease p

theorem State.pauseAlone_eq (p : Port) (s : State) : s.pauseAlone p = (s.pauseUnit p).portLinkDown p := rfl

theorem State.pauseUnit_frame (p : Port) (s : State) :
    (s.pauseUnit p).SameBut [.admission, .ports, .events] s :=
  (State.removeIncrease_frame p _).comp ((State.modPort_frame p _ _).comp
    ((State.setPortState_frame p .paused s).weaken (by decide)) (by decide)) (by decide)

theorem State.pauseUnit_ports (p : Port) (s : State) (q : Port) :
    (s.pauseUnit p).ports.get q =
      if q = p then { (s.ports.get q).unpowered with state := .paused } else s.ports.get q := by
  simp only [State.pauseUnit, State.removeIncrease, State.modPort_ports, PerPort.get_set, State.setPortState_port]
  split
  · next hq => subst hq; rfl
  · rfl

theorem State.pauseUnit_admission (p : Port) (s : State) :
    (s.pauseUnit p).admission =
      s.admission.filter fun e => !(decide (e.port = p) && decide (e.reason = .increase)) :=
  congrArg (List.filter _) (State.setPortState_frame p .paused s .admission (by decide))

theorem State.pauseAlone_ports (p : Port) (s : State) (q : Port) :
    (s.pauseAlone p).ports.get q =
      if q = p then { (s.ports.get q).unpowered with state := .paused } else s.ports.get q := by
  rw [State.pauseAlone_eq, State.portLinkDown_frame p _ .ports (by decide), State.pauseUnit_ports]

theorem State.pauseAlone_granted (p : Port) (s : State) : (s.pauseAlone p).granted = s.granted :=
  (State.portLinkDown_frame p (s.pauseUnit p) .granted (by decide)).trans (s.pauseUnit_frame p .granted (by decide))

theorem State.pauseAlone_admission (p : Port) (s : State) :
    (s.pauseAlone p).admission =
      s.admission.filter fun e => !(decide (e.port = p) && decide (e.reason = .increase)) :=
  Eq.trans (State.portLinkDown_frame p (s.pauseUnit p) .admission (by decide)) (s.pauseUnit_admission p)

theorem State.pauseAlone_linkState (p : Port) (s : State) : (s.pauseAlone p).linkState (.port p) = .down :=
  State.portLinkDown_linkState p _

theorem State.pauseAlone_linkState_of_ne {d : Dest} (hd : d ≠ .port p) (s : State) :
    (s.pauseAlone p).linkState d = s.linkState d := by
  rw [State.pauseAlone_eq, State.portLinkDown_linkState_of_ne hd,
    State.linkState_of_frame (s.pauseUnit_frame p) (by decide)]

theorem State.Runs.pauseAlone (hclosed : s.Fed → (s.ports.get p).state.closed = true)
    (hsel : s.sel.state.target ≠ none) : s.Runs (s.pauseAlone p) := by
  have hflows : s.Flows (s.pauseAlone p) :=
    .trans (.of_frame (s.pauseUnit_frame p) (by decide)) (.portLinkDown p _)
  have hframe : (s.pauseAlone p).SameBut Part.power s :=
    ((State.portLinkDown_frame p _).weaken (n := Part.power) (by decide)).comp
      ((s.pauseUnit_frame p).weaken (by decide)) fun _ hx => hx
  refine .of_port p hflows hframe (fun q hq => State.view_congr (by rw [State.pauseAlone_ports, if_neg hq])
    (by rw [State.pauseAlone_granted]) (State.entryOf_of_filter (s.pauseAlone_admission p) hq)
    (State.pauseAlone_linkState_of_ne (fun h => hq (Dest.port.inj h)) s))
    (by rw [State.pauseAlone_granted]) (fun hs => ?_) fun hs => ⟨?_, ?_⟩
  · rw [State.pauseAlone_admission]
    exact nodup_ports_filter hs.entries _
  · have hgranted := (hs.listed p).mpr (PortState.holdsGrant_of_closed (hclosed hs))
    have hnone : (s.pauseAlone p).entryOf p = none :=
      State.entryOf_eq_none_iff.mpr fun x hx => hs.no_entry_left hgranted x (s.pauseAlone_admission p ▸ hx)
    have hview : (s.pauseAlone p).view p =
        ⟨{ (s.ports.get p).unpowered with state := .paused }, decide (p ∈ s.granted), none, true⟩ := by
      simp only [State.view, State.pauseAlone_ports, State.pauseAlone_granted, hnone, State.pauseAlone_linkState]
      simp
    rw [hview]
    exact .paused_of_changeover (hs.view p) (hclosed hs) hsel
  · rw [State.pauseAlone_ports, if_pos rfl]
    exact le_rfl

theorem State.Runs.pause (p : Port) (hsel : s.sel.state.target ≠ none) : s.Runs (s.pause p) := by
  by_cases h : (s.ports.get p).state.closed = true ∧ s.rideThrough p = false
  · rw [State.pause_of_powered h.1 h.2]
    exact .pauseAlone (fun _ => h.1) hsel
  · rw [State.pause_of_other (by grind)]
    exact .refl s

theorem State.Runs.pauseAll (hsel : s.sel.state.target ≠ none) : s.Runs s.pauseAll := by
  have hlist : ∀ (l : List Port) (s : State), s.sel.state.target ≠ none → s.Runs (l.foldl (fun s p => s.pause p) s) := by
    intro l
    induction l with
    | nil => exact fun s _ => .refl s
    | cons p l ih =>
      intro s hsel
      have hframe : (s.pause p).sel = s.sel := s.pause_frame p .sel (by decide)
      exact (State.Runs.pause p hsel).trans (ih _ (by rw [hframe]; exact hsel))
  exact hlist _ s hsel

theorem State.enterRamp_view (p : Port) (s : State) :
    (s.enterRamp p).view p = ⟨(s.ports.get p).ramped (s.stepTime p), decide (p ∈ s.granted), s.entryOf p, false⟩ := by
  have hgranted : (s.enterRamp p).granted = s.granted := s.enterRamp_frame p .granted (by decide)
  simp only [State.view, State.enterRamp_ports, State.enterRamp_linkState, hgranted,
    State.entryOf_of_frame (s.enterRamp_frame p) (by decide)]
  simp

theorem State.enterRamp_view_of_ne (hq : q ≠ p) (s : State) : (s.enterRamp p).view q = s.view q := by
  have hgranted : (s.enterRamp p).granted = s.granted := s.enterRamp_frame p .granted (by decide)
  refine State.view_congr (by rw [State.enterRamp_ports, if_neg hq]) (by rw [hgranted])
    (State.entryOf_of_frame (s.enterRamp_frame p) (by decide) q) ?_
  rw [State.enterRamp_linkState, if_neg fun h => hq (Dest.port.inj h)]

/-- R15: a paused port ramps again. -/
theorem State.Runs.reramp (p : Port) (s : State) : s.Runs (s.reramp p) := by
  unfold State.reramp
  split
  · next hpaused =>
    have hgranted : (s.enterRamp p).granted = s.granted := s.enterRamp_frame p .granted (by decide)
    have hadmission : (s.enterRamp p).admission = s.admission := s.enterRamp_frame p .admission (by decide)
    refine .trans (.of_port p (.enterRamp p s) ((s.enterRamp_frame p).weaken (by decide))
      (fun q hq => State.enterRamp_view_of_ne hq s) (by rw [hgranted]) (fun hs => by rw [hadmission]; exact hs.entries)
      fun hs => ⟨?_, ?_⟩) (.of_frame (State.postGrant_frame p .on _) (by decide))
    · rw [State.enterRamp_view]
      exact .reramped (hs.view p) hpaused _
    · rw [State.enterRamp_ports, if_pos rfl]
      exact le_rfl
  · exact .refl s

theorem State.Runs.rerampAll (s : State) : s.Runs s.rerampAll :=
  .foldl (fun s p => .reramp p s) _ s

/-! #### One entry comes, changes or goes (R41, R48, R51, R54 to R56) -/

/-- The unit of one port and its entry change alone. -/
theorem State.Runs.of_unit_and_entry (p : Port)
    (hframe : t.SameBut [.admission, .ports, .events, .grantSlots, .counters] s)
    (hports : ∀ q, q ≠ p → t.ports.get q = s.ports.get q) (hothers : ∀ q, q ≠ p → t.entryOf q = s.entryOf q)
    (hentries : s.Fed → (t.admission.map (·.port)).Nodup)
    (hmove : s.Fed → (s.view p).Moves s.tables s.sel.state s.mgmt.operational
      ⟨t.ports.get p, decide (p ∈ s.granted), t.entryOf p, (s.view p).down⟩ ∧
      (t.ports.get p).grant ≤ (s.ports.get p).grant) : s.Runs t := by
  have hgranted : t.granted = s.granted := hframe .granted (by decide)
  have hlinks : t.links = s.links := hframe .links (by decide)
  refine .of_port p (.of_frame hframe (by decide)) (hframe.weaken (by decide))
    (fun q hq => State.view_congr (hports q hq) (by rw [hgranted]) (hothers q hq) (State.linkState_congr hlinks _))
    (by rw [hgranted]) hentries fun hs => ⟨?_, (hmove hs).2⟩
  have hview : t.view p = ⟨t.ports.get p, decide (p ∈ s.granted), t.entryOf p, (s.view p).down⟩ := by
    simp only [State.view, hgranted, State.linkState_congr hlinks]
  rw [hview]
  exact (hmove hs).1

/-- The entry of one port changes alone, and fits the port's state. -/
theorem State.Runs.of_entry (p : Port) (hframe : t.SameBut [.admission, .events, .grantSlots, .counters] s)
    (hothers : ∀ q, q ≠ p → t.entryOf q = s.entryOf q) (hentries : s.Fed → (t.admission.map (·.port)).Nodup)
    (hfits : s.Fed → ∀ e, t.entryOf p = some e →
      if e.reason = .increase then (s.ports.get p).state.closed = true else (s.ports.get p).state = .waiting)
    (hdraw : s.Fed → s.tables.InRange → (s.view p).Drawn → ∀ e, t.entryOf p = some e → e.draw ≤ 1200) : s.Runs t := by
  have hports : t.ports = s.ports := hframe .ports (by decide)
  refine .of_unit_and_entry p (hframe.weaken (by decide)) (fun q _ => by rw [hports]) hothers hentries fun hs =>
    ⟨?_, by rw [hports]⟩
  rw [hports]
  exact .with_entry (v := s.view p) (hs.view p) (hfits hs) (hdraw hs)

theorem State.removeEntry_entryOf (p : Port) (s : State) (q : Port) :
    (s.removeEntry p).entryOf q = if q = p then none else s.entryOf q := by
  rw [State.entryOf, State.removeEntry]
  split
  · next hq => subst hq; simp
  · next hq => exact find?_filter_port fun x hx => by simp [hx, hq]

/-- A port's entry goes. -/
theorem State.Runs.removeEntry (p : Port) (s : State) : s.Runs (s.removeEntry p) := by
  refine .of_entry p ((s.removeEntry_frame p).weaken (by decide))
    (fun q hq => by rw [State.removeEntry_entryOf, if_neg hq]) (fun hs => nodup_ports_filter hs.entries _)
    (fun _ e he => ?_) fun _ _ _ e he => ?_ <;>
  · rw [State.removeEntry_entryOf, if_pos rfl] at he
    cases he

/-- A port's INCREASE entry goes. -/
theorem State.removeIncrease_entryOf (hentries : (s.admission.map (·.port)).Nodup) (p : Port) (q : Port) :
    (s.removeIncrease p).entryOf q =
      if q = p ∧ (s.entryOf p).any (fun e => decide (e.reason = .increase)) = true then none else s.entryOf q := by
  by_cases hq : q = p
  · subst hq
    cases he : s.entryOf q with
    | none =>
      rw [State.entryOf_eq_none_iff.mpr fun x hx => State.entryOf_eq_none_iff.mp he x (List.mem_filter.mp hx).1]
      simp
    | some e =>
      have hport := State.entryOf_port he
      have hmem := State.entryOf_mem he
      by_cases hr : e.reason = .increase
      · rw [if_pos ⟨rfl, by simpa using hr⟩]
        refine State.entryOf_eq_none_iff.mpr fun x hx hx' => ?_
        obtain ⟨hxmem, hkept⟩ := List.mem_filter.mp hx
        have heq : x = e := List.inj_on_of_nodup_map hentries hxmem hmem (hx'.trans hport.symm)
        simp [heq, hport, hr] at hkept
      · rw [if_neg (by simpa using hr), ← hport]
        exact State.entryOf_of_mem (s := s.removeIncrease e.port) (nodup_ports_filter hentries _)
          (List.mem_filter.mpr ⟨hmem, by simp [hr]⟩)
  · rw [if_neg fun h => hq h.1]
    exact State.entryOf_of_filter rfl hq

theorem State.Runs.removeIncrease (p : Port) (s : State) : s.Runs (s.removeIncrease p) := by
  have hkept : s.Fed → ∀ e, (s.removeIncrease p).entryOf p = some e → s.entryOf p = some e := fun hs e he => by
    rw [State.removeIncrease_entryOf hs.entries] at he
    split at he
    · cases he
    · exact he
  exact .of_entry p ((s.removeIncrease_frame p).weaken (by decide)) (fun q hq => State.entryOf_of_filter rfl hq)
    (fun hs => nodup_ports_filter hs.entries _) (fun hs e he => (hs.view p).entry e (hkept hs e he))
    fun hs _ hd e he => hd.entry e (hkept hs e he)

/-- R54: a reduction, but for the evaluation that follows. -/
def State.reduceAlone (p : Port) (draw : Nat) (s : State) : State :=
  ((s.modPort p fun u => { u with grant := draw }).removeIncrease p).postGrant p
    (((s.modPort p fun u => { u with grant := draw }).removeIncrease p).grantStatus p)

theorem State.Runs.reduceAlone {n : Nat} (hclosed : (s.ports.get p).state.closed = true)
    (hn : n ≤ (s.ports.get p).grant) : s.Runs (s.reduceAlone p n) := by
  have hunit : ((s.modPort p fun u => { u with grant := n }).removeIncrease p).ports.get p =
      { s.ports.get p with grant := n } :=
    PerPort.get_set_self _ _ _
  have hframe : ((s.modPort p fun u => { u with grant := n }).removeIncrease p).SameBut [.ports, .admission] s :=
    (State.removeIncrease_frame p _).comp ((State.modPort_frame p _ s).weaken (by decide)) (by decide)
  refine .trans (.of_unit_and_entry p (hframe.weaken (by decide)) (fun q hq => PerPort.get_set_of_ne _ _ _ _ hq)
    (fun q hq => State.entryOf_of_filter rfl hq) (fun hs => nodup_ports_filter hs.entries _) fun hs => ⟨?_, ?_⟩)
    (.of_frame (State.postGrant_frame _ _ _) (by decide))
  · have hgranted := (hs.listed p).mpr (PortState.holdsGrant_of_closed hclosed)
    have hnone : ((s.modPort p fun u => { u with grant := n }).removeIncrease p).entryOf p = none :=
      State.entryOf_eq_none_iff.mpr (hs.no_entry_left hgranted)
    rw [hunit, hnone, decide_eq_true hgranted]
    exact .regranted (hs.view p) hclosed fun hd => hn.trans hd.grant
  · rw [hunit]
    exact hn

theorem State.Runs.demandEqual (p : Port) (s : State) : s.Runs (s.demandEqual p) :=
  .trans (.removeIncrease p s) (.of_frame (State.postGrant_frame _ _ _) (by decide))

/-- R56: an increase, but for the evaluation that follows. -/
def State.increaseAlone (p : Port) (draw : Nat) (s : State) : State :=
  (s.putEntry (s.increaseEntry p draw)).postGrant p .pending

theorem State.Runs.increaseAlone {n : Nat} (hclosed : (s.ports.get p).state.closed = true) :
    s.Runs (s.increaseAlone p (s.clampDraw p n)) := by
  refine .trans (.of_entry p ((State.putEntry_frame _ s).weaken (by decide)) (fun q hq => ?_)
    (fun hs => State.putEntry_nodup hs.entries _) (fun _ e he => ?_) fun hs hT _ e he => ?_)
    (.of_frame (State.postGrant_frame _ _ _) (by decide))
  · rw [State.putEntry_entryOf]
    exact if_neg hq
  · rw [State.putEntry_entryOf, if_pos (by rfl)] at he
    cases he
    rw [if_pos (by rfl)]
    exact hclosed
  · rw [State.putEntry_entryOf, if_pos (by rfl)] at he
    cases he
    have hclassed : (s.ports.get p).state.classed = true := by
      rw [PortState.classed, PortState.holdsGrant_of_closed hclosed]
      rfl
    obtain ⟨x, hx⟩ := Option.isSome_iff_exists.mp ((hs.view p).eff hclassed)
    have hx : (s.ports.get p).eff = some x := hx
    exact State.clampDraw_le_of_class hT (c := s.tables.cls.get x.cls) (by rw [State.classOf, hx]; rfl) n

/-- R48: the entry that has lost its hold-off. -/
theorem State.clearHoldOff_entryOf (p : Port) (s : State) (q : Port) :
    (s.clearHoldOff p).entryOf q =
      (s.entryOf q).map fun e => if e.port = p then { e with holdOff := none } else e := by
  have hport : ∀ e : Entry, (if e.port = p then { e with holdOff := none } else e).port = e.port := fun e => by
    split <;> rfl
  simp only [State.entryOf, State.clearHoldOff, List.find?_map, Function.comp_def, hport]

theorem State.Runs.clearHoldOff (p : Port) (s : State) : s.Runs (s.clearHoldOff p) := by
  have hframe : (s.clearHoldOff p).SameBut [.admission] s := by
    intro x hx; cases x <;> first | exact absurd (by decide) hx | rfl
  have hentry : ∀ e, (s.clearHoldOff p).entryOf p = some e → ∃ x, s.entryOf p = some x ∧ e.reason = x.reason ∧
      e.draw = x.draw := fun e he => by
    rw [State.clearHoldOff_entryOf, Option.map_eq_some_iff] at he
    obtain ⟨x, hx, rfl⟩ := he
    refine ⟨x, hx, ?_⟩
    split <;> exact ⟨rfl, rfl⟩
  refine .of_entry p (hframe.weaken (by decide)) (fun q hq => ?_) (fun hs => ?_) (fun hs e he => ?_) fun _ _ hd e he => ?_
  · rw [State.clearHoldOff_entryOf]
    cases hx : s.entryOf q with
    | none => rfl
    | some x => rw [Option.map_some, if_neg (by rw [State.entryOf_port hx]; exact hq)]
  · have hmap : (s.clearHoldOff p).admission.map (·.port) = s.admission.map (·.port) := by
      simp only [State.clearHoldOff, List.map_map]
      refine List.map_congr_left fun e _ => ?_
      simp only [Function.comp_apply]
      split <;> rfl
    rw [hmap]
    exact hs.entries
  · obtain ⟨x, hx, hr, -⟩ := hentry e he
    rw [hr]
    exact (hs.view p).entry x hx
  · obtain ⟨x, hx, -, hdraw⟩ := hentry e he
    rw [hdraw]
    exact hd.entry x hx

/-! #### One unit changes (R62) -/

theorem State.Runs.modPort (p : Port) (f : PortUnit → PortUnit) (s : State)
    (hf : s.Fed → (s.ports.get p).Moves (f (s.ports.get p))) : s.Runs (s.modPort p f) :=
  .of_unit p ((s.modPort_frame p f).weaken (by decide)) (fun q hq => PerPort.get_set_of_ne _ _ _ _ hq) fun hs => by
    rw [State.modPort_ports, PerPort.get_set_self]
    exact hf hs

theorem State.Runs.setPortState (p : Port) (st : PortState) (s : State)
    (h : s.Fed → (s.ports.get p).Moves { s.ports.get p with state := st }) : s.Runs (s.setPortState p st) :=
  .of_unit p ((s.setPortState_frame p st).weaken (by decide)) (fun q hq => by rw [State.setPortState_port, if_neg hq])
    fun hs => by
      rw [State.setPortState_port, if_pos rfl]
      exact h hs

/-- R50: a waiting port is denied. -/
theorem State.Runs.denied (hwaiting : s.Fed → (s.ports.get p).state = .waiting) :
    s.Runs ((s.removeEntry p).setPortState p .denied) := by
  have hstate := State.setPortState_frame p .denied (s.removeEntry p)
  have hunit := State.setPortState_port (s.removeEntry p) p
  have hframe : ((s.removeEntry p).setPortState p .denied).SameBut [.ports, .events, .admission] s :=
    hstate.comp ((s.removeEntry_frame p).weaken (by decide)) (by decide)
  refine .of_unit_and_entry p (hframe.weaken (by decide)) (fun q hq => by rw [hunit, if_neg hq]; rfl)
    (fun q hq => by rw [State.entryOf_of_frame hstate (by decide), State.removeEntry_entryOf, if_neg hq])
    (fun hs => ?_) fun hs => ⟨?_, ?_⟩
  · rw [hstate .admission (by decide)]
    exact nodup_ports_filter hs.entries _
  · rw [hunit, if_pos rfl, State.entryOf_of_frame hstate (by decide), State.removeEntry_entryOf, if_pos rfl]
    exact .denied (hs.view p) (hwaiting hs)
  · rw [hunit, if_pos rfl]
    exact le_rfl

/-! #### A port that neither holds a grant nor waits for one (R69, R78) -/

/-- The states in which a port neither holds a grant nor waits for one. -/
def PortState.rests (st : PortState) : Bool := !st.holdsGrant && decide (st ≠ .waiting)

theorem State.Fed.no_entry_of_rests (hs : s.Fed) (hp : (s.ports.get p).state.rests = true) : s.entryOf p = none := by
  rw [Option.eq_none_iff_forall_not_mem]
  intro e he
  have hfit := (hs.view p).entry e he
  simp only [PortState.rests, Bool.and_eq_true, Bool.not_eq_true', decide_eq_true_eq] at hp
  obtain ⟨hidle, hnot⟩ := hp
  split at hfit
  · exact absurd (PortState.holdsGrant_of_closed hfit) (Bool.eq_false_iff.mp hidle)
  · exact hnot hfit

/-- R69, R78: a port at rest comes to wait with a new entry. -/
theorem State.Runs.of_enlisted (hp : (s.ports.get p).state.rests = true)
    (hframe : t.SameBut [.admission, .ports, .events] s) (hports : ∀ q, q ≠ p → t.ports.get q = s.ports.get q)
    (hadmission : t.admission = s.admission ++ [e]) (hport : e.port = p) (hreason : e.reason ≠ .increase)
    (hwaiting : (t.ports.get p).state = .waiting) (heff : s.Fed → (t.ports.get p).eff.isSome = true)
    (hgrant : (t.ports.get p).grant = (s.ports.get p).grant)
    (hretry : (t.ports.get p).retryDraw = (s.ports.get p).retryDraw ∨ (t.ports.get p).retryDraw = none)
    (htimers : (s.ports.get p).TimersPlaced → (t.ports.get p).TimersPlaced)
    (hdraw : s.tables.InRange → (s.view p).Drawn → e.draw ≤ 1200) : s.Runs t := by
  subst hport
  have hidle : (s.ports.get e.port).state.holdsGrant = false := by
    simp only [PortState.rests, Bool.and_eq_true, Bool.not_eq_true'] at hp
    exact hp.1
  have hfind : ∀ q, t.entryOf q = (s.entryOf q).or (if e.port = q then some e else none) := fun q => by
    simp [State.entryOf, hadmission, List.find?_append, List.find?_singleton]
  refine .of_unit_and_entry e.port (hframe.weaken (by decide)) hports (fun q hq => ?_) (fun hs => ?_) fun hs =>
    ⟨?_, hgrant.le⟩
  · rw [hfind, if_neg (Ne.symm hq), Option.or_none]
  · rw [hadmission]
    exact nodup_ports_append hs.entries (State.entryOf_eq_none_iff.mp (hs.no_entry_of_rests hp))
  · rw [hfind, hs.no_entry_of_rests hp, if_pos rfl, Option.none_or]
    exact .enlisted (hs.view e.port) hidle hwaiting (heff hs) hgrant hretry htimers hreason hdraw

end Atoms
end Sys2Proof.Machine

namespace Sys2Proof.Machine

open Sys2Proof

/-! ### Shedding and evaluation (R42 to R47) -/

section Evaluation

variable {s t u : State} {p q : Port} {e : Entry}

theorem State.Runs.trans_of_fed (h : s.Runs t) (hflows : t.Flows u) (k : s.Fed → t.Runs u) : s.Runs u where
  flows := h.flows.trans hflows
  fed hs := (k hs).fed (h.fed hs)
  links hs hl := (k hs).links (h.fed hs) (h.links hs hl)
  timers hs ht := (k hs).timers (h.fed hs) (h.timers hs ht)
  budgeted hs hr hb := (k hs).budgeted (h.fed hs) (by rw [h.flows.frame .tables (by decide)]; exact hr)
    (h.budgeted hs hr hb)
  paused hs hp := (k hs).paused (h.fed hs) (h.paused hs hp)
  off hs ho := (k hs).off (h.fed hs) (h.off hs ho)

/-- R46: victims are shed. -/
theorem State.Runs.shedLoop (candidate : State → Port → Bool) (need : Int) (n : Nat) (s : State) :
    s.Runs (State.shedLoop candidate need n s) := by
  induction n generalizing s with
  | zero => exact .refl s
  | succ n ih =>
    unfold State.shedLoop
    split
    · exact .refl s
    · split
      · exact .refl s
      · next q hq => exact (State.Runs.shed fun _ => State.victim_mem hq).trans (ih _)

theorem State.Runs.shedUntil (candidate : State → Port → Bool) (need : Int) (s : State) :
    s.Runs (s.shedUntil candidate need) :=
  .shedLoop candidate need _ s

/-! #### Who is a victim (R46) -/

/-- A fold that takes nothing but what a test passes, and takes the first such thing it meets. -/
theorem foldl_pick_eq_none_iff {α : Type} {f : Option α → α → Option α} {test : α → Bool} {l : List α}
    (hskip : ∀ best a, test a = false → f best a = best) (htake : ∀ best a, test a = true → (f best a).isSome = true) :
    l.foldl f none = none ↔ ∀ a ∈ l, test a = false := by
  have hsome : ∀ (l : List α) best, (∀ best a, best.isSome = true → (f best a).isSome = true) →
      best.isSome = true → (l.foldl f best).isSome = true := by
    intro l
    induction l with
    | nil => exact fun best _ h => h
    | cons a l ih => exact fun best hf h => ih _ hf (hf best a h)
  have hkeep : ∀ best a, best.isSome = true → (f best a).isSome = true := fun best a h => by
    cases ha : test a with
    | false => rw [hskip best a ha]; exact h
    | true => exact htake best a ha
  induction l with
  | nil => simp
  | cons a l ih =>
    rw [List.foldl_cons, List.forall_mem_cons]
    cases ha : test a with
    | false => rw [hskip none a ha]; simp [ih]
    | true =>
      have := hsome l (f none a) hkeep (htake none a ha)
      simp [Option.isSome_iff_ne_none.mp this]

/-- R46: there is a victim exactly while there is a candidate. -/
theorem State.victim_eq_none_iff {candidate : Port → Bool} :
    s.victim candidate = none ↔ ∀ p ∈ s.granted, candidate p = false :=
  foldl_pick_eq_none_iff (fun best p h => if_neg (by simp [h])) fun best p h => by
    cases best with
    | none => simp [h]
    | some q => simp only [h, if_true]; split <;> rfl

/-- R46: a victim is a candidate. -/
theorem State.victim_candidate {candidate : Port → Bool} (h : s.victim candidate = some q) : candidate q = true := by
  have hpick : ∀ (l : List Port) best, (∀ b ∈ best, candidate b = true) →
      ∀ b ∈ l.foldl (fun best p =>
        if candidate p then
          match best with
          | none => some p
          | some q => if s.priority p ≤ s.priority q then some p else some q
        else best) best, candidate b = true := by
    intro l
    induction l with
    | nil => exact fun _ h => h
    | cons a l ih =>
      refine fun best hbest => ih _ ?_
      beta_reduce
      split
      · next ha =>
        split
        · simpa using ha
        · next q => split <;> simp_all
      · exact hbest
  exact hpick s.granted none (by simp) q h

/-! #### What shedding leaves of the pre-emption (R45) -/

theorem State.shed_classOf (q : Port) (s : State) (p : Port) : (s.shed q).classOf p = s.classOf p :=
  State.classOf_congr (s.shed_frame q .tables (by decide)) (by rw [State.shed_port]; split <;> rfl)

theorem State.priority_congr (htables : t.tables = s.tables) (hclass : t.classOf p = s.classOf p) :
    t.priority p = s.priority p := by
  rw [State.priority, State.priority?, htables, hclass, ← State.priority?, ← State.priority]

theorem State.shed_priority (q : Port) (s : State) (p : Port) : (s.shed q).priority p = s.priority p :=
  State.priority_congr (s.shed_frame q .tables (by decide)) (s.shed_classOf q p)

/-- R49: whether another port is a candidate stands while one is shed. -/
theorem State.shed_preemptCandidate (hq : q ≠ p) (n : Nat) (s : State) :
    State.preemptCandidate n (s.shed p) q = State.preemptCandidate n s q := by
  simp only [State.preemptCandidate, State.overcommitCandidate, State.sheddable, State.shed_classOf,
    State.shed_priority, State.shed_port, if_neg hq]

/-- R45, R49: what a shed candidate gives to F it takes from the pre-emptable sum. -/
theorem State.shed_preemptable {n : Nat} (hnodup : s.granted.Nodup) (hp : p ∈ s.granted)
    (hcandidate : State.preemptCandidate n s p = true) :
    (s.shed p).free + ((s.shed p).preemptable n : Int) = s.free + (s.preemptable n : Int) := by
  have hlist : (s.shed p).granted.filter (State.preemptCandidate n (s.shed p)) =
      (s.granted.filter (State.preemptCandidate n s)).filter fun q => decide (q ≠ p) := by
    rw [State.shed_granted, List.filter_filter, List.filter_filter]
    refine List.filter_congr fun q _ => ?_
    by_cases hq : q = p
    · simp [hq]
    · rw [State.shed_preemptCandidate hq, Bool.and_comm]
  have hsum : (s.shed p).preemptable n + (s.ports.get p).grant = s.preemptable n := by
    rw [State.preemptable, hlist, State.preemptable,
      ← sum_filter_ne_add (hnodup.filter _) (List.mem_filter.mpr ⟨hp, hcandidate⟩) fun q => (s.ports.get q).grant]
    refine congrArg (· + _) (congrArg List.sum (List.map_congr_left fun q hq => ?_))
    rw [State.shed_port, if_neg (by simpa using List.of_mem_filter hq)]
  rw [State.shed_free hnodup hp]
  omega

/-- R45: where F and the pre-emptable sum together meet the need, shedding makes F meet it. -/
theorem State.shedLoop_preempt_free {prio : Nat} {need : Int} (n : Nat) (hlen : s.granted.length ≤ n)
    (hnodup : s.granted.Nodup) (hneed : need ≤ s.free + (s.preemptable prio : Int)) :
    need ≤ (State.shedLoop (State.preemptCandidate prio) need n s).free := by
  induction n generalizing s with
  | zero =>
    have hnil : s.granted = [] := List.length_eq_zero_iff.mp (Nat.le_zero.mp hlen)
    simpa [State.preemptable, hnil, State.shedLoop] using hneed
  | succ n ih =>
    unfold State.shedLoop
    split
    · assumption
    · split
      · next hnone =>
        rw [State.victim_eq_none_iff] at hnone
        rw [State.preemptable, List.filter_eq_nil_iff.mpr fun q hq => by simp [hnone q hq]] at hneed
        simpa using hneed
      · next q hq =>
        have hmem := State.victim_mem hq
        refine ih ?_ (by rw [State.shed_granted]; exact hnodup.filter _) ?_
        · rw [State.shed_granted]
          have hless : (s.granted.filter fun x => decide (x ≠ q)).length < s.granted.length :=
            List.length_filter_lt_length_iff_exists.mpr ⟨q, hmem, by simp⟩
          omega
        · rw [State.shed_preemptable hnodup hmem (State.victim_candidate hq)]
          exact hneed

/-- R45: a port of at least the head's priority keeps its entry, its class and its unit while others are shed by
pre-emption. -/
theorem State.shedLoop_preempt_keeps {prio : Nat} {need : Int} (n : Nat) (hprio : prio ≤ s.priority p) :
    (State.shedLoop (State.preemptCandidate prio) need n s).entryOf p = s.entryOf p ∧
      (State.shedLoop (State.preemptCandidate prio) need n s).ports.get p = s.ports.get p := by
  induction n generalizing s with
  | zero => exact ⟨rfl, rfl⟩
  | succ n ih =>
    unfold State.shedLoop
    split
    · exact ⟨rfl, rfl⟩
    · split
      · exact ⟨rfl, rfl⟩
      · next q hq =>
        have hcandidate := State.victim_candidate hq
        have hne : p ≠ q := by
          rintro rfl
          simp only [State.preemptCandidate, Bool.and_eq_true, decide_eq_true_eq] at hcandidate
          omega
        obtain ⟨hentry, hunit⟩ := ih (s := s.shed q) (by rw [State.shed_priority]; exact hprio)
        rw [hentry, hunit, State.shed_entryOf, if_neg hne, State.shed_port, if_neg hne]
        exact ⟨rfl, rfl⟩

theorem State.need_congr (h : t.ports.get e.port = s.ports.get e.port) : t.need e = s.need e := by
  rw [State.need, State.need, h]

/-- R45: the state in which the head that pre-empts is granted. -/
def State.preempted (e : Entry) (s : State) : State :=
  s.shedUntil (State.preemptCandidate (s.priority e.port)) (s.need e)

theorem State.preempted_keeps (e : Entry) (s : State) :
    (s.preempted e).entryOf e.port = s.entryOf e.port ∧ (s.preempted e).ports.get e.port = s.ports.get e.port :=
  State.shedLoop_preempt_keeps s.granted.length le_rfl

/-- R45: pre-emption meets the need, and the head still stands. -/
theorem State.Fed.preempted_meets (hs : s.Fed) (he : e ∈ s.admission)
    (hneed : s.need e ≤ s.free + (s.preemptable (s.priority e.port) : Int)) :
    e ∈ (s.preempted e).admission ∧ (s.preempted e).need e ≤ (s.preempted e).free := by
  obtain ⟨hentry, hunit⟩ := s.preempted_keeps e
  exact ⟨State.entryOf_mem (hentry.trans (State.entryOf_of_mem hs.entries he)),
    (State.need_congr hunit).le.trans (State.shedLoop_preempt_free _ le_rfl hs.granted hneed)⟩

theorem State.inForce_of_frame (h : t.SameBut Part.power s) : t.inForce = s.inForce := by
  rw [State.inForce, h .mgmt (by decide), h .sel (by decide), ← State.inForce]

/-- R45: the steps of an evaluation. -/
theorem State.Runs.evaluateLoop (n : Nat) {s : State} (hforce : s.inForce = true) :
    s.Runs (State.evaluateLoop n s) := by
  induction n generalizing s with
  | zero => exact .refl s
  | succ n ih =>
    unfold State.evaluateLoop
    split
    · exact .refl s
    · next e he =>
      have hmem := State.head_mem he
      have hgrant : ∀ y : State, (y.grantHead e).inForce = y.inForce :=
        fun y => State.inForce_of_frame ((y.grantHead_frame e).weaken (by decide))
      have hshed : (s.preempted e).inForce = s.inForce :=
        State.inForce_of_frame ((s.shedUntil_frame _ _).weaken (by decide))
      split
      · next hneed =>
        exact (State.Runs.grantHead fun _ => ⟨hforce, hmem, hneed⟩).trans (ih ((hgrant s).trans hforce))
      · split
        · next hneed =>
          have hstand := (State.Runs.shedUntil _ _ s).trans_of_fed (.grantHead e (s.preempted e)) fun hs =>
            .grantHead fun _ => ⟨hshed.trans hforce, hs.preempted_meets hmem hneed⟩
          exact hstand.trans (ih ((hgrant _).trans (hshed.trans hforce)))
        · exact .refl s

theorem State.Runs.evaluate (s : State) : s.Runs s.evaluate := by
  unfold State.evaluate
  split
  · next hforce => exact .evaluateLoop _ hforce
  · exact .refl s

theorem State.Runs.evaluateIf (b : Bool) (s : State) : s.Runs (s.evaluateIf b) := by
  cases b
  · exact .refl s
  · exact .evaluate s

end Evaluation
end Sys2Proof.Machine

namespace Sys2Proof.Machine

open Sys2Proof

/-! ### The work of the admission unit and the port power units -/

section Commands

variable {s t : State} {p q : Port} {e : Entry}

theorem State.Runs.raiseHub (i : HubItem) (s : State) : s.Runs (s.raiseHub i) :=
  .of_frame (s.raiseHub_frame i) (by decide)

theorem State.Runs.countEndpoint (d : Dest) (f : EndpointCounters → EndpointCounters) (s : State) :
    s.Runs (s.countEndpoint d f) :=
  .of_frame (s.countEndpoint_frame d f) (by decide)

/-! #### Admission (R48, R50 to R56) -/

theorem State.Runs.demand (p : Port) (n : Nat) (s : State) : s.Runs (s.demand p n) := by
  cases hclosed : (s.ports.get p).state.closed with
  | false =>
    rw [State.demand_of_unpowered hclosed]
    exact .countEndpoint _ _ s
  | true =>
    rw [State.demand_of_powered hclosed]
    split
    · next hless => exact (State.Runs.reduceAlone hclosed hless.le).trans (.evaluate _)
    · split
      · exact .demandEqual p s
      · exact (State.Runs.increaseAlone hclosed).trans (.evaluate _)

theorem State.Runs.holdOffExpiry (p : Port) (s : State) : s.Runs (s.holdOffExpiry p) := by
  unfold State.holdOffExpiry
  split
  · exact (State.Runs.clearHoldOff p s).trans (.evaluate _)
  · exact .refl s

/-- A wait timer runs for an entry of the port whose reason passes the test. -/
theorem State.waitRuns_iff {f : Reason → Bool} :
    s.waitRuns p f = true ↔ s.inForce = true ∧ ∃ e ∈ s.admission, e.port = p ∧ e.wait.isSome = true ∧ f e.reason = true := by
  simp only [State.waitRuns, Bool.and_eq_true, List.any_eq_true, decide_eq_true_eq, and_assoc]

theorem State.Runs.waitTimerExpiry (p : Port) (s : State) : s.Runs (s.waitTimerExpiry p) := by
  unfold State.waitTimerExpiry
  split
  · next hruns =>
    obtain ⟨-, e, he, rfl, -, hreason⟩ := State.waitRuns_iff.mp hruns
    refine (State.Runs.denied fun hs => ?_).trans (.raiseHub _ _)
    have hfit := hs.fits he
    rwa [State.EntryFits, if_neg (by simpa using hreason)] at hfit
  · exact .refl s

theorem State.Runs.increaseWaitExpiry (p : Port) (s : State) : s.Runs (s.increaseWaitExpiry p) := by
  unfold State.increaseWaitExpiry
  split
  · exact (State.Runs.removeEntry p s).trans (.of_frame (State.postGrant_frame _ _ _) (by decide))
  · exact .refl s

/-! #### Trips (R76, R77) -/

theorem State.Runs.trip (reason : TripReason) (h : (s.ports.get p).state.closed = true) : s.Runs (s.trip p reason) := by
  rw [State.trip_eq]
  exact (State.Runs.tripAlone reason fun _ => h).trans (.evaluateIf _ _)

theorem State.Runs.hardTrip (p : Port) (s : State) : s.Runs (s.hardTrip p) := by
  cases hclosed : (s.ports.get p).state.closed with
  | false =>
    rw [State.hardTrip_of_open hclosed]
    exact .refl s
  | true =>
    rw [State.hardTrip_of_closed hclosed]
    exact .trip _ hclosed

/-! #### Soft start and over-draw (R70 to R75) -/

theorem State.Runs.stepEnd (hramp : (s.ports.get p).state = .ramp) : s.Runs (s.stepEnd p) := by
  have hclosed : (s.ports.get p).state.closed = true := by rw [hramp]; rfl
  by_cases hheld : (s.ports.get p).periodHeld = true
  · have hunit : s.Runs (s.modPort p fun u => u.afterHeld (s.stepTime p)) := .modPort p _ s fun _ =>
      ⟨rfl, .rfl, .rfl, id, rfl, .inl rfl, fun h => ⟨by simp [PortUnit.afterHeld, hramp], h.2.1, h.2.2⟩⟩
    by_cases hcount : (s.ports.get p).heldCount < 3
    · rw [State.stepEnd_of_held hheld hcount]
      exact hunit
    · rw [State.stepEnd_of_stall hheld (by omega)]
      refine hunit.trans (.trip _ ?_)
      rw [State.modPort_ports, PerPort.get_set_self]
      exact hclosed
  · have hfree : (s.ports.get p).periodHeld = false := by simpa using hheld
    by_cases hpos : (s.ports.get p).rampPos < 15
    · rw [State.stepEnd_of_rise hfree hpos]
      exact .modPort p _ s fun _ =>
        ⟨rfl, .rfl, .rfl, id, rfl, .inl rfl, fun h => ⟨by simp [hramp], h.2.1, h.2.2⟩⟩
    · obtain ⟨hframe, hothers⟩ := State.stepEnd_frame_of_no_trip (.inl hfree)
      refine .of_unit p (hframe.weaken (by decide)) hothers fun hs => ?_
      rw [State.stepEnd_of_full hfree (by omega), State.setPortState_port, if_pos rfl, State.modPort_ports,
        PerPort.get_set_self]
      refine ⟨by rw [hramp]; rfl, by simp [hramp], by simp [hramp], fun h _ => h (by rw [hramp]; rfl), rfl, .inl rfl,
        fun h => ?_⟩
      obtain ⟨-, hover, hretry, -⟩ := h
      simp_all [PortUnit.TimersPlaced]

theorem State.levelTo_ports_of_ne (f : PortUnit → PortUnit) (st : PortState) (g : GrantStatus) (hq : q ≠ p)
    (s : State) : (s.levelTo p f st g).ports.get q = s.ports.get q := by
  rw [State.levelTo, State.postGrant_frame _ _ _ .ports (by decide), State.setPortState_port, if_neg hq]
  exact PerPort.get_set_of_ne _ _ _ _ hq

/-- R74, R75: a port passes between ON and LIMIT. -/
theorem State.Runs.levelTo {f : PortUnit → PortUnit} {st : PortState} {g : GrantStatus}
    (hstate : (s.ports.get p).state = .on ∨ (s.ports.get p).state = .limit) (hst : st = .on ∨ st = .limit)
    (heff : (f (s.ports.get p)).eff = (s.ports.get p).eff) (hgrant : (f (s.ports.get p)).grant = (s.ports.get p).grant)
    (hretry : (f (s.ports.get p)).retryDraw = (s.ports.get p).retryDraw)
    (htimers : (s.ports.get p).TimersPlaced → PortUnit.TimersPlaced { f (s.ports.get p) with state := st }) :
    s.Runs (s.levelTo p f st g) :=
  .of_unit p ((s.levelTo_frame p f st g).weaken (by decide)) (fun q hq => State.levelTo_ports_of_ne f st g hq s)
    fun hs => by
      rw [State.levelTo_unit]
      refine ⟨?_, ?_, ?_, fun h _ => heff ▸ h ?_, hgrant, .inl hretry, htimers⟩ <;>
        rcases hstate with h | h <;> rcases hst with rfl | rfl <;> simp [h, PortState.closed, PortState.classed,
          PortState.holdsGrant]

theorem State.Runs.withFigures (p : Port) (power tol : Nat) (s : State) : s.Runs (s.withFigures p power tol) :=
  .modPort p _ s fun _ => ⟨rfl, .rfl, .rfl, id, rfl, .inl rfl, id⟩

theorem State.Runs.overdrawInOn (hon : (s.ports.get p).state = .on) : s.Runs (s.overdrawInOn p) := by
  unfold State.overdrawInOn
  dsimp only
  split
  · exact .trip _ (by rw [hon]; rfl)
  · refine State.Runs.levelTo (.inl hon) (.inr rfl) rfl rfl rfl fun h => ?_
    obtain ⟨hstep, -, hretry, -⟩ := h
    simp_all [PortUnit.TimersPlaced]

theorem State.Runs.backToOn (hlimit : (s.ports.get p).state = .limit) : s.Runs (s.backToOn p) := by
  refine State.Runs.levelTo (.inr hlimit) (.inl rfl) rfl rfl rfl fun h => ?_
  obtain ⟨hstep, -, hretry, -⟩ := h
  simp_all [PortUnit.TimersPlaced]

theorem State.Runs.judgeOverdraw (p : Port) (s : State) : s.Runs (s.judgeOverdraw p) := by
  have hfigures : ∀ power tol, ((s.withFigures p power tol).ports.get p).state = (s.ports.get p).state :=
    fun power tol => by rw [State.withFigures_unit]
  unfold State.judgeOverdraw
  dsimp only
  split
  · split
    · next hon => exact (State.Runs.withFigures p _ _ s).trans (.overdrawInOn ((hfigures _ _).trans hon))
    · exact .withFigures p _ _ s
  · split
    · next hlimit => exact (State.Runs.withFigures p _ _ s).trans (.backToOn ((hfigures _ _).trans hlimit))
    · exact .withFigures p _ _ s

theorem State.Runs.scanJudge (p : Port) (s : State) : s.Runs (s.scanJudge p) := by
  unfold State.scanJudge
  dsimp only
  split
  · split
    · exact .modPort p _ s fun _ => ⟨rfl, .rfl, .rfl, id, rfl, .inl rfl, id⟩
    · exact .refl s
  · exact .judgeOverdraw p s
  · exact .judgeOverdraw p s
  · exact .refl s

theorem State.Runs.stepTimerExpiry (p : Port) (s : State) : s.Runs (s.stepTimerExpiry p) := by
  unfold State.stepTimerExpiry
  split
  · next h => exact .stepEnd h.1
  · exact .refl s

theorem State.Runs.overdrawTimerExpiry (p : Port) (s : State) : s.Runs (s.overdrawTimerExpiry p) := by
  unfold State.overdrawTimerExpiry
  split
  · next h => exact .trip _ (by rw [h.1]; rfl)
  · exact .refl s

theorem State.Runs.cleanRunExpiry (p : Port) (s : State) : s.Runs (s.cleanRunExpiry p) := by
  unfold State.cleanRunExpiry
  split
  · exact .modPort p _ s fun _ =>
      ⟨rfl, .rfl, .rfl, id, rfl, .inl rfl, fun h => ⟨h.1, h.2.1, h.2.2.1, by simp⟩⟩
  · exact .refl s

/-! #### Classification (R68, R69, R78, R84) -/

/-- No timer of the port runs. -/
def PortUnit.TimersIdle (u : PortUnit) : Prop :=
  u.stepTimer = none ∧ u.overdrawTimer = none ∧ u.retryTimer = none ∧ u.cleanTimer = none

theorem PortUnit.TimersIdle.placed {u : PortUnit} {st : PortState} (h : u.TimersIdle)
    (hst : st = .waiting ∨ st = .locked ∨ st = .vacant) : PortUnit.TimersPlaced { u with state := st } := by
  obtain ⟨hstep, hover, hretry, hclean⟩ := h
  rcases hst with rfl | rfl | rfl <;> simp [PortUnit.TimersPlaced, hstep, hover, hretry, hclean]

theorem PortUnit.timersIdle_of_rests {u : PortUnit} (h : u.TimersPlaced) (hrests : u.state.rests = true)
    (htripped : u.state ≠ .tripped) : u.TimersIdle := by
  obtain ⟨hstep, hover, hretry, hclean⟩ := h
  unfold PortUnit.TimersIdle
  cases hst : u.state <;> simp_all [PortState.rests, PortState.holdsGrant, PortState.closed]

/-- A port at rest that takes a state in which it still holds nothing and waits for nothing. -/
theorem PortUnit.Moves.of_rests {u w : PortUnit} (hu : u.state.rests = true) (hw : w.state = .locked ∨ w.state = .vacant)
    (hgrant : w.grant = u.grant) (hretry : w.retryDraw = u.retryDraw ∨ w.retryDraw = none)
    (htimers : u.TimersPlaced → w.TimersPlaced) : u.Moves w := by
  have hclassed : w.state.classed = false := by rcases hw with h | h <;> rw [h] <;> rfl
  refine ⟨?_, ?_, ?_, fun _ h => (by rw [hclassed] at h; cases h), hgrant, hretry, htimers⟩ <;>
    rcases hw with h | h <;> cases hst : u.state <;> simp_all [PortState.rests, PortState.holdsGrant, PortState.closed]

theorem State.modPort_ports_of_ne (f : PortUnit → PortUnit) (hq : q ≠ p) (s : State) :
    (s.modPort p f).ports.get q = s.ports.get q :=
  PerPort.get_set_of_ne _ _ _ _ hq

/-- R69, R84: a port at rest is classified, with or without a change of its unit. -/
theorem State.Runs.classify {f : PortUnit → PortUnit} {reason : Reason} (hreason : reason ≠ .increase)
    (hp : (s.ports.get p).state.rests = true) (hgrant : (f (s.ports.get p)).grant = (s.ports.get p).grant)
    (hretry : (f (s.ports.get p)).retryDraw = (s.ports.get p).retryDraw ∨ (f (s.ports.get p)).retryDraw = none)
    (htimers : (s.ports.get p).TimersPlaced → (f (s.ports.get p)).TimersIdle) :
    s.Runs ((s.modPort p f).classify p reason) := by
  have hunit : (s.modPort p f).ports.get p = f (s.ports.get p) := PerPort.get_set_self _ _ _
  have hsettle : ∀ (g : PortUnit → PortUnit) (st : PortState) (i : HubItem), (st = .locked ∨ st = .vacant) →
      (∀ u, (g u).grant = u.grant ∧ (g u).retryDraw = u.retryDraw ∧ (u.TimersIdle → (g u).TimersIdle)) →
      s.Runs ((s.modPort p f).settle p g st i) := by
    intro g st i hst hg
    obtain ⟨hgg, hgr, hgt⟩ := hg (f (s.ports.get p))
    refine .of_unit p ((State.settle_frame p g st i _).comp ((s.modPort_frame p f).weaken (by decide)) (by decide))
      (fun q hq => by rw [State.settle_ports, if_neg hq, State.modPort_ports_of_ne f hq]) fun _ => ?_
    rw [State.settle_ports, if_pos rfl, hunit]
    refine .of_rests hp hst (hgg.trans hgrant) ?_ fun h => (hgt (htimers h)).placed (hst.elim (.inr ∘ .inl) (.inr ∘ .inr))
    rcases hretry with h | h
    · exact .inl (hgr.trans h)
    · exact .inr (hgr.trans h)
  cases hreading : (s.modPort p f).reading p with
  | cls c fixed =>
    rw [State.classify_of_class hreading]
    have hport : ((s.modPort p f).enlist p reason ⟨c, fixed⟩).ports.get p =
        { f (s.ports.get p) with state := .waiting, eff := some ⟨c, fixed⟩ } := by
      rw [State.enlist_ports, if_pos rfl, hunit]
    refine .trans (.of_enlisted (p := p) hp ((State.enlist_frame p reason _ _).comp
      ((s.modPort_frame p f).weaken (by decide)) (by decide)) (fun q hq => by
        rw [State.enlist_ports, if_neg hq, State.modPort_ports_of_ne f hq])
      (State.enlist_admission p reason _ _) rfl hreason (by rw [hport]) (fun _ => by rw [hport]; rfl)
      (by rw [hport]; exact hgrant) (by rw [hport]; exact hretry)
      (fun h => by rw [hport]; exact (htimers h).placed (.inl rfl)) fun hT _ => ?_) (.evaluate _)
    obtain ⟨-, -, -, hcls, -⟩ := hT
    obtain ⟨hmax, -⟩ := hcls c
    exact (min_le_right _ _).trans hmax
  | short =>
    rw [State.classify_of_short hreading]
    exact hsettle _ _ _ (.inl rfl) fun _ => ⟨rfl, rfl, id⟩
  | _ =>
    rw [State.classify_of_open hreading]
    exact hsettle _ _ _ (.inr rfl) fun _ => ⟨rfl, rfl, id⟩

theorem State.modPort_self (p : Port) (s : State) : s.modPort p id = s := by
  have hset : s.ports.set p (s.ports.get p) = s.ports := by cases p <;> rfl
  rw [State.modPort, id, hset]

theorem State.Runs.resetPort (h : (s.ports.get p).state.resettable = true) : s.Runs (s.resetPort p) := by
  have hstate := (PortState.resettable_iff _).mp h
  refine .classify (by decide) ?_ rfl (.inr rfl) fun ht => ?_
  · rcases hstate with h | h | h <;> rw [h] <;> rfl
  · obtain ⟨hstep, hover, -, hclean⟩ := ht
    rcases hstate with h | h | h <;> simp_all [PortUnit.TimersIdle]

/-- R78: the end of a retry delay, but for the evaluation that follows. -/
def State.retryAlone (p : Port) (s : State) : State :=
  ((s.modPort p fun u => { u with retryTimer := none }).setPortState p .waiting).makeEntry p .retry
    ((s.ports.get p).retryDraw.getD 0)

theorem State.retryAlone_ports (p : Port) (s : State) (q : Port) :
    (s.retryAlone p).ports.get q =
      if q = p then { s.ports.get q with state := .waiting, retryTimer := none } else s.ports.get q := by
  have hstate := State.setPortState_port (s.modPort p fun u => { u with retryTimer := none }) p q .waiting
  refine hstate.trans ?_
  split
  · next hq => subst hq; simp
  · next hq => exact State.modPort_ports_of_ne _ hq s

theorem State.retryAlone_classOf (p : Port) (s : State) :
    ((s.modPort p fun u => { u with retryTimer := none }).setPortState p .waiting).classOf p = s.classOf p := by
  have htables := State.setPortState_frame p .waiting (s.modPort p fun u => { u with retryTimer := none }) .tables
    (by decide)
  refine State.classOf_congr (s := s) (htables.trans rfl) ?_
  rw [State.setPortState_port, if_pos rfl, State.modPort_ports, PerPort.get_set_self]

/-- R78: the RETRY entry joins at the tail, for the retry draw. -/
theorem State.retryAlone_admission (p : Port) (s : State) :
    (s.retryAlone p).admission = s.admission ++
      [⟨p, .retry, s.clampDraw p ((s.ports.get p).retryDraw.getD 0), s.waitTimer p, none⟩] := by
  have hclass := s.retryAlone_classOf p
  have hadmission : ((s.modPort p fun u => { u with retryTimer := none }).setPortState p .waiting).admission =
      s.admission := State.setPortState_frame p .waiting (s.modPort p _) .admission (by decide)
  simp only [State.retryAlone, State.makeEntry, State.addEntry, State.clampDraw, State.waitTimer, hclass, hadmission]

theorem State.retryAlone_frame (p : Port) (s : State) :
    (s.retryAlone p).SameBut [.admission, .ports, .events] s :=
  (State.makeEntry_frame p .retry _ _).comp ((State.setPortState_frame p .waiting _).comp
    ((s.modPort_frame p fun u => { u with retryTimer := none }).weaken (n := [.admission, .ports, .events]) (by decide))
    (by decide)) (by decide)

theorem State.Runs.retryAlone (htripped : (s.ports.get p).state = .tripped) : s.Runs (s.retryAlone p) := by
  have hunit : (s.retryAlone p).ports.get p = { s.ports.get p with state := .waiting, retryTimer := none } := by
    rw [State.retryAlone_ports, if_pos rfl]
  refine .of_enlisted (p := p) (by rw [htripped]; rfl) (s.retryAlone_frame p)
    (fun q hq => by rw [State.retryAlone_ports, if_neg hq]) (s.retryAlone_admission p) rfl (by simp) (by rw [hunit])
    (fun hs => ?_) (by rw [hunit]) (.inl (by rw [hunit])) (fun ht => ?_) fun hT hd => State.clampDraw_le hT ?_
  · rw [hunit]
    exact (hs.view p).eff (show (s.ports.get p).state.classed = true by rw [htripped]; rfl)
  · obtain ⟨hstep, hover, -, hclean⟩ := ht
    rw [hunit]
    simp_all [PortUnit.TimersPlaced]
  · cases hretry : (s.ports.get p).retryDraw with
    | none => exact Nat.zero_le _
    | some n => exact hd.retry n hretry

/-- R78: a retry takes its port to WAITING with a RETRY entry. -/
theorem State.Runs.retryDelayExpiry (p : Port) (s : State) : s.Runs (s.retryDelayExpiry p) := by
  unfold State.retryDelayExpiry
  split
  · next h => exact (State.Runs.retryAlone h.1).trans (.evaluate _)
  · exact .refl s

/-! #### Detection and port control (R64 to R67, R82, R83) -/

theorem State.Runs.detach (p : Port) (s : State) : s.Runs (s.detach p) := by
  rw [State.detach_eq]
  exact (State.Runs.detachAlone p s).trans (.evaluateIf _ _)

theorem State.Runs.disable (p : Port) (s : State) : s.Runs (s.disable p) := by
  by_cases h : (s.ports.get p).state = .disabled
  · rw [State.disable_of_disabled h]
    exact .refl s
  · rw [State.disable_of_other h]
    exact (State.Runs.disableAlone p s).trans (.evaluateIf _ _)

/-- A port of VACANT, DEBOUNCE and DISABLED passes between these states. -/
theorem State.Runs.setPortState_idle {st : PortState}
    (hp : (s.ports.get p).state = .vacant ∨ (s.ports.get p).state = .debounce ∨ (s.ports.get p).state = .disabled)
    (hst : st = .vacant ∨ st = .debounce) : s.Runs (s.setPortState p st) :=
  .setPortState p st s fun _ => by
    refine ⟨?_, ?_, ?_, fun _ h => ?_, rfl, .inl rfl, fun h => ?_⟩
    · rcases hp with h | h | h <;> rcases hst with rfl | rfl <;> rw [h] <;> rfl
    · rcases hp with h | h | h <;> rcases hst with rfl | rfl <;> simp [h]
    · rcases hp with h | h | h <;> rcases hst with rfl | rfl <;> simp [h]
    · rcases hst with rfl | rfl <;> cases h
    · rcases hp with hstate | hstate | hstate <;> rcases hst with rfl | rfl <;> simp_all [PortUnit.TimersPlaced]

theorem State.Runs.enable (p : Port) (s : State) : s.Runs (s.enable p) := by
  by_cases h : (s.ports.get p).state = .disabled
  · cases hstable : (s.ports.get p).stable with
    | attached =>
      rw [State.enable_of_attached h hstable]
      have hrests : (s.ports.get p).state.rests = true := by rw [h]; rfl
      have hclassify : s.Runs ((s.modPort p id).classify p .attach) :=
        .classify (by decide) hrests rfl (.inl rfl) fun ht => PortUnit.timersIdle_of_rests ht hrests (by rw [id, h]; decide)
      rwa [State.modPort_self] at hclassify
    | _ =>
      rw [State.enable_of_open h hstable]
      exact .setPortState_idle (.inr (.inr h)) (by split <;> simp)
  · rw [State.enable_of_other h]
    exact .refl s

/-- A change of a unit that no rule about its power speaks of. -/
theorem State.Runs.modPort_level (p : Port) (f : PortUnit → PortUnit) (s : State)
    (hf : ∀ u, (f u).state = u.state ∧ (f u).eff = u.eff ∧ (f u).grant = u.grant ∧ (f u).retryDraw = u.retryDraw ∧
      (u.TimersPlaced → (f u).TimersPlaced)) : s.Runs (s.modPort p f) :=
  .modPort p f s fun _ => by
    obtain ⟨hstate, heff, hgrant, hretry, htimers⟩ := hf (s.ports.get p)
    exact ⟨by rw [hstate], by rw [hstate], by rw [hstate], by rw [hstate, heff]; exact id, hgrant, .inl hretry, htimers⟩

/-- R65, R67: the end of a debounce, with its timer idle. -/
def State.acceptLevel (p : Port) (s : State) : State :=
  if (s.ports.get p).present = (s.ports.get p).stable then
    if (s.ports.get p).state = .debounce then s.setPortState p .vacant else s
  else
    match (s.ports.get p).present with
    | .attached =>
      if (s.ports.get p).state = .debounce ∨ (s.ports.get p).state = .vacant then
        (s.modPort p fun u => { u with stable := .attached }).classify p .attach
      else s.modPort p fun u => { u with stable := .attached }
    | .open =>
      if (s.ports.get p).state = .disabled then
        (s.modPort p fun u => { u with stable := .open }).raiseHub .portDetach
      else s.detach p

theorem State.debounceExpire_eq (p : Port) (s : State) :
    s.debounceExpire p = (s.modPort p fun u => { u with debounce := none }).acceptLevel p :=
  rfl

theorem State.Runs.acceptLevel (p : Port) (s : State) : s.Runs (s.acceptLevel p) := by
  unfold State.acceptLevel
  split
  · split
    · next h => exact .setPortState_idle (.inr (.inl h)) (.inl rfl)
    · exact .refl s
  · split
    · split
      · next h =>
        have hrests : (s.ports.get p).state.rests = true := by rcases h with h | h <;> rw [h] <;> rfl
        exact .classify (by decide) hrests rfl (.inl rfl) fun ht =>
          PortUnit.timersIdle_of_rests ht hrests (by rcases h with h | h <;> rw [h] <;> decide)
      · exact .modPort_level p _ s fun _ => ⟨rfl, rfl, rfl, rfl, id⟩
    · split
      · refine .trans (.modPort_level p _ s ?_) (.raiseHub _ _)
        exact fun _ => ⟨rfl, rfl, rfl, rfl, id⟩
      · exact .detach p s

theorem State.Runs.debounceExpire (p : Port) (s : State) : s.Runs (s.debounceExpire p) := by
  rw [State.debounceExpire_eq]
  refine .trans (.modPort_level p _ s ?_) (.acceptLevel p _)
  exact fun _ => ⟨rfl, rfl, rfl, rfl, id⟩

theorem State.Runs.debounceExpiry (p : Port) (s : State) : s.Runs (s.debounceExpiry p) := by
  unfold State.debounceExpiry
  split
  · exact .debounceExpire p s
  · exact .refl s

/-- R64: the level and the debounce timer that a scan leaves. -/
def State.scanLevel (p : Port) (s : State) : State :=
  s.modPort p fun u => { u with
    present := levelOf (s.ports.get p).sense
    debounce := (s.ports.get p).debounceAt (levelOf (s.ports.get p).sense) (s.tables.port.get p).debounce }

/-- R64: an edge to ATTACHED takes a VACANT port to DEBOUNCE. -/
def State.scanEdge (p : Port) (s : State) : State :=
  if (s.ports.get p).state = .vacant ∧ levelOf (s.ports.get p).sense ≠ (s.ports.get p).present ∧
      levelOf (s.ports.get p).sense = .attached then (s.scanLevel p).setPortState p .debounce
  else s.scanLevel p

theorem State.scanDetect_eq (p : Port) (s : State) :
    s.scanDetect p =
      if (s.ports.get p).debounceAt (levelOf (s.ports.get p).sense) (s.tables.port.get p).debounce = some 0 then
        (s.scanEdge p).debounceExpire p
      else s.scanEdge p :=
  rfl

theorem State.Runs.scanDetect (p : Port) (s : State) : s.Runs (s.scanDetect p) := by
  have hlevel : s.Runs (s.scanLevel p) := .modPort_level p _ s fun _ => ⟨rfl, rfl, rfl, rfl, id⟩
  have hedge : s.Runs (s.scanEdge p) := by
    unfold State.scanEdge
    split
    · next h =>
      refine hlevel.trans (.setPortState_idle (.inl ?_) (.inr rfl))
      rw [State.scanLevel, State.modPort_ports, PerPort.get_set_self]
      exact h.1
    · exact hlevel
  rw [State.scanDetect_eq]
  split
  · exact hedge.trans (.debounceExpire p _)
  · exact hedge

end Commands
end Sys2Proof.Machine

namespace Sys2Proof.Machine

open Sys2Proof

/-! ### The work of the budget unit and the selector -/

section Supply

variable {s t u : State} {p q : Port} {src : Source}

/-- What touches no port: the ports' rules stand, and what the timers of the supply side and the budget say is to be
shown. -/
theorem State.Works.of_supply (hframe : t.SameBut [.supply, .busVolts, .sel, .budget, .events, .counters] s)
    (htimers : s.TimersPlaced → (∀ src, (t.supply.get src).TimersPlaced) ∧ t.sel.TimersPlaced ∧
      (t.budget.shedTimer.isSome = true ↔ t.budget.overcommit = .timing))
    (hb : s.tables.InRange → s.budget.b ≤ 6000 → t.budget.b ≤ 6000) : s.Works t := by
  have hports : t.ports = s.ports := hframe .ports (by decide)
  have hgranted : t.granted = s.granted := hframe .granted (by decide)
  have hadmission : t.admission = s.admission := hframe .admission (by decide)
  have hlinks : t.links = s.links := hframe .links (by decide)
  have hview : ∀ p, t.view p = s.view p := fun p =>
    State.view_congr (by rw [hports]) (by rw [hgranted]) (State.entryOf_congr hadmission p) (State.linkState_congr hlinks _)
  have hsum : t.grantedSum = s.grantedSum := by rw [State.grantedSum, hgranted, hports, ← State.grantedSum]
  refine ⟨.of_frame hframe (by decide), fun hs => ⟨hgranted ▸ hs.granted, hadmission ▸ hs.entries, fun p => ?_⟩,
    fun _ hl => ?_, fun _ ht => ?_, fun hs hr h => ?_⟩
  · rw [hview]
    exact hs.view p
  · rw [State.linksFollow_iff] at hl ⊢
    exact fun p => by rw [hview]; exact hl p
  · obtain ⟨hsupply, hsel, hshed⟩ := htimers ht
    exact ⟨hsupply, hsel, hshed, by rw [hports]; exact ht.2.2.2⟩
  · obtain ⟨hbudget, hg, hdraws, hunits⟩ := h
    rw [State.Budgeted, hsum, hadmission, hports]
    exact ⟨hb hr hbudget, hg, hdraws, hunits⟩

/-- The same where the selector's place suits the ports. -/
theorem State.Runs.of_supply (hframe : t.SameBut [.supply, .busVolts, .sel, .budget, .events, .counters] s)
    (htimers : s.TimersPlaced → (∀ src, (t.supply.get src).TimersPlaced) ∧ t.sel.TimersPlaced ∧
      (t.budget.shedTimer.isSome = true ↔ t.budget.overcommit = .timing))
    (hb : s.tables.InRange → s.budget.b ≤ 6000 → t.budget.b ≤ 6000)
    (htarget : s.sel.state.target ≠ none → t.sel.state.target ≠ none)
    (hfeeds : t.sel.state.feeds = false → s.sel.state.feeds = false) : s.Runs t where
  toWorks := .of_supply hframe htimers hb
  paused _ hp p h := by
    rw [hframe .ports (by decide)] at h
    exact htarget (hp p h)
  off _ ho h := by
    have hmgmt : t.mgmt = s.mgmt := hframe .mgmt (by decide)
    have hgranted : t.granted = s.granted := hframe .granted (by decide)
    rw [hmgmt] at h
    rw [hgranted]
    exact ho (h.imp_left hfeeds)

/-- With nothing on the granted list no port is out of its place. -/
theorem State.Fed.placed_of_granted_nil (hs : s.Fed) (h : s.granted = []) : s.PausePlaced ∧ s.GrantPlaced := by
  refine ⟨fun p hp => ?_, fun _ => h⟩
  have hmem : p ∈ s.granted := (hs.listed p).mpr (by rw [hp]; rfl)
  rw [h] at hmem
  cases hmem

theorem State.Works.runs_of_granted_nil (h : s.Works t) (hgranted : s.Fed → t.granted = []) : s.Runs t where
  toWorks := h
  paused hs _ := ((h.fed hs).placed_of_granted_nil (hgranted hs)).1
  off hs _ := ((h.fed hs).placed_of_granted_nil (hgranted hs)).2

/-! #### The budget unit (R26 to R36) -/

theorem State.Runs.computeBudget (s : State) : s.Runs s.computeBudget := by
  cases hsource : s.sel.state.budgetSource with
  | none =>
    rw [State.computeBudget_of_no_source hsource]
    exact .refl s
  | some src =>
    cases hv : (s.supply.get src).average with
    | none =>
      have hskip : s.computeBudget = s := by simp only [State.computeBudget, hsource, hv]
      rw [hskip]
      exact .refl s
    | some v =>
      rw [State.computeBudget_of_average hsource hv]
      refine .of_supply ((s.modBudget_frame _).weaken (by decide)) (fun ht => ⟨ht.1, ht.2.1, ht.2.2.1⟩) (fun hT _ => ?_)
        id id
      exact (Budget.compute_b_le_c _ _ _ _ _).trans ((Budget.compute_c_le_cr _ _ _ _ _).trans
        (Budget.compute_cr_le _ _ _ _ (hT.1 src)))

theorem State.Runs.setOvercommit {o : Overcommit} (ho : o ≠ .timing) (s : State) : s.Runs (s.setOvercommit o) :=
  .of_supply ((s.setOvercommit_frame o).weaken (by decide))
    (fun ht => ⟨ht.1, ht.2.1, by simp [State.setOvercommit, ho]⟩) (fun _ => id) id id

theorem State.Runs.afterShedding (s : State) : s.Runs s.afterShedding := by
  unfold State.afterShedding
  split
  · exact .setOvercommit (by decide) s
  · exact (State.Runs.setOvercommit (by decide) s).trans (.raiseHub _ _)

theorem State.Runs.shedExpire (s : State) : s.Runs s.shedExpire := by
  have hshed := ((State.Runs.setOvercommit (o := .clear) (by decide) s).trans
    (.shedUntil State.overcommitCandidate 0 _)).trans (.afterShedding _)
  unfold State.shedExpire
  dsimp only
  split
  · exact hshed
  · exact hshed.trans (.evaluate _)

theorem State.Runs.startShedTimer (s : State) : s.Runs s.startShedTimer := by
  unfold State.startShedTimer
  split
  · exact .shedExpire s
  · exact .of_supply ((s.modBudget_frame _).weaken (by decide)) (fun ht => ⟨ht.1, ht.2.1, by simp⟩) (fun _ => id) id id

theorem State.Runs.judgeOvercommit (s : State) : s.Runs s.judgeOvercommit := by
  unfold State.judgeOvercommit
  split
  · exact .setOvercommit (by decide) s
  · split
    · exact .startShedTimer s
    · exact .refl s
    · split
      · exact .startShedTimer s
      · exact .refl s

theorem State.Runs.scanBudget (s : State) : s.Runs s.scanBudget := by
  unfold State.scanBudget
  dsimp only
  split
  · exact ((State.Runs.computeBudget s).trans (.judgeOvercommit _)).trans (.evaluate _)
  · exact (State.Runs.computeBudget s).trans (.evaluate _)

theorem State.Runs.shedAtEnd (s : State) : s.Runs s.shedAtEnd :=
  (State.Runs.shedUntil _ _ s).trans (.afterShedding _)

theorem State.Runs.shedDelayExpiry (s : State) : s.Runs s.shedDelayExpiry := by
  unfold State.shedDelayExpiry
  split
  · exact .shedExpire s
  · exact .refl s

/-! #### Changeover and auto-return (R13, R17) -/

/-- R13: the selector as a changeover begins. -/
theorem State.Runs.beginChangeover (target : Source) (s : State) : s.Runs (s.beginChangeover target) := by
  have hsel : s.Runs (s.modSel fun _ => { state := .changeover target, deadTimer := some (s.tables.selector.deadTime * 10),
                                          autoTimer := none, change := none }) :=
    .of_supply ((s.modSel_frame _).weaken (by decide))
      (fun ht => ⟨ht.1, ⟨by simp [SelState.target], by simp, by simp⟩, ht.2.2.1⟩) (fun _ => id)
      (fun _ => by simp [SelState.target]) fun h => by cases h
  exact hsel.trans ((State.Runs.setOvercommit (by decide) _).trans (.pauseAll (by simp [State.setOvercommit, SelState.target])))

/-- A change of the selector's timers that suits its state. -/
theorem State.Runs.modSel_timers (f : Selector → Selector) (s : State) (hstate : (f s.sel).state = s.sel.state)
    (htimers : s.sel.TimersPlaced → (f s.sel).TimersPlaced) : s.Runs (s.modSel f) :=
  .of_supply ((s.modSel_frame f).weaken (by decide)) (fun ht => ⟨ht.1, htimers ht.2.1, ht.2.2.1⟩) (fun _ => id)
    (by rw [State.modSel_sel, hstate]; exact id) (by rw [State.modSel_sel, hstate]; exact id)

theorem State.Runs.idleAuto (s : State) : s.Runs (s.modSel fun x => { x with autoTimer := none }) :=
  .modSel_timers _ s rfl fun h => ⟨h.1, by simp, h.2.2⟩

theorem State.autoTarget_active {q : Source} (h : s.autoTarget = some q) : s.sel.state.isActive = true := by
  unfold State.autoTarget at h
  split at h
  · next hsel _ => rw [hsel]; rfl
  · cases h

theorem State.Runs.judgeAuto (s : State) : s.Runs s.judgeAuto := by
  unfold State.judgeAuto
  split
  · exact .idleAuto s
  · next q hq =>
    split
    · exact .refl s
    · unfold State.startAuto
      split
      · exact .beginChangeover q s
      · exact .modSel_timers _ s rfl fun h => ⟨h.1, fun _ => State.autoTarget_active hq, h.2.2⟩

theorem State.Runs.autoReturnExpiry (s : State) : s.Runs s.autoReturnExpiry := by
  unfold State.autoReturnExpiry
  split
  · exact .beginChangeover _ s
  · exact .refl s

/-! #### Entering and leaving the source states (R10 to R12, R21) -/

theorem State.Runs.closeUsable (s : State) : s.Runs s.closeUsable := by
  have hset : ∀ q, (s.sel.state = .start ∨ s.sel.state = .noSource) → s.Runs (s.setSel (.active q)) := fun q hst =>
    .of_supply ((s.modSel_frame _).weaken (by decide))
      (fun ht => ⟨ht.1, by
        obtain ⟨hdead, hauto, hchange⟩ := ht.2.1
        rcases hst with h | h <;> simp_all [State.setSel, Selector.TimersPlaced, SelState.target, SelState.isActive],
        ht.2.2.1⟩) (fun _ => id)
      (fun h => by rcases hst with hst | hst <;> rw [hst] at h <;> exact absurd rfl h) fun h => by cases h
  unfold State.closeUsable
  split
  · next hst _ => exact hset _ (.inl hst)
  · next hst _ => exact (hset _ (.inr hst)).trans (.raiseHub _ _)
  · exact .refl s

theorem State.Flows.losePorts (l : List Port) (s : State) : s.Flows (s.losePorts l) :=
  .foldl (fun s p => .losePort p s) l s

theorem State.Runs.losePorts (l : List Port) {s : State} (h : s.Fed → l.Nodup ∧ ∀ p ∈ l, p ∈ s.granted) :
    s.Runs (s.losePorts l) := by
  induction l generalizing s with
  | nil => exact .refl s
  | cons p l ih =>
    refine (State.Runs.losePort fun hs => (h hs).2 p List.mem_cons_self).trans_of_fed (.losePorts l _) fun hs => ih ?_
    obtain ⟨hnodup, hmem⟩ := h hs
    obtain ⟨hp, hnodup⟩ := List.nodup_cons.mp hnodup
    refine fun _ => ⟨hnodup, fun q hq => ?_⟩
    rw [State.losePort_granted]
    exact List.mem_filter.mpr ⟨hmem q (List.mem_cons_of_mem p hq), decide_eq_true fun heq => hp (heq ▸ hq)⟩

theorem State.Runs.supplyLoss (s : State) : s.Runs s.supplyLoss :=
  .losePorts s.granted fun hs => ⟨hs.granted, fun _ => id⟩

theorem State.supplyLoss_granted (s : State) : s.supplyLoss.granted = [] := by
  rw [show s.supplyLoss = s.losePorts s.granted from rfl, State.losePorts_granted]
  simp

/-- R11, R12, R21, R25: a loss of supply leaves a selector with nothing running and no budget. -/
theorem State.Runs.loseSupply (st : SelState) (hst : st = .noSource ∨ st = .cut) (s : State) :
    s.Runs (s.loseSupply st) := by
  have hsel : s.Works (s.modSel fun _ => { state := st, deadTimer := none, autoTimer := none, change := none }) :=
    .of_supply ((s.modSel_frame _).weaken (by decide))
      (fun ht => ⟨ht.1, by rcases hst with rfl | rfl <;> simp [Selector.TimersPlaced, SelState.target], ht.2.2.1⟩)
      fun _ => id
  have hzero : State.Works (s.modSel fun _ => { state := st, deadTimer := none, autoTimer := none, change := none })
      (s.modSel fun _ => { state := st, deadTimer := none, autoTimer := none, change := none }).zeroBudget :=
    .of_supply ((State.zeroBudget_frame _).weaken (by decide))
      (fun ht => ⟨ht.1, ht.2.1, by simp [State.zeroBudget, Budget.reset]⟩) fun _ _ => Nat.zero_le _
  exact ((hsel.trans hzero).trans (State.Runs.supplyLoss _).toWorks).runs_of_granted_nil fun _ =>
    State.supplyLoss_granted _

theorem State.Runs.enterNoSource (s : State) : s.Runs s.enterNoSource :=
  (State.Runs.loseSupply .noSource (.inl rfl) s).trans (.raiseHub _ _)

theorem State.Runs.enterCut (s : State) : s.Runs s.enterCut :=
  (State.Runs.loseSupply .cut (.inr rfl) s).trans (.raiseHub _ _)

/-! #### Qualification (R3, R4) -/

/-- A change of one source's monitor that suits its qualification. -/
theorem State.Runs.modSource (src : Source) (f : SourceMonitor → SourceMonitor) (s : State)
    (hf : (s.supply.get src).TimersPlaced → (f (s.supply.get src)).TimersPlaced) : s.Runs (s.modSource src f) :=
  .of_supply ((s.modSource_frame src f).weaken (by decide))
    (fun ht => ⟨fun x => by
      rw [State.modSource_supply]
      by_cases hx : x = src
      · rw [hx, PerSource.get_set_self]
        exact hf (ht.1 src)
      · rw [PerSource.get_set_of_ne _ _ _ _ hx]
        exact ht.1 x, ht.2.1, ht.2.2.1⟩) (fun _ => id) id id

theorem State.Runs.becomeUsable (src : Source) (s : State) : s.Runs (s.becomeUsable src) :=
  ((State.Runs.modSource src _ s fun _ => ⟨by simp, fun _ => rfl⟩).trans (.closeUsable _)).trans (.judgeAuto _)

theorem State.Runs.activeFailed (src : Source) (s : State) : s.Runs (s.activeFailed src) := by
  unfold State.activeFailed
  split
  · exact .beginChangeover _ s
  · exact .enterNoSource s

/-- A counter of the hub rises. -/
theorem State.Runs.counters (c : Counters) (s : State) : s.Runs { s with counters := c } :=
  .of_frame (m := [.counters]) (by intro x hx; cases x <;> first | exact absurd (by decide) hx | rfl) (by decide)

/-- R4: a source has passed to UNUSABLE, counted and reported. -/
def State.failReported (src : Source) (s : State) : State :=
  let s1 := s.modSource src fun m => { m with qual := .unusable, failTimer := none }
  State.raiseHub .sourceFailed
    { s1 with counters := { s1.counters with sourceFailures := s1.counters.sourceFailures + 1 } }

theorem State.sourceFailed_eq (src : Source) (s : State) :
    s.sourceFailed src = (if (s.failReported src).sel.state = .active src then (s.failReported src).activeFailed src
      else s.failReported src).judgeAuto :=
  rfl

theorem State.Runs.failReported (husable : (s.supply.get src).qual = .usable) : s.Runs (s.failReported src) := by
  refine .trans (.modSource src _ s fun h => ?_) ((State.Runs.counters _ _).trans (.raiseHub .sourceFailed _))
  obtain ⟨hqualify, -⟩ := h
  refine ⟨?_, by simp⟩
  simp_all

theorem State.Runs.sourceFailed (husable : (s.supply.get src).qual = .usable) : s.Runs (s.sourceFailed src) := by
  rw [State.sourceFailed_eq]
  split
  · exact ((State.Runs.failReported husable).trans (.activeFailed src _)).trans (.judgeAuto _)
  · exact (State.Runs.failReported husable).trans (.judgeAuto _)

theorem State.Runs.scanSource (src : Source) (s : State) : s.Runs (s.scanSource src) := by
  unfold State.scanSource
  dsimp only
  split
  · exact .refl s
  · split
    · next hqual =>
      split
      · split
        · exact .becomeUsable src s
        · exact .modSource src _ s fun h => ⟨by simp, fun hf => by simpa [hqual] using h.2 hf⟩
      · exact .refl s
    · next hqual =>
      split
      · exact .refl s
      · exact .modSource src _ s fun h => ⟨by simp, fun hf => by simpa [hqual] using h.2 hf⟩
    · next hqual =>
      split
      · exact .sourceFailed hqual
      · split
        · split
          · exact .refl s
          · split
            · exact .sourceFailed hqual
            · exact .modSource src _ s fun h => ⟨h.1, fun _ => hqual⟩
        · exact .modSource src _ s fun h => ⟨h.1, by simp⟩

theorem State.Runs.qualifyTimerExpiry (src : Source) (s : State) : s.Runs (s.qualifyTimerExpiry src) := by
  unfold State.qualifyTimerExpiry
  split
  · exact .becomeUsable src s
  · exact .refl s

theorem State.Runs.failTimerExpiry (src : Source) (s : State) : s.Runs (s.failTimerExpiry src) := by
  unfold State.failTimerExpiry
  split
  · next h => exact .sourceFailed h.1
  · exact .refl s

/-! #### The end of a changeover (R15, R16) -/

theorem State.reramp_ports (p : Port) (s : State) (q : Port) :
    (s.reramp p).ports.get q =
      if q = p ∧ (s.ports.get p).state = .paused then (s.ports.get q).ramped (s.stepTime p) else s.ports.get q := by
  unfold State.reramp
  split
  · next h =>
    rw [State.postGrant_frame _ _ _ .ports (by decide), State.enterRamp_ports]
    simp [h]
  · next h => rw [if_neg fun hboth => h hboth.2]

theorem State.reramp_stepTime (p : Port) (s : State) (q : Port) : (s.reramp p).stepTime q = s.stepTime q := by
  have hclass : (s.reramp p).classOf q = s.classOf q := by
    refine State.classOf_congr (s.reramp_frame p .tables (by decide)) ?_
    rw [State.reramp_ports]
    split <;> rfl
  rw [State.stepTime, hclass, ← State.stepTime]

/-- R15: every paused port of a list ramps again, and every other port is as before. -/
theorem State.reramp_foldl_ports (l : List Port) (s : State) (q : Port) :
    (l.foldl (fun s p => s.reramp p) s).ports.get q =
      if q ∈ l ∧ (s.ports.get q).state = .paused then (s.ports.get q).ramped (s.stepTime q) else s.ports.get q := by
  induction l generalizing s with
  | nil => simp
  | cons p l ih =>
    rw [List.foldl_cons, ih, State.reramp_ports, State.reramp_stepTime]
    by_cases hq : q = p
    · subst hq
      by_cases hpaused : (s.ports.get q).state = .paused
      · simp [hpaused, PortUnit.ramped]
      · simp [hpaused]
    · simp [hq]

theorem State.rerampAll_ports (s : State) (q : Port) :
    s.rerampAll.ports.get q =
      if (s.ports.get q).state = .paused then (s.ports.get q).ramped (s.stepTime q) else s.ports.get q := by
  rw [State.rerampAll, State.reramp_foldl_ports]
  simp [Port.mem_all]

/-- R15: no port is left paused. -/
theorem State.rerampAll_state (s : State) (q : Port) : (s.rerampAll.ports.get q).state ≠ .paused := by
  rw [State.rerampAll_ports]
  split
  · simp [PortUnit.ramped]
  · assumption

/-- R15, R16: the selector enters a source, whatever the changeover's target was. -/
theorem State.Runs.arrive (src : Source) (s : State) : s.Runs (s.arrive src) := by
  have hsel : s.Works (s.modSel fun x => { x with state := .active src, deadTimer := none }) :=
    .of_supply ((s.modSel_frame _).weaken (by decide))
      (fun ht => ⟨ht.1, ⟨by simp [SelState.target], by simp [SelState.isActive], by simp [SelState.isActive]⟩, ht.2.2.1⟩)
      fun _ => id
  have hrest := ((State.Runs.computeBudget (s.modSel fun x => { x with state := .active src, deadTimer := none })).trans
    (.shedAtEnd _)).trans (.rerampAll _)
  refine ⟨hsel.trans hrest.toWorks, fun _ _ p hp => absurd hp (State.rerampAll_state _ p), fun hs ho => ?_⟩
  refine hrest.off (hsel.fed hs) fun h => ho (h.imp_left fun hfeeds => ?_)
  cases hfeeds

theorem State.Runs.changeoverDone (s : State) : s.Runs s.changeoverDone :=
  (State.Runs.counters _ s).trans (.raiseHub _ _)

theorem State.Runs.deadTimeExpiry (s : State) : s.Runs s.deadTimeExpiry := by
  unfold State.deadTimeExpiry
  split
  · next target _ _ _ =>
    split
    · exact (((State.Runs.arrive target s).trans (.changeoverDone _)).trans (.evaluate _)).trans (.judgeAuto _)
    · split
      · exact (((State.Runs.arrive target.other s).trans (.raiseHub _ _)).trans (.evaluate _)).trans (.judgeAuto _)
      · exact (State.Runs.enterNoSource s).trans (.raiseHub _ _)
  · exact .refl s

/-! #### The pending change and the emergency cut (R19 to R22) -/

theorem State.Runs.dropChange (s : State) : s.Runs (s.modSel fun x => { x with change := none }) :=
  .modSel_timers _ s rfl fun h => ⟨h.1, h.2.1, by simp⟩

theorem State.Runs.changeDue (c : PendingChange) (s : State) : s.Runs (s.changeDue c) := by
  have hdrop := State.Runs.dropChange s
  unfold State.changeDue
  dsimp only
  split
  · split
    · split
      · exact hdrop
      · exact hdrop.trans (.beginChangeover _ _)
    · exact hdrop
  · exact hdrop.trans (.raiseHub _ _)

theorem State.Runs.judgeChange (s : State) : s.Runs s.judgeChange := by
  unfold State.judgeChange
  split
  · exact .refl s
  · split
    · exact .refl s
    · exact .changeDue _ s

theorem State.Runs.leaveCut (s : State) : s.Runs s.leaveCut := by
  unfold State.leaveCut
  split
  · next hcut =>
    have hstart : s.Runs (s.setSel .start) := .of_supply ((s.modSel_frame _).weaken (by decide))
      (fun ht => ⟨ht.1, by
        obtain ⟨hdead, hauto, hchange⟩ := ht.2.1
        simp_all [State.setSel, Selector.TimersPlaced, SelState.target, SelState.isActive], ht.2.2.1⟩) (fun _ => id)
      (fun h => by rw [hcut] at h; exact absurd rfl h) fun _ => by rw [hcut]; rfl
    exact (hstart.trans (.closeUsable _)).trans (.judgeAuto _)
  · exact .refl s

/-! #### The scan (R1, R2) -/

theorem State.Runs.storeSamples (x : Samples) (s : State) : s.Runs (s.storeSamples x) := by
  let y : State := { s with
    supply := ⟨s.supply.line.push (sampled 4095 x.line), s.supply.batt.push (sampled 4095 x.batt)⟩
    busVolts := sampled 4095 x.bus }
  have hsupply : y.SameBut [.supply, .busVolts] s := by
    intro x hx; cases x <;> first | exact absurd (by decide) hx | rfl
  have hports : (s.storeSamples x).SameBut [.ports] y := by
    intro x hx; cases x <;> first | exact absurd (by decide) hx | rfl
  refine .trans (.of_supply (hsupply.weaken (by decide)) (fun ht => ⟨fun src => ?_, ht.2.1, ht.2.2.1⟩) (fun _ => id) id id)
    (.of_units (hports.weaken (by decide)) fun p _ => ?_)
  · cases src
    · exact ht.1 .line
    · exact ht.1 .batt
  · rw [State.storeSamples, PerPort.get_ofFn]
    exact ⟨rfl, .rfl, .rfl, id, rfl, .inl rfl, id⟩

theorem State.Runs.scanPart (x : ScanPart) (s : State) : s.Runs (s.scanPart x) := by
  cases x with
  | source src => exact .scanSource src s
  | budget => exact .scanBudget s
  | detect p => exact .scanDetect p s
  | judge p => exact .scanJudge p s

theorem State.Runs.scan (x : Samples) (order : List ScanPart) (s : State) : s.Runs (s.scan x order) :=
  (State.Runs.storeSamples x s).trans (.foldl (fun s part => .scanPart part s) _ _)

end Supply
end Sys2Proof.Machine

namespace Sys2Proof.Machine

open Sys2Proof

/-! ### What every event keeps -/

/-- From the first state to the second every invariant of the hub is kept, and the queue of waiting commands and the
clock stand. -/
structure State.Keeps (s t : State) : Prop where
  pending : t.pending = s.pending
  now : t.now = s.now
  bounded : s.Bounded → t.Bounded
  refs : s.RefsCounted → t.RefsCounted
  pool : s.PoolJudged → t.PoolJudged
  ranges : s.tables.InRange → t.tables.InRange
  period : s.tables.InRange → s.PeriodInRange → t.PeriodInRange
  powered : s.Powered → t.Powered
  links : s.Powered → s.LinksFollow → t.LinksFollow
  timers : s.Powered → s.TimersPlaced → t.TimersPlaced
  budgeted : s.Powered → s.tables.InRange → s.Budgeted → t.Budgeted

/-- The parts that only messages and frames touch, and those that no invariant speaks of. -/
def Part.traffic : List Part :=
  [.draws, .resetPin, .ecutPin, .busVolts, .grantSlots, .links, .queues, .records, .held, .phases, .timing, .mgmt,
    .events, .counters]

section Keeps

variable {s t u : State} {d : Dest}

theorem State.Keeps.refl (s : State) : s.Keeps s :=
  ⟨rfl, rfl, id, id, id, id, fun _ => id, id, fun _ => id, fun _ => id, fun _ _ => id⟩

theorem State.Keeps.trans (h : s.Keeps t) (k : t.Keeps u) : s.Keeps u where
  pending := k.pending.trans h.pending
  now := k.now.trans h.now
  bounded := k.bounded ∘ h.bounded
  refs := k.refs ∘ h.refs
  pool := k.pool ∘ h.pool
  ranges := k.ranges ∘ h.ranges
  period hr hp := k.period (h.ranges hr) (h.period hr hp)
  powered := k.powered ∘ h.powered
  links hp hl := k.links (h.powered hp) (h.links hp hl)
  timers hp ht := k.timers (h.powered hp) (h.timers hp ht)
  budgeted hp hr hb := k.budgeted (h.powered hp) (h.ranges hr) (h.budgeted hp hr hb)

theorem State.Keeps.foldl {α : Type} {f : State → α → State} (h : ∀ (s : State) a, s.Keeps (f s a)) (l : List α)
    (s : State) : s.Keeps (l.foldl f s) := by
  induction l generalizing s with
  | nil => exact .refl s
  | cons a l ih => exact (h s a).trans (ih _)

/-- What the power side keeps. -/
theorem State.Runs.keeps (h : s.Runs t) : s.Keeps t where
  pending := h.flows.frame .pending (by decide)
  now := h.flows.frame .now (by decide)
  bounded := h.flows.bounded
  refs := h.flows.refs
  pool := h.flows.pool
  ranges hr := by
    rw [h.flows.frame .tables (by decide)]
    exact hr
  period _ hp := by
    rw [State.PeriodInRange, h.flows.frame .timing (by decide)]
    exact hp
  powered hp := by
    obtain ⟨hfed, hpaused, hoff⟩ := State.powered_iff.mp hp
    exact State.powered_iff.mpr ⟨h.fed hfed, h.paused hfed hpaused, h.off hfed hoff⟩
  links hp := h.links (State.powered_iff.mp hp).1
  timers hp := h.timers (State.powered_iff.mp hp).1
  budgeted hp := h.budgeted (State.powered_iff.mp hp).1

/-- Traffic and tables: what the power side has to say stands. -/
theorem State.Keeps.of_tables (hframe : t.SameBut (.tables :: Part.traffic) s)
    (hlinks : ∀ p, t.linkState (.port p) = .down ↔ s.linkState (.port p) = .down)
    (hgate : s.mgmt.operational = true → t.mgmt.operational = true) (hbounded : s.Bounded → t.Bounded)
    (hrefs : s.RefsCounted → t.RefsCounted) (hpool : s.PoolJudged → t.PoolJudged)
    (hranges : s.tables.InRange → t.tables.InRange)
    (hperiod : s.tables.InRange → s.PeriodInRange → t.PeriodInRange) : s.Keeps t := by
  have hports : t.ports = s.ports := hframe .ports (by decide)
  have hgranted : t.granted = s.granted := hframe .granted (by decide)
  have hadmission : t.admission = s.admission := hframe .admission (by decide)
  have hsel : t.sel = s.sel := hframe .sel (by decide)
  have hbudget : t.budget = s.budget := hframe .budget (by decide)
  have hsupply : t.supply = s.supply := hframe .supply (by decide)
  refine ⟨hframe .pending (by decide), hframe .now (by decide), hbounded, hrefs, hpool, hranges, hperiod,
    fun h => ?_, fun _ h p => ?_, fun _ h => ?_, fun _ _ h => ?_⟩
  · obtain ⟨hnodup, hentries, hlisted, hgrant, hfits, heff, hpaused, hoff⟩ := h
    simp only [State.Powered, State.EntryFits, hports, hgranted, hadmission, hsel]
    refine ⟨hnodup, hentries, hlisted, hgrant, hfits, heff, hpaused, fun hnow => hoff (hnow.imp_right fun hclosed => ?_)⟩
    exact Bool.eq_false_iff.mpr fun hopen => by rw [hgate hopen] at hclosed; cases hclosed
  · rw [hlinks, hports]
    exact h p
  · simp only [State.TimersPlaced, hsupply, hsel, hbudget, hports]
    exact h
  · simp only [State.Budgeted, State.grantedSum, hbudget, hgranted, hadmission, hports]
    exact h

/-- Traffic: what the power side and the tables have to say stands. -/
theorem State.Keeps.of_traffic (hframe : t.SameBut Part.traffic s)
    (hlinks : ∀ p, t.linkState (.port p) = .down ↔ s.linkState (.port p) = .down)
    (hgate : s.mgmt.operational = true → t.mgmt.operational = true) (hbounded : s.Bounded → t.Bounded)
    (hrefs : s.RefsCounted → t.RefsCounted) (hpool : s.PoolJudged → t.PoolJudged)
    (hperiod : s.tables.InRange → s.PeriodInRange → t.PeriodInRange) : s.Keeps t :=
  have htables : t.tables = s.tables := hframe .tables (by decide)
  .of_tables (hframe.weaken (by decide)) hlinks hgate hbounded hrefs hpool (fun h => htables ▸ h) hperiod

/-- A change of the tables that leaves the hold level. -/
theorem State.Keeps.modTables (f : Tables → Tables) (s : State) (hf : s.tables.InRange → (f s.tables).InRange)
    (hlevel : (f s.tables).holdLevel = s.tables.holdLevel) : s.Keeps (s.modTables f) :=
  .of_tables ((s.modTables_frame f).weaken (by decide)) (fun _ => .rfl) id
    (fun h => h.congr rfl rfl (fun _ => .inr rfl) rfl) (fun h => State.RefsCounted.congr h rfl fun _ => rfl)
    (fun h => by
      obtain ⟨hlow, hhigh, hclear⟩ := h
      rw [State.PoolJudged, State.modTables_tables, hlevel]
      exact ⟨hlow, hhigh, hclear⟩) hf fun _ => id

/-- A change of the slots, the held state, the events, the counters and the free values. -/
theorem State.Keeps.of_flow (hframe : t.SameBut [.draws, .grantSlots, .links, .held, .events, .counters] s)
    (hlines : t.SameLines s) (hpool : s.PoolJudged → t.PoolJudged) : s.Keeps t :=
  have hmgmt : t.mgmt = s.mgmt := hframe .mgmt (by decide)
  have hrecords : t.records = s.records := hframe .records (by decide)
  have hqueues : t.queues = s.queues := hframe .queues (by decide)
  .of_traffic (hframe.weaken (by decide)) (fun p => by rw [(hlines _).2]) (by rw [hmgmt]; exact id)
    (fun h => h.congr hmgmt (hframe .phases (by decide)) (fun d => .inr (by rw [hqueues])) (by rw [hrecords]))
    (fun h => State.RefsCounted.congr h hrecords (State.refsAt_of_lines hlines hqueues)) hpool
    fun _ h => by rw [State.PeriodInRange, hframe .timing (by decide)]; exact h

/-- A change of the slots, the events, the counters and the free values. -/
theorem State.Keeps.of_slots (hframe : t.SameBut [.draws, .grantSlots, .links, .events, .counters] s)
    (hlines : t.SameLines s) : s.Keeps t :=
  .of_flow (hframe.weaken (by decide)) hlines
    fun h => h.congr (hframe .tables (by decide)) (hframe .held (by decide)) (hframe .records (by decide))

/-- What no invariant speaks of. -/
theorem State.Keeps.of_frame {m : List Part} (h : t.SameBut m s)
    (hm : ∀ x ∈ m, x ∈ [Part.draws, .grantSlots, .events, .counters]) : s.Keeps t :=
  .of_slots (h.weaken fun x hx => (by decide : ∀ y ∈ [Part.draws, .grantSlots, .events, .counters],
    y ∈ [Part.draws, .grantSlots, .links, .events, .counters]) x (hm x hx))
    (.of_links (h .links fun hx => absurd (hm _ hx) (by decide)))

theorem State.Keeps.countEndpoint (d : Dest) (f : EndpointCounters → EndpointCounters) (s : State) :
    s.Keeps (s.countEndpoint d f) :=
  .of_frame (s.countEndpoint_frame d f) (by decide)

theorem State.Keeps.raiseHub (i : HubItem) (s : State) : s.Keeps (s.raiseHub i) :=
  .of_frame (s.raiseHub_frame i) (by decide)

theorem State.Keeps.counters (c : Counters) (s : State) : s.Keeps { s with counters := c } :=
  .of_frame (m := [.counters]) (by intro x hx; cases x <;> first | exact absurd (by decide) hx | rfl) (by decide)

/-- A change of the timing unit that keeps the period in use in its range. -/
theorem State.Keeps.modTiming (f : Timing → Timing) (s : State)
    (hf : s.tables.InRange → s.PeriodInRange → 10000 ≤ (f s.timing).period ∧ (f s.timing).period ≤ 50000) :
    s.Keeps (s.modTiming f) :=
  have hframe := s.modTiming_frame f
  .of_traffic (hframe.weaken (by decide)) (fun _ => .rfl) id (fun h => h.congr rfl rfl (fun _ => .inr rfl) rfl)
    (fun h => State.RefsCounted.congr h rfl fun _ => rfl)
    (fun h => h.congr rfl rfl rfl) hf

theorem State.Keeps.modTiming_period (f : Timing → Timing) (s : State) (hf : (f s.timing).period = s.timing.period) :
    s.Keeps (s.modTiming f) :=
  .modTiming f s fun _ h => by rw [hf]; exact h

/-- A change of the management unit: the gate does not close, and its queues keep their bounds. -/
theorem State.Keeps.modMgmt (f : Mgmt → Mgmt) (s : State)
    (hgate : s.mgmt.operational = true → (f s.mgmt).operational = true)
    (hbounds : s.Bounded → (f s.mgmt).input.length ≤ 4 ∧ (f s.mgmt).lane.length ≤ 4 ∧
      (f s.mgmt).lane.count .notice ≤ 1) : s.Keeps (s.modMgmt f) := by
  have hframe := s.modMgmt_frame f
  refine .of_traffic (hframe.weaken (by decide)) (fun _ => .rfl) hgate (fun h => ?_)
    (fun h => State.RefsCounted.congr h rfl fun _ => rfl)
    (fun h => h.congr rfl rfl rfl) fun _ => id
  obtain ⟨hinput, hlane, hnotice⟩ := hbounds h
  exact ⟨hinput, hlane, hnotice, h.2.2.2⟩

/-- A change of one destination's phase that keeps its mark count in its bound. -/
theorem State.Keeps.modPhase (d : Dest) (f : Phase → Phase) (s : State)
    (hf : (s.phases.get d).markCount ≤ 15 → (f (s.phases.get d)).markCount ≤ 15) : s.Keeps (s.modPhase d f) := by
  refine .of_traffic ((s.modPhase_frame d f).weaken (by decide)) (fun _ => .rfl) id (fun h => ?_)
    (fun h => State.RefsCounted.congr h rfl fun _ => rfl)
    (fun h => h.congr rfl rfl rfl) fun _ => id
  obtain ⟨hinput, hlane, hnotice, hqueues, hmarks, hlength⟩ := h
  refine ⟨hinput, hlane, hnotice, hqueues, fun x => ?_, hlength⟩
  rw [State.modPhase_phases, PerDest.get_set]
  split
  · next hx => exact hf (hmarks d)
  · exact hmarks x

/-- A reference moves at one destination, between its queues and its transmitter, and nothing else does. -/
theorem State.Keeps.of_moved (d : Dest) (hframe : t.SameBut [.grantSlots, .links, .queues, .mgmt, .events, .counters] s)
    (hstate : ∀ x, t.linkState x = s.linkState x) (hothers : ∀ x, x ≠ d → t.refsAt x = s.refsAt x)
    (hcount : ∀ i, (t.refsAt d).count i = (s.refsAt d).count i)
    (hqueues : ∀ x, (s.queues.get x).Bounded → (t.queues.get x).Bounded)
    (hgate : t.mgmt.operational = s.mgmt.operational) (hinput : t.mgmt.input = s.mgmt.input)
    (hlane : t.mgmt.lane.Sublist s.mgmt.lane) : s.Keeps t := by
  have hrecords : t.records = s.records := hframe .records (by decide)
  refine .of_traffic (hframe.weaken (by decide)) (fun p => by rw [hstate]) (by rw [hgate]; exact id) (fun h => ?_)
    (fun h => State.refsCounted_iff_owed.mpr ((State.refsCounted_iff_owed.mp h).move_at hrecords hothers
      fun i => by rw [hcount])) (fun h => h.congr (hframe .tables (by decide)) (hframe .held (by decide)) hrecords)
    fun _ h => by rw [State.PeriodInRange, hframe .timing (by decide)]; exact h
  obtain ⟨hin, hlen, hnotice, hq, hmarks, hlength⟩ := h
  refine ⟨hinput ▸ hin, hlane.length_le.trans hlen, (hlane.count_le _).trans hnotice, fun x => hqueues x (hq x), ?_,
    by rw [hrecords]; exact hlength⟩
  rw [hframe .phases (by decide)]
  exact hmarks

/-! ### Transmit selection (R99) -/

theorem State.modLink_linkState (d : Dest) (f : Link → Link) (hf : ∀ l, (f l).state = l.state) (s : State) (x : Dest) :
    (s.modLink d f).linkState x = s.linkState x := by
  simp only [State.linkState, State.modLink_links, PerDest.get_set]
  split
  · next h => subst h; exact hf _
  · rfl

theorem State.transmit_linkState (d : Dest) (k : TxKind) (bytes : List Byte) (s : State) (x : Dest) :
    (s.transmit d k bytes).linkState x = s.linkState x := by
  refine State.modLink_linkState d _ ?_ s x
  exact fun _ => rfl

/-- R99: a message of the link's own slots, or of the lane, begins: it refers to no record. -/
theorem State.Keeps.transmit_own {k : TxKind} {bytes : List Byte} (hidle : (s.links.get d).tx = none)
    (hframe : t.SameBut [.grantSlots, .links, .mgmt] s) (hlines : t.SameLines s) (hrefs : Tx.refs ⟨k, bytes⟩ = [])
    (hgate : t.mgmt.operational = s.mgmt.operational) (hinput : t.mgmt.input = s.mgmt.input)
    (hlane : t.mgmt.lane.Sublist s.mgmt.lane) : s.Keeps (t.transmit d k bytes) := by
  have hqueues : t.queues = s.queues := hframe .queues (by decide)
  have hat : ∀ x, (t.transmit d k bytes).refsAt x = s.refsAt x := fun x => by
    by_cases hx : x = d
    · subst hx
      simp only [State.refsAt, State.transmit, State.modLink_links, State.modLink_queues, PerDest.get_set_self, hqueues,
        hidle, Option.map_some, Option.getD_some, hrefs, Option.map_none, Option.getD_none]
    · have hother : (t.transmit d k bytes).links.get x = t.links.get x := PerDest.get_set_of_ne _ _ _ _ hx
      rw [State.refsAt, State.refsAt, hother, (hlines x).1, State.transmit, State.modLink_queues, hqueues]
  refine .of_moved d ((State.modLink_frame d _ t).comp (hframe.weaken (by decide)) (by decide)) (fun x => ?_)
    (fun x _ => hat x) (fun i => by rw [hat]) (fun x h => ?_) hgate hinput hlane
  · rw [State.transmit_linkState, (hlines x).2]
  · rw [State.transmit, State.modLink_queues, hqueues]
    exact h

/-- R99: a DATA message leaves the front of a queue and begins: its reference passes to the transmitter. -/
theorem State.Keeps.transmit_data {e : QEntry} {urgent : Bool} {f : Queues → Queues}
    (hidle : (s.links.get d).tx = none)
    (hcount : ∀ i, ((f (s.queues.get d)).urgent.map (·.slot)).count i + ((f (s.queues.get d)).bulk.map (·.slot)).count i +
      [e.slot].count i = ((s.queues.get d).urgent.map (·.slot)).count i + ((s.queues.get d).bulk.map (·.slot)).count i)
    (htimed : (f (s.queues.get d)).timed = (s.queues.get d).timed)
    (hbounded : (s.queues.get d).Bounded → (f (s.queues.get d)).Bounded) :
    s.Keeps ((s.modQueues d f).transmitData d e urgent) := by
  refine .of_moved (s := s) d ((State.transmitData_frame d e urgent (s.modQueues d f)).comp
    ((s.modQueues_frame d f).weaken (by decide)) (by decide)) (fun x => ?_) (fun x hx => ?_) (fun i => ?_) (fun x h => ?_)
    rfl rfl (.refl _)
  · exact State.transmit_linkState d _ _ (s.modQueues d f) x
  · simp only [State.refsAt, State.transmitData, State.transmit, State.modLink_links, State.modLink_queues,
      State.modQueues_links, State.modQueues_queues, PerDest.get_set_of_ne _ _ _ _ hx]
  · have := hcount i
    simp only [State.refsAt, State.transmitData, State.transmit, State.modLink_links, State.modLink_queues,
      State.modQueues_queues, PerDest.get_set_self, hidle, Option.map_some, Option.getD_some, Tx.refs, htimed,
      Option.map_none, Option.getD_none, List.count_append, List.count_nil]
    omega
  · have hq : ((s.modQueues d f).transmitData d e urgent).queues.get x =
        if x = d then f (s.queues.get d) else s.queues.get x := PerDest.get_set _ _ _ _
    rw [hq]
    split
    · next hx => subst hx; exact hbounded h
    · exact h

theorem State.Keeps.begin (hidle : (s.links.get d).tx = none) (src : TxSource) : s.Keeps (s.begin d src) := by
  have hslot : ∀ f : Link → Link, (∀ l, (f l).tx = l.tx ∧ (f l).state = l.state) → ∀ k bytes, Tx.refs ⟨k, bytes⟩ = [] →
      s.Keeps ((s.modLink d f).transmit d k bytes) := fun f hf k bytes hrefs =>
    .transmit_own hidle ((s.modLink_frame d f).weaken (by decide)) (State.modLink_lines d f hf s) hrefs rfl rfl (.refl _)
  cases src with
  | flow =>
    unfold State.begin
    dsimp only
    split
    · exact .refl s
    · refine hslot _ ?_ _ _ rfl
      exact fun _ => ⟨rfl, rfl⟩
  | mark =>
    unfold State.begin
    dsimp only
    split
    · exact .refl s
    · refine hslot _ ?_ _ _ rfl
      exact fun _ => ⟨rfl, rfl⟩
  | grant =>
    unfold State.begin
    dsimp only
    split
    · exact .refl s
    · split
      · exact .refl s
      · exact .transmit_own hidle ((s.modGrantSlot_frame _ _).weaken (by decide)) (.of_links rfl) rfl rfl rfl (.refl _)
  | lane =>
    have hlane : ∀ (m : LaneMsg) rest, s.mgmt.lane = m :: rest → ∀ k bytes, Tx.refs ⟨k, bytes⟩ = [] →
        s.Keeps ((s.modMgmt fun x => { x with lane := rest }).transmit d k bytes) := fun m rest h k bytes hrefs =>
      .transmit_own hidle ((s.modMgmt_frame _).weaken (by decide)) (.of_links rfl) hrefs rfl rfl
        (by rw [h]; exact List.sublist_cons_self m rest)
    unfold State.begin
    dsimp only
    split
    · exact .refl s
    · next h => exact hlane _ _ h _ _ rfl
    · next h => exact hlane _ _ h _ _ rfl
  | urgent =>
    unfold State.begin
    dsimp only
    split
    · exact .refl s
    · next e rest h =>
      refine .transmit_data hidle (fun i => ?_) rfl fun hb => ⟨?_, hb.2⟩
      · simp only [h, List.map_cons, List.count_cons, List.count_nil]
        omega
      · have := hb.1
        rw [h] at this
        exact (Nat.le_succ _).trans this
  | bulk =>
    unfold State.begin
    dsimp only
    split
    · exact .refl s
    · next e rest h =>
      refine .transmit_data hidle (fun i => ?_) rfl fun hb => ⟨hb.1, ?_, hb.2.2⟩
      · simp only [h, List.map_cons, List.count_cons, List.count_nil]
        omega
      · have := hb.2.1
        rw [h] at this
        exact (Nat.le_succ _).trans this

theorem State.Keeps.select (d : Dest) (s : State) : s.Keeps (s.select d) := by
  unfold State.select
  split
  · next hidle _ => exact .begin hidle _
  · exact .refl s

theorem State.Keeps.selectAll (s : State) : s.Keeps s.selectAll :=
  .foldl (fun s d => .select d s) _ s

end Keeps
end Sys2Proof.Machine

namespace Sys2Proof.Machine

open Sys2Proof

section Traffic

variable {s t : State} {d : Dest} {p : Port}

theorem State.Bounded.queues (h : s.Bounded) (d : Dest) : (s.queues.get d).Bounded := by
  obtain ⟨-, -, -, hqueues, -⟩ := h
  exact hqueues d

/-! ### References that are released (R100, R118) -/

theorem State.releaseRefs_bounded (h : s.Bounded) (is : List Nat) : (s.releaseRefs is).Bounded :=
  have hframe := s.releaseRefs_frame is
  h.congr (hframe .mgmt (by decide)) (hframe .phases (by decide)) (fun d => .inr (by rw [hframe .queues (by decide)]))
    (s.releaseRefs_records_length is)

/-- References that no longer stand are released. -/
theorem State.Keeps.of_release (is : List Nat) (hframe : t.SameBut [.grantSlots, .links, .queues, .events, .counters] s)
    (hlinks : ∀ p, t.linkState (.port p) = .down ↔ s.linkState (.port p) = .down)
    (howed : s.Owed [] none → t.Owed (is ++ []) none)
    (hqueues : ∀ x, (s.queues.get x).Bounded → (t.queues.get x).Bounded) : s.Keeps (t.releaseRefs is) := by
  have hall : (t.releaseRefs is).SameBut [.grantSlots, .links, .queues, .records, .held, .events, .counters] s :=
    (t.releaseRefs_frame is).comp (hframe.weaken (by decide)) (by decide)
  refine .of_traffic (hall.weaken (by decide)) (fun p => by rw [(State.releaseRefs_lines is t _).2, hlinks])
    (by rw [hall .mgmt (by decide)]; exact id) (fun h => ?_) (fun h => ?_) (fun h => ?_) fun _ h => ?_
  · exact State.releaseRefs_bounded (h.congr (hframe .mgmt (by decide)) (hframe .phases (by decide))
      (fun x => .inl (hqueues x (h.queues x))) (by rw [hframe .records (by decide)])) is
  · exact State.refsCounted_iff_owed.mpr (State.Owed.releaseRefs is (howed (State.refsCounted_iff_owed.mp h)))
  · exact State.PoolJudged.releaseRefs (h.congr (hframe .tables (by decide)) (hframe .held (by decide))
      (hframe .records (by decide))) is
  · rw [State.PeriodInRange, hall .timing (by decide)]
    exact h

/-- R100: a transmitter becomes idle, and the reference that its message held is released. -/
theorem State.Keeps.endTransmission {x : Tx} (htx : (s.links.get d).tx = some x) :
    s.Keeps (((s.modLink d fun l => { l with tx := none }).countEndpoint d
      EndpointCounters.addTransmitted).releaseRefs x.refs) := by
  refine .of_release _ ((State.countEndpoint_frame d _ _).comp ((s.modLink_frame d _).weaken (by decide)) (by decide))
    (fun p => ?_) (fun h => h.move_at (d := d) rfl (fun y hy => ?_) fun i => ?_) fun _ => id
  · have hstate := State.modLink_linkState d (fun l => { l with tx := none }) (fun _ => rfl) s (.port p)
    exact iff_of_eq (congrArg (· = LinkState.down) hstate)
  · have hother : (s.modLink d fun l => { l with tx := none }).links.get y = s.links.get y :=
      PerDest.get_set_of_ne _ _ _ _ hy
    simp only [State.refsAt, State.countEndpoint, hother, State.modLink_queues]
  · have hself : ((s.modLink d fun l => { l with tx := none }).links.get d).tx = none :=
      congrArg Link.tx (PerDest.get_set_self _ _ _)
    simp only [State.refsAt, State.countEndpoint, hself, State.modLink_queues, htx, Option.map_none, Option.map_some,
      Option.getD_none, Option.getD_some, List.count_append, List.count_nil]
    omega

/-! ### Resets (R8, R151) -/

theorem SourceRecord.reset_inRange : SourceRecord.reset.InRange := by unfold SourceRecord.InRange; decide

theorem ClassRecord.reset_inRange : ClassRecord.reset.InRange := by unfold ClassRecord.InRange; decide

theorem PortRecord.reset_inRange : PortRecord.reset.InRange := ⟨by simp [PortRecord.reset], by decide⟩

theorem RouteEntry.reset_inRange : RouteEntry.reset.InRange := ⟨by decide, by decide, fun _ => rfl⟩

theorem TimingRecord.reset_inRange : TimingRecord.reset.InRange :=
  ⟨by decide, by decide, by decide, by decide, by decide, by decide, by decide, fun d => by
    rw [show TimingRecord.reset.markInterval = PerDest.rep 0 from rfl, PerDest.get_rep]
    decide⟩

theorem EventSetting.reset_inRange : EventSetting.reset.InRange := by unfold EventSetting.InRange; decide

theorem Tables.reset_inRange : Tables.reset.InRange := by
  refine ⟨fun src => ?_, ⟨by decide, by decide, by decide⟩, ⟨by decide, by decide, by decide, by decide, by decide⟩,
    fun c => ?_, fun p => ?_, List.length_replicate, fun e he => ?_, TimingRecord.reset_inRange, by decide, by decide,
    fun i => ?_, EventSetting.reset_inRange⟩
  · exact (PerSource.get_rep SourceRecord.reset src).symm ▸ SourceRecord.reset_inRange
  · exact (PerClass.get_rep ClassRecord.reset c).symm ▸ ClassRecord.reset_inRange
  · exact (PerPort.get_rep PortRecord.reset p).symm ▸ PortRecord.reset_inRange
  · cases List.eq_of_mem_replicate he
    exact RouteEntry.reset_inRange
  · exact (PerHub.get_rep EventSetting.reset i).symm ▸ EventSetting.reset_inRange

section AfterReset

variable (pending : List Instr) (now draws : Nat) (resetPin ecutPin : Bool)

@[simp] theorem State.afterReset_ports (p : Port) :
    (State.afterReset pending now draws resetPin ecutPin).ports.get p = PortUnit.reset :=
  PerPort.get_rep _ p

@[simp] theorem State.afterReset_links (d : Dest) :
    (State.afterReset pending now draws resetPin ecutPin).links.get d = Link.reset :=
  PerDest.get_rep _ d

@[simp] theorem State.afterReset_queues (d : Dest) :
    (State.afterReset pending now draws resetPin ecutPin).queues.get d = Queues.reset :=
  PerDest.get_rep _ d

@[simp] theorem State.afterReset_phases (d : Dest) :
    (State.afterReset pending now draws resetPin ecutPin).phases.get d = Phase.reset now :=
  PerDest.get_rep _ d

@[simp] theorem State.afterReset_supply (src : Source) :
    (State.afterReset pending now draws resetPin ecutPin).supply.get src = SourceMonitor.reset :=
  PerSource.get_rep _ src

@[simp] theorem State.afterReset_grantSlots (p : Port) :
    (State.afterReset pending now draws resetPin ecutPin).grantSlots.get p = none :=
  PerPort.get_rep _ p

@[simp] theorem State.afterReset_record (i : Nat) :
    (State.afterReset pending now draws resetPin ecutPin).record i = none := by
  simp only [State.record, State.afterReset, List.getElem?_replicate]
  split <;> rfl

@[simp] theorem State.afterReset_refsAt (d : Dest) :
    (State.afterReset pending now draws resetPin ecutPin).refsAt d = [] := by
  simp [State.refsAt, Link.reset, Queues.reset]

@[simp] theorem State.afterReset_freeCells :
    (State.afterReset pending now draws resetPin ecutPin).freeCells = 128 := by
  have hheld : (State.afterReset pending now draws resetPin ecutPin).heldCells = 0 := by
    rw [State.heldCells, State.afterReset, List.map_replicate]
    decide
  rw [State.freeCells, hheld, Config.cells]

theorem State.afterReset_bounded : (State.afterReset pending now draws resetPin ecutPin).Bounded :=
  ⟨Nat.zero_le _, Nat.zero_le _, Nat.zero_le _, fun d => by rw [State.afterReset_queues]; exact Queues.reset_bounded,
    fun d => by rw [State.afterReset_phases]; exact Nat.zero_le _, List.length_replicate⟩

theorem State.afterReset_refsCounted : (State.afterReset pending now draws resetPin ecutPin).RefsCounted := fun i => by
  rw [State.afterReset_record]
  simp [State.refsTo]

theorem State.afterReset_poolJudged : (State.afterReset pending now draws resetPin ecutPin).PoolJudged := by
  rw [State.PoolJudged, State.afterReset_freeCells]
  exact ⟨(by decide : 8 ≤ 24), (by decide : 24 ≤ 64), fun _ => (by decide : 24 < 128)⟩

theorem State.afterReset_powered : (State.afterReset pending now draws resetPin ecutPin).Powered := by
  refine ⟨List.nodup_nil, List.nodup_nil, fun p => ?_, fun p _ => ?_, fun e he => (by cases he), fun p h => ?_,
    fun p h => ?_, fun _ => rfl⟩
  · rw [State.afterReset_ports]
    exact ⟨fun h => (by cases h), fun h => (by cases h)⟩
  · rw [State.afterReset_ports]
    rfl
  · rw [State.afterReset_ports] at h
    cases h
  · rw [State.afterReset_ports] at h
    cases h

theorem State.afterReset_linksFollow : (State.afterReset pending now draws resetPin ecutPin).LinksFollow := fun p => by
  rw [State.linkState, State.afterReset_links, State.afterReset_ports]
  exact ⟨fun _ => rfl, fun _ => rfl⟩

theorem State.afterReset_settled : (State.afterReset pending now draws resetPin ecutPin).Settled := fun d _ => by
  have hslot : (State.afterReset pending now draws resetPin ecutPin).grantSlot d = none := by
    cases d with
    | u => rfl
    | port p => exact State.afterReset_grantSlots ..
  refine List.find?_eq_none.mpr fun src _ => ?_
  have hlane : (State.afterReset pending now draws resetPin ecutPin).mgmt.lane = [] := rfl
  cases src <;> simp [State.offers, hslot, hlane, Link.reset, Queues.reset]

theorem State.afterReset_periodInRange : (State.afterReset pending now draws resetPin ecutPin).PeriodInRange :=
  ⟨(by decide : 10000 ≤ 40000), (by decide : 40000 ≤ 50000)⟩

theorem State.afterReset_budgeted : (State.afterReset pending now draws resetPin ecutPin).Budgeted := by
  refine ⟨Nat.zero_le _, Nat.zero_le _, fun e he => (by cases he), fun p => ?_⟩
  rw [State.afterReset_ports]
  exact ⟨Nat.zero_le _, fun n hn => (by cases hn)⟩

theorem State.afterReset_timersPlaced : (State.afterReset pending now draws resetPin ecutPin).TimersPlaced := by
  refine ⟨fun src => ?_, ?_, ?_, fun p => ?_⟩
  · rw [State.afterReset_supply]
    simp [SourceMonitor.TimersPlaced, SourceMonitor.reset]
  · simp [Selector.TimersPlaced, State.afterReset, Selector.reset, SelState.target]
  · simp [State.afterReset, Budget.reset]
  · rw [State.afterReset_ports]
    simp [PortUnit.TimersPlaced, PortUnit.reset]

end AfterReset

/-- Settles O6. The state after any reset meets every invariant; the machine starts in one. -/
theorem resetIsSafe : Obligations.ResetIsSafe :=
  ⟨State.afterReset_bounded _ _ _ _ _, State.afterReset_refsCounted _ _ _ _ _, State.afterReset_poolJudged _ _ _ _ _,
    State.afterReset_powered _ _ _ _ _, State.afterReset_linksFollow _ _ _ _ _, Tables.reset_inRange, State.afterReset_settled _ _ _ _ _,
    State.afterReset_periodInRange _ _ _ _ _, State.afterReset_budgeted _ _ _ _ _, State.afterReset_timersPlaced _ _ _ _ _⟩

/-- R8, R151: a reset keeps nothing but the clock and the queue, and what it leaves meets every invariant. -/
theorem State.Keeps.afterReset (draws : Nat) (resetPin ecutPin : Bool) (s : State) :
    s.Keeps (State.afterReset s.pending s.now draws resetPin ecutPin) where
  pending := rfl
  now := rfl
  bounded _ := State.afterReset_bounded _ _ _ _ _
  refs _ := State.afterReset_refsCounted _ _ _ _ _
  pool _ := State.afterReset_poolJudged _ _ _ _ _
  ranges _ := Tables.reset_inRange
  period _ _ := State.afterReset_periodInRange _ _ _ _ _
  powered _ := State.afterReset_powered _ _ _ _ _
  links _ _ := State.afterReset_linksFollow _ _ _ _ _
  timers _ _ := State.afterReset_timersPlaced _ _ _ _ _
  budgeted _ _ _ := State.afterReset_budgeted _ _ _ _ _

theorem State.Keeps.hubReset (s : State) : s.Keeps s.hubReset := by
  unfold State.hubReset
  dsimp only
  split
  · exact (State.Keeps.afterReset _ _ _ s).trans (State.Runs.enterCut _).keeps
  · exact .afterReset _ _ _ s

/-! ### The end of a transmission (R100, R151, R157) -/

theorem State.Keeps.reportComplete (r : Report) (s : State) : s.Keeps (s.reportComplete r) :=
  .of_frame (s.reportComplete_frame r) (by decide)

theorem State.Keeps.transmissionComplete (d : Dest) (s : State) : s.Keeps (s.transmissionComplete d) := by
  unfold State.transmissionComplete
  split
  · exact .refl s
  · next x htx =>
    have hend := State.Keeps.endTransmission htx
    obtain ⟨kind, bytes⟩ := x
    cases kind with
    | data slot => exact hend
    | notice r => exact hend.trans (.reportComplete r _)
    | response code payload r =>
      cases r with
      | none =>
        simp only [State.completed]
        split
        · exact hend.trans (.hubReset _)
        · exact hend
      | some r =>
        simp only [State.completed]
        split
        · exact (hend.trans (.reportComplete r _)).trans (.hubReset _)
        · exact hend.trans (.reportComplete r _)
    | flow k => exact hend
    | mark => exact hend
    | grant => exact hend

/-! ### Links that come up, and the line of U (R91, R94, R95, R97) -/

theorem State.Keeps.postFlow (k : FlowKind) (d : Dest) (s : State) : s.Keeps (s.postFlow k d) :=
  .of_slots ((s.postFlow_frame k d).weaken (by decide)) (s.postFlow_lines k d)

/-- A link whose state changes without a port link passing to or from DOWN. -/
theorem State.Keeps.modLink (d : Dest) (f : Link → Link) (s : State) (hf : ∀ l, (f l).tx = l.tx)
    (hstate : ∀ p, d = .port p →
      ((f (s.links.get d)).state = .down ↔ (s.links.get d).state = .down)) : s.Keeps (s.modLink d f) := by
  have hframe := s.modLink_frame d f
  refine .of_traffic (hframe.weaken (by decide)) (fun p => ?_) id (fun h => h.congr rfl rfl (fun _ => .inr rfl) rfl)
    (fun h => State.RefsCounted.congr h rfl fun x => ?_)
    (fun h => h.congr rfl rfl rfl) fun _ => id
  · simp only [State.linkState, State.modLink_links, PerDest.get_set]
    split
    · next hp => subst hp; exact hstate p rfl
    · exact .rfl
  · simp only [State.refsAt, State.modLink_links, State.modLink_queues, PerDest.get_set]
    split
    · next hx => rw [hf, hx]
    · rfl

theorem State.Keeps.linkUp (d : Dest) (s : State) (h : ∀ p, d = .port p → s.linkState d ≠ .down) :
    s.Keeps (s.linkUp d) := by
  have hup : s.Keeps (s.modLink d fun l => { l with state := .up }) := by
    refine .modLink d _ s ?_ fun p hp => ⟨fun hd => (by cases hd), fun hd => absurd hd (h p hp)⟩
    exact fun _ => rfl
  unfold State.linkUp
  dsimp only
  split
  · exact hup.trans (.postFlow _ _ _)
  · exact hup

theorem State.Keeps.wake (d : Dest) (s : State) : s.Keeps (s.wake d) := by
  unfold State.wake
  split
  · next h => exact .linkUp d s fun _ _ => by rw [h]; decide
  · exact .refl s

theorem State.Keeps.uLineActive (s : State) : s.Keeps (if s.linkState .u = .down then s.linkUp .u else s) := by
  split
  · exact .linkUp .u s fun _ h => by cases h
  · exact .refl s

theorem State.Keeps.noticeLost (s : State) : s.Keeps s.noticeLost := .of_frame s.noticeLost_frame (by decide)

/-- R95: U is flushed. -/
theorem State.Keeps.flushU (s : State) : s.Keeps (s.flushLink .u) :=
  .of_release (s := s) (s.refsAt .u)
    (t := ({ s with links := s.links.set .u Link.reset, queues := s.queues.set .u Queues.reset } : State).countEndpoint .u
      (EndpointCounters.addLinkDown (s.refsAt .u).length))
    (by intro x hx; cases x <;> first | exact absurd (by decide) hx | rfl)
    (fun p => by
      have hp : (s.links.set .u Link.reset).get (.port p) = s.links.get (.port p) :=
        PerDest.get_set_of_ne _ _ _ _ (by simp)
      simp only [State.linkState, State.countEndpoint, hp])
    (fun h => (h.flush .u).congr rfl fun _ => rfl)
    (fun x h => by
      have hx : (s.queues.set .u Queues.reset).get x = if x = .u then Queues.reset else s.queues.get x :=
        PerDest.get_set _ _ _ _
      simp only [State.countEndpoint, hx]
      split
      · exact Queues.reset_bounded
      · exact h)

theorem State.Keeps.uDown (s : State) : s.Keeps s.uDown := by
  have hlane : ∀ y : State, y.Keeps (y.modMgmt Mgmt.dropLane) := fun y =>
    .modMgmt _ y id fun h => ⟨h.1, Nat.zero_le _, Nat.zero_le _⟩
  have hflush := ((State.Keeps.countEndpoint .u (EndpointCounters.addLinkDown s.laneLosses) s).trans (hlane _)).trans
    (.flushU _)
  unfold State.uDown
  dsimp only
  split <;> split
  · exact (hflush.trans (.noticeLost _)).trans (.hubReset _)
  · exact hflush.trans (.hubReset _)
  · exact hflush.trans (.noticeLost _)
  · exact hflush

theorem State.Keeps.uLineSilent (s : State) : s.Keeps (if s.linkState .u = .down then s else s.uDown) := by
  split
  · exact .refl s
  · exact .uDown s

end Traffic
end Sys2Proof.Machine

namespace Sys2Proof.Machine

open Sys2Proof

section Frames

variable {s t : State} {d : Dest} {p : Port}

/-! ### The timed list of a destination (R135) -/

theorem State.releaseEntry_lines (d : Dest) (s : State) (e : TimedEntry) : (s.releaseEntry d e).SameLines s := by
  unfold State.releaseEntry
  split
  · exact .of_links rfl
  · exact (State.releaseRef_lines e.slot _).trans (.of_links rfl)

theorem State.releaseEntry_pool (h : s.PoolJudged) (e : TimedEntry) : (s.releaseEntry d e).PoolJudged := by
  unfold State.releaseEntry
  split
  · exact h.congr rfl rfl rfl
  · exact State.PoolJudged.releaseRef (s := s.countEndpoint d _) (h.congr rfl rfl rfl) e.slot

theorem State.releaseRef_bounded (h : s.Bounded) (i : Nat) : (s.releaseRef i).Bounded :=
  State.releaseRefs_bounded h [i]

theorem State.releaseEntry_bounded (h : s.Bounded) (e : TimedEntry) : (s.releaseEntry d e).Bounded := by
  unfold State.releaseEntry
  split
  · next hroom =>
    refine h.congr rfl rfl (fun x => ?_) rfl
    rw [State.modQueues_queues, PerDest.get_set]
    split
    · obtain ⟨-, hbulk, htimed⟩ := h.queues d
      refine .inl ⟨?_, hbulk, htimed⟩
      simp only [List.length_append, List.length_singleton]
      exact hroom
    · exact .inr rfl
  · exact State.releaseRef_bounded (s := s.countEndpoint d _) (h.congr rfl rfl (fun _ => .inr rfl) rfl) e.slot

/-- R135: an entry that was owed its place finds it, or its reference is released. -/
theorem State.Owed.releaseEntry {more : List Nat} {e : TimedEntry} (h : s.Owed (e.slot :: more) none) :
    (s.releaseEntry d e).Owed more none := by
  unfold State.releaseEntry
  split
  · refine h.move_at (d := d) rfl (fun x hx => ?_) fun i => ?_
    · simp only [State.refsAt, State.modQueues_links, State.modQueues_queues, PerDest.get_set_of_ne _ _ _ _ hx]
    · simp only [State.refsAt, State.modQueues_links, State.modQueues_queues, PerDest.get_set_self, List.map_append,
        List.count_append, List.map_cons, List.map_nil, List.count_cons, List.count_nil]
      omega
  · exact State.Owed.releaseRef (s := s.countEndpoint d _) (h.congr rfl fun _ => rfl) (by simp)

/-- R135: entries that have left the timed list are released one after another. -/
theorem State.releaseEntries (es : List TimedEntry) (s : State) :
    (es.foldl (State.releaseEntry d) s).SameLines s ∧ (s.Bounded → (es.foldl (State.releaseEntry d) s).Bounded) ∧
      (s.PoolJudged → (es.foldl (State.releaseEntry d) s).PoolJudged) ∧
      (s.Owed (es.map (·.slot)) none → (es.foldl (State.releaseEntry d) s).Owed [] none) := by
  induction es generalizing s with
  | nil => exact ⟨.of_links rfl, id, id, id⟩
  | cons e es ih =>
    obtain ⟨hlines, hbounded, hpool, howed⟩ := ih (s.releaseEntry d e)
    exact ⟨hlines.trans (s.releaseEntry_lines d e), fun h => hbounded (State.releaseEntry_bounded h e),
      fun h => hpool (State.releaseEntry_pool h e), fun h => howed h.releaseEntry⟩

/-- The entries of a list that pass a test, and those that fail it, refer as the whole list does. -/
theorem count_map_filter_split (l : List TimedEntry) (f g : TimedEntry → Bool) (hg : ∀ e, g e = !f e) (i : Nat) :
    ((l.filter g).map (·.slot)).count i + ((l.filter f).map (·.slot)).count i = (l.map (·.slot)).count i := by
  induction l with
  | nil => rfl
  | cons e l ih =>
    have := hg e
    cases hf : f e <;> simp_all [List.count_cons] <;> omega

theorem State.Keeps.releaseTimed (d : Dest) (s : State) : s.Keeps (s.releaseTimed d) := by
  let left : State := s.modQueues d fun q => { q with timed := q.timed.filter fun e => decide (e.target ≠ s.timing.counter) }
  obtain ⟨hlines, hbounded, hpool, howed⟩ := State.releaseEntries (d := d)
    ((s.queues.get d).timed.filter fun e => decide (e.target = s.timing.counter)) left
  have hframe := s.releaseTimed_frame d
  refine .of_traffic (hframe.weaken (by decide)) (fun p => by
      have := (hlines (.port p)).2
      exact iff_of_eq (congrArg (· = LinkState.down) this))
    (by rw [hframe .mgmt (by decide)]; exact id) (fun h => hbounded (h.congr rfl rfl (fun x => ?_) rfl))
    (fun h => ?_) (fun h => hpool (h.congr rfl rfl rfl))
    fun _ h => by rw [State.PeriodInRange, hframe .timing (by decide)]; exact h
  · rw [State.modQueues_queues, PerDest.get_set]
    split
    · obtain ⟨hurgent, hbulk, htimed⟩ := h.queues d
      exact .inl ⟨hurgent, hbulk, (List.length_filter_le _ _).trans htimed⟩
    · exact .inr rfl
  · refine State.refsCounted_iff_owed.mpr (howed ((State.refsCounted_iff_owed.mp h).move_at (d := d) rfl
      (fun x hx => ?_) fun i => ?_))
    · simp only [left, State.refsAt, State.modQueues_links, State.modQueues_queues, PerDest.get_set_of_ne _ _ _ _ hx]
    · have hsplit := count_map_filter_split (s.queues.get d).timed (fun e => decide (e.target = s.timing.counter))
        (fun e => decide (e.target ≠ s.timing.counter)) (fun e => decide_not) i
      simp only [left, State.refsAt, State.modQueues_links, State.modQueues_queues, PerDest.get_set_self,
        List.count_append, List.count_nil]
      omega

/-! ### Frame boundaries and phase releases (R127, R134 to R136) -/

theorem State.Keeps.releaseMark (d : Dest) (s : State) : s.Keeps (s.releaseMark d) := by
  unfold State.releaseMark
  split
  · exact (State.Keeps.of_slots ((s.postMark_frame _ d).weaken (by decide)) (s.postMark_lines _ d)).trans
      (.modPhase d _ _ fun _ => Nat.zero_le _)
  · exact .refl s

theorem State.Keeps.releaseDest (d : Dest) (s : State) : s.Keeps (s.releaseDest d) :=
  ((State.Keeps.releaseMark d s).trans (.releaseTimed d _)).trans (.modPhase d _ _ fun h => h)

theorem State.Keeps.releaseUnreleased (d : Dest) (s : State) : s.Keeps (s.releaseUnreleased d) := by
  unfold State.releaseUnreleased
  split
  · exact .refl s
  · exact .releaseDest d s

theorem State.Keeps.beginFrame (time : Nat) (s : State) : s.Keeps (s.beginFrame time) := by
  have hframe := s.beginFrame_frame time
  refine .of_traffic (hframe.weaken (by decide)) (fun _ => .rfl) id (fun h => ?_)
    (fun h => State.RefsCounted.congr h rfl fun _ => rfl)
    (fun h => h.congr rfl rfl rfl) fun _ h => h
  obtain ⟨hinput, hlane, hnotice, hqueues, -, hlength⟩ := h
  refine ⟨hinput, hlane, hnotice, hqueues, fun x => ?_, hlength⟩
  rw [State.beginFrame, PerDest.get_ofFn]
  exact Nat.min_le_right _ _

theorem State.Keeps.boundaryAt (time : Nat) (s : State) : s.Keeps (s.boundaryAt time) := by
  refine (((State.Keeps.foldl (fun s d => .releaseUnreleased d s) _ s).trans (.beginFrame time _)).trans
    (.foldl (fun s d => ?_) _ _)).trans (State.Runs.judgeChange _).keeps
  unfold State.releaseAtBoundary
  split
  · exact .releaseUnreleased d s
  · exact .refl s

/-! ### FSYNC (R128 to R133) -/

theorem State.Keeps.openWindow (s : State) : s.Keeps s.openWindow := .modTiming_period _ s rfl

theorem State.Keeps.beginAcquiring (s : State) : s.Keeps s.beginAcquiring := .modTiming_period _ s rfl

theorem State.Keeps.anchor (s : State) : s.Keeps s.anchor := .modTiming_period _ s rfl

theorem State.Keeps.syncLost (s : State) : s.Keeps s.syncLost := (State.Keeps.counters _ s).trans (.raiseHub _ _)

/-- R129, R131: a period in the lock window is a period that may be in use. -/
theorem State.period_of_inLockWindow (hT : s.tables.InRange) {n : Nat}
    (hn : s.tables.timing.inLockWindow n = true) : 10000 ≤ n ∧ n ≤ 50000 := by
  obtain ⟨-, -, -, -, -, -, -, ⟨-, -, hmin, -, hmax, -⟩, -⟩ := hT
  simp only [TimingRecord.inLockWindow, Bool.and_eq_true, decide_eq_true_eq] at hn
  omega

theorem State.Keeps.lock {n : Nat} (hn : s.tables.timing.inLockWindow n = true) : s.Keeps (s.lock n) := by
  have hperiod : s.Keeps (s.modTiming fun t => { t with
      sync := .locked, period := n, accepted := true, prevPeriod := some n, consistent := 4 }) :=
    .modTiming _ s fun hT _ => State.period_of_inLockWindow hT hn
  unfold State.lock
  dsimp only
  split
  · exact (hperiod.trans (.anchor _)).trans (.raiseHub _ _)
  · exact ((hperiod.trans (.boundaryAt _ _)).trans (.anchor _)).trans (.raiseHub _ _)

theorem State.Keeps.acquireEdge (s : State) : s.Keeps s.acquireEdge := by
  unfold State.acquireEdge
  split
  · next hconsistent =>
    split
    · exact .lock (Bool.and_eq_true_iff.mp hconsistent).1
    · exact .modTiming_period _ s rfl
  · exact .beginAcquiring s

theorem State.Keeps.acceptPeriod (s : State) : s.Keeps s.acceptPeriod := by
  unfold State.acceptPeriod
  split
  · next h => exact .modTiming _ s fun hT _ => State.period_of_inLockWindow hT h.2
  · exact .refl s

theorem State.Keeps.confirmEdge (w : Window) (s : State) : s.Keeps (s.confirmEdge w) := by
  unfold State.confirmEdge
  dsimp only
  split
  · exact ((State.Keeps.acceptPeriod s).trans (.boundaryAt _ _)).trans (.anchor _)
  · exact (State.Keeps.acceptPeriod s).trans (.anchor _)

theorem State.Keeps.relock (w : Window) (s : State) : s.Keeps (s.relock w) :=
  .trans (.trans (.modTiming_period _ s rfl) (.confirmEdge w _)) (.raiseHub _ _)

theorem State.Keeps.fsyncEdge (s : State) : s.Keeps s.fsyncEdge := by
  refine (State.Keeps.openWindow s).trans ?_
  unfold State.fsyncEdge
  dsimp only
  split
  · exact .beginAcquiring _
  · exact .acquireEdge _
  · exact .confirmEdge _ _
  · exact (State.Keeps.beginAcquiring _).trans (.syncLost _)
  · exact .relock _ _
  · exact .beginAcquiring _

theorem State.Keeps.windowClose (s : State) : s.Keeps s.windowClose := by
  unfold State.windowClose
  split
  · exact .trans (.modTiming_period _ s rfl) (.syncLost _)
  · split
    · exact .trans (.modTiming_period _ s rfl) (.syncLost _)
    · exact .modTiming_period _ s rfl
  · exact .refl s

/-! ### The hand-off of a message (R114, R115) -/

theorem State.record_of_findIdx {i : Nat} (h : s.freeSlot = some i) : s.record i = none ∧ i < s.records.length := by
  obtain ⟨hi, hnone, -⟩ := List.findIdx?_eq_some_iff_getElem.mp h
  refine ⟨?_, hi⟩
  rw [State.record, List.getElem?_eq_getElem hi, Option.isNone_iff_eq_none.mp hnone]
  rfl

/-- While the references to a fresh record are taken: it is in use, and every other record owes nothing. -/
structure State.Placing (slot : Nat) (s t : State) : Prop where
  frame : t.SameBut [.queues, .links, .records, .held, .events, .counters] s
  lines : t.SameLines s
  bounded : s.Bounded → t.Bounded
  pool : s.PoolJudged → t.PoolJudged
  fresh : (s.record slot).isSome = true → (t.record slot).isSome = true
  refs : (s.record slot).isSome = true → s.Owed [] (some slot) → t.Owed [] (some slot)

theorem State.Placing.refl (slot : Nat) (s : State) : State.Placing slot s s :=
  ⟨.refl _ s, .of_links rfl, id, id, id, fun _ => id⟩

theorem State.Placing.trans {slot : Nat} {u : State} (h : State.Placing slot s t) (k : State.Placing slot t u) :
    State.Placing slot s u :=
  ⟨k.frame.comp h.frame fun _ hx => hx, k.lines.trans h.lines, k.bounded ∘ h.bounded, k.pool ∘ h.pool,
    k.fresh ∘ h.fresh, fun hs ho => k.refs (h.fresh hs) (h.refs hs ho)⟩

theorem State.Placing.countEndpoint (slot : Nat) (d : Dest) (f : EndpointCounters → EndpointCounters) (s : State) :
    State.Placing slot s (s.countEndpoint d f) :=
  ⟨(s.countEndpoint_frame d f).weaken (by decide), .of_links rfl, fun h => h.congr rfl rfl (fun _ => .inr rfl) rfl,
    fun h => h.congr rfl rfl rfl, id, fun _ h => h.congr rfl fun _ => rfl⟩

theorem State.addRef_queues (i : Nat) (s : State) : (s.addRef i).queues = s.queues := s.addRef_frame i .queues (by decide)

theorem State.addRef_record_of (i : Nat) (s : State) (j : Nat) :
    (s.addRef i).record j =
      if i = j then (s.record i).map fun r => { r with refs := r.refs + 1 } else s.record j := by
  unfold State.addRef
  split
  · next h => split <;> simp_all
  · next r h =>
    rw [State.record_set_of_some h]
    split <;> simp_all

/-- R115, R116: an entry that joins a list of a destination adds its reference. -/
theorem State.Placing.join {slot : Nat} {f : Queues → Queues}
    (hcount : ∀ i, ((f (s.queues.get d)).urgent.map (·.slot)).count i + ((f (s.queues.get d)).bulk.map (·.slot)).count i +
      ((f (s.queues.get d)).timed.map (·.slot)).count i = ((s.queues.get d).urgent.map (·.slot)).count i +
      ((s.queues.get d).bulk.map (·.slot)).count i + ((s.queues.get d).timed.map (·.slot)).count i + [slot].count i)
    (hbounded : (s.queues.get d).Bounded → (f (s.queues.get d)).Bounded) :
    State.Placing slot s ((s.modQueues d f).addRef slot) := by
  have hframe := State.addRef_frame slot (s.modQueues d f)
  have hall : ((s.modQueues d f).addRef slot).SameBut [.queues, .records] s :=
    hframe.comp ((s.modQueues_frame d f).weaken (by decide)) (by decide)
  have hrefs : ∀ x, ((s.modQueues d f).addRef slot).refsAt x = (s.modQueues d f).refsAt x := fun x =>
    State.refsAt_congr (hframe .links (by decide)) (hframe .queues (by decide)) x
  have hto : ∀ i, ((s.modQueues d f).addRef slot).refsTo i + 0 = s.refsTo i + [slot].count i := fun i => by
    refine State.refsTo_change (d := d) (fun x hx => ?_) ?_
    · rw [hrefs]
      simp only [State.refsAt, State.modQueues_links, State.modQueues_queues, PerDest.get_set_of_ne _ _ _ _ hx]
    · have := hcount i
      rw [hrefs]
      simp only [State.refsAt, State.modQueues_links, State.modQueues_queues, PerDest.get_set_self, List.count_append]
      omega
  refine ⟨hall.weaken (by decide), .of_links (hall .links (by decide)), fun h => ?_, fun h => ?_, fun h => ?_,
    fun hs ho i => ?_⟩
  · refine h.congr (hall .mgmt (by decide)) (hall .phases (by decide)) (fun x => ?_)
      (State.addRef_records_length (s.modQueues d f) slot)
    rw [State.addRef_queues, State.modQueues_queues, PerDest.get_set]
    split
    · exact .inl (hbounded (h.queues d))
    · exact .inr rfl
  · exact State.PoolJudged.addRef (s := s.modQueues d f) (h.congr rfl rfl rfl) slot
  · rw [State.addRef_record_of, if_pos rfl, Option.isSome_map]
    exact h
  · have hi := ho i
    have hti := hto i
    have hrec : ((s.modQueues d f).addRef slot).record i =
        if slot = i then (s.record slot).map fun r => { r with refs := r.refs + 1 } else s.record i :=
      State.addRef_record_of slot (s.modQueues d f) i
    rw [hrec]
    by_cases hslot : slot = i
    · subst hslot
      obtain ⟨r, hr⟩ := Option.isSome_iff_exists.mp hs
      simp only [hr, List.count_nil, List.count_cons_self, Nat.add_zero] at hi hti ⊢
      simp only [if_true, Option.map_some]
      exact ⟨by omega, fun hne => absurd rfl hne⟩
    · rw [if_neg hslot]
      simp only [List.count_cons_of_ne hslot, List.count_nil, Nat.add_zero] at hti
      rw [hti]
      exact hi

theorem State.Placing.joinQueue (d : Dest) (c : QueueClass) (slot : Nat) (late : Bool) (s : State) :
    State.Placing slot s (s.joinQueue d c ⟨slot, late⟩) := by
  unfold State.joinQueue
  split
  · split
    · next hroom =>
      refine .join (fun i => ?_) fun h => ⟨?_, h.2⟩
      · simp only [List.map_append, List.map_cons, List.map_nil, List.count_append]
        omega
      · simpa [Config.queueSize] using hroom
    · exact .countEndpoint slot d _ s
  · split
    · next hroom =>
      refine .join (fun i => ?_) fun h => ⟨h.1, ?_, h.2.2⟩
      · simp only [List.map_append, List.map_cons, List.map_nil, List.count_append]
        omega
      · simpa [Config.queueSize] using hroom
    · exact .countEndpoint slot d _ s

theorem State.Placing.joinTimed (d : Dest) (slot : Nat) (target : Byte) (late : LateAction) (s : State) :
    State.Placing slot s (s.joinTimed d ⟨slot, target, late⟩) := by
  unfold State.joinTimed
  split
  · next hroom =>
    refine .join (fun i => ?_) fun h => ⟨h.1, h.2.1, ?_⟩
    · simp only [List.map_append, List.map_cons, List.map_nil, List.count_append]
      omega
    · simpa [Config.timedSize] using hroom
  · exact .countEndpoint slot d _ s

theorem State.Placing.place (slot : Nat) (d : Dest) (x : Placement) (s : State) :
    State.Placing slot s (s.place slot d x) := by
  unfold State.place
  split
  · exact .joinQueue d _ slot _ s
  · split
    · unfold State.placeLate
      split
      · exact .joinQueue d _ slot _ s
      · exact .countEndpoint slot d _ s
    · exact .joinTimed d slot _ _ s

/-- R115: every destination receives its placement. -/
theorem State.Placing.placements (slot : Nat) (m : Message) (x : Decision) (ds : List Dest) (s : State) :
    State.Placing slot s (ds.foldl (fun s d => s.place slot d (s.placement m x d)) s) := by
  induction ds generalizing s with
  | nil => exact .refl slot s
  | cons d ds ih => exact (State.Placing.place slot d _ s).trans (ih _)

/-- R116: a fresh record with references is like any other, and one without is freed. -/
theorem State.Owed.freeIfUnused {slot : Nat} (h : s.Owed [] (some slot)) : (s.freeIfUnused slot).Owed [] none := fun i => by
  have hrefs : (s.freeIfUnused slot).refsTo i = s.refsTo i :=
    State.refsTo_congr (State.refsAt_of_lines (s.freeIfUnused_lines slot) (s.freeIfUnused_frame slot .queues (by decide))) i
  have hi := h i
  rw [State.freeIfUnused_record, hrefs]
  by_cases hslot : slot = i
  · subst hslot
    cases hr : s.record slot with
    | none => simpa [hr] using hi
    | some r =>
      simp only [hr, List.count_nil, Nat.add_zero] at hi
      by_cases hzero : r.refs = 0
      · simp [hzero, ← hi.1]
      · simp only [Option.any_some, hzero, decide_false, List.count_nil]
        exact ⟨hi.1, fun _ => by omega⟩
  · rw [if_neg fun hboth => hslot hboth.1]
    cases hr : s.record i with
    | none => simpa [hr] using hi
    | some r =>
      simp only [hr] at hi
      exact ⟨hi.1, fun _ => hi.2 (by simpa using hslot)⟩

theorem State.freeIfUnused_bounded (h : s.Bounded) (i : Nat) : (s.freeIfUnused i).Bounded :=
  have hframe := s.freeIfUnused_frame i
  h.congr (hframe .mgmt (by decide)) (hframe .phases (by decide)) (fun d => .inr (by rw [hframe .queues (by decide)]))
    (s.freeIfUnused_records_length i)

/-- R114: a record is taken, and what is placed of it stands. -/
theorem State.Keeps.takeAndPlaceAll {slot : Nat} (hslot : s.freeSlot = some slot) (ingress : Dest) (m : Message)
    (x : Decision) (ds : List Dest) : s.Keeps ((s.take slot ingress m).placeAll slot m x ds) := by
  obtain ⟨hfree, hlt⟩ := State.record_of_findIdx hslot
  let filled : State := { s with records := s.records.set slot (some ⟨m, ingress, 0⟩) }
  have hfilled : filled.SameBut [.records] s := by
    intro y hy; cases y <;> first | exact absurd (by decide) hy | rfl
  have hrecord : ∀ j, filled.record j = if slot = j then some ⟨m, ingress, 0⟩ else s.record j := fun j => by
    rw [State.record_set]
    simp [hlt]
  have hjudge := filled.judgeTake_frame
  have hjrecord : ∀ j, filled.judgeTake.record j = filled.record j := State.record_congr (hjudge .records (by decide))
  have hplaced := State.Placing.placements slot m x ds filled.judgeTake
  have hlast := State.freeIfUnused_frame slot
    (ds.foldl (fun s d => s.place slot d (s.placement m x d)) filled.judgeTake)
  have hall : ((s.take slot ingress m).placeAll slot m x ds).SameBut
      [.queues, .links, .records, .held, .events, .counters] s :=
    (hlast.weaken (by decide)).comp (hplaced.frame.comp ((hjudge.weaken (by decide)).comp (hfilled.weaken (by decide))
      (fun _ hx => hx)) (fun _ hx => hx)) fun _ hx => hx
  have hlines : ((s.take slot ingress m).placeAll slot m x ds).SameLines s :=
    (State.freeIfUnused_lines slot _).trans (hplaced.lines.trans (filled.judgeTake_lines.trans (.of_links rfl)))
  have hisSome : (filled.judgeTake.record slot).isSome = true := by
    rw [hjrecord, hrecord, if_pos rfl]
    rfl
  refine .of_traffic (hall.weaken (by decide)) (fun p => by rw [(hlines _).2])
    (by rw [hall .mgmt (by decide)]; exact id) (fun h => ?_) (fun h => ?_) (fun h => ?_)
    fun _ h => by rw [State.PeriodInRange, hall .timing (by decide)]; exact h
  · refine State.freeIfUnused_bounded (hplaced.bounded (h.congr (hjudge .mgmt (by decide)) (hjudge .phases (by decide))
      (fun y => .inr (by rw [hjudge .queues (by decide)])) ?_)) slot
    rw [hjudge .records (by decide)]
    exact List.length_set ..
  · refine State.refsCounted_iff_owed.mpr (State.Owed.freeIfUnused (hplaced.refs hisSome fun j => ?_))
    have hj := State.refsCounted_iff_owed.mp h j
    have hto : filled.judgeTake.refsTo j = s.refsTo j :=
      State.refsTo_congr (State.refsAt_of_lines (filled.judgeTake_lines.trans (.of_links rfl))
        (hjudge .queues (by decide))) j
    rw [hjrecord, hrecord, hto]
    by_cases hsj : slot = j
    · subst hsj
      simp only [hfree, List.count_nil, Nat.add_zero] at hj
      simp [hj]
    · rw [if_neg hsj]
      cases hr : s.record j with
      | none => simpa [hr] using hj
      | some r =>
        simp only [hr] at hj
        exact ⟨hj.1, fun _ => hj.2 (by simp)⟩
  · obtain ⟨hlow, hhigh, -⟩ := h
    exact State.PoolJudged.freeIfUnused (hplaced.pool (State.judgeTake_pool (s := filled) hlow hhigh)) slot

theorem State.enterHeld_held (s : State) : s.enterHeld.held = true :=
  Eq.trans (State.raiseHub_frame .poolHold _ .held (by decide))
    (State.postFlowAll_frame .hold { s with held := true } .held (by decide))

theorem State.Keeps.enterHeld (s : State) : s.Keeps s.enterHeld := by
  refine .of_flow (s.enterHeld_frame.weaken (by decide)) s.enterHeld_lines fun h => ?_
  obtain ⟨hlow, hhigh, -⟩ := h
  rw [State.PoolJudged, s.enterHeld_frame .tables (by decide), s.enterHeld_held]
  exact ⟨hlow, hhigh, fun hclear => by cases hclear⟩

theorem State.Keeps.noBuffer (ingress : Dest) (s : State) : s.Keeps (s.noBuffer ingress) := by
  unfold State.noBuffer
  dsimp only
  split
  · exact .countEndpoint _ _ s
  · exact (State.Keeps.countEndpoint _ _ s).trans (.enterHeld _)

theorem State.Keeps.takeAndPlace (ingress : Dest) (m : Message) (x : Decision) (ds : List Dest) (s : State) :
    s.Keeps (s.takeAndPlace ingress m x ds) := by
  unfold State.takeAndPlace
  split
  · exact .refl s
  · split
    · exact .noBuffer ingress s
    · next hslot =>
      split
      · exact .noBuffer ingress s
      · exact .takeAndPlaceAll hslot ingress m x ds

theorem State.Keeps.handOff (ingress : Dest) (m : Message) (x : Decision) (s : State) :
    s.Keeps (s.handOff ingress m x) :=
  (State.Keeps.foldl (fun s d => .countEndpoint d _ s) _ s).trans (.takeAndPlace ingress m x _ _)

theorem State.Keeps.routeData (ingress : Dest) (m : Message) (s : State) : s.Keeps (s.routeData ingress m) := by
  unfold State.routeData
  split
  · exact .countEndpoint _ _ s
  · exact .handOff ingress m _ s

/-! ### Receptions (R86 to R92, R96, R143) -/

theorem State.Keeps.requestArrives (r : Request) (s : State) : s.Keeps (s.requestArrives r) := by
  unfold State.requestArrives
  split
  · next hroom =>
    refine .modMgmt _ s id fun h => ⟨?_, h.2.1, h.2.2.1⟩
    simpa [Config.inputSize] using hroom
  · exact (State.Keeps.counters _ s).trans (.raiseHub _ _)

theorem State.Keeps.setReceivedHold (d : Dest) (b : Bool) (s : State) : s.Keeps (s.setReceivedHold d b) := by
  refine .modLink d _ s ?_ fun _ _ => .rfl
  exact fun _ => rfl

theorem State.Keeps.handOn (d : Dest) (k : MsgKind) (m : Message) (s : State) : s.Keeps (s.handOn d k m) := by
  unfold State.handOn
  split
  · exact .routeData _ _ s
  · exact (State.Runs.demand _ _ s).keeps
  · exact .setReceivedHold _ _ s
  · exact .setReceivedHold _ _ s
  · exact .requestArrives _ s
  · exact .refl s

theorem State.Keeps.receive (d : Dest) (v : Verdict) (s : State) : s.Keeps (s.receive d v) := by
  unfold State.receive
  split
  · exact .countEndpoint _ _ s
  · exact .countEndpoint _ _ s
  · exact ((State.Keeps.countEndpoint _ _ s).trans (.wake _ _)).trans (.handOn _ _ _ _)

theorem State.Keeps.demandAtLeaving (d : Dest) (v : Verdict) (s : State) : s.Keeps (s.demandAtLeaving d v) := by
  unfold State.demandAtLeaving
  split
  · split
    · exact (State.Keeps.countEndpoint _ _ s).trans (State.Runs.demand _ _ _).keeps
    · exact .refl s
  · exact .refl s

theorem State.Keeps.frameReception (d : Dest) (bytes : List Byte) (s : State) : s.Keeps (s.frameReception d bytes) := by
  unfold State.frameReception
  split
  · exact .demandAtLeaving _ _ s
  · exact .receive _ _ s

theorem State.Keeps.strayStart (d : Dest) (s : State) : s.Keeps (s.strayStart d) := by
  unfold State.strayStart
  split
  · exact .refl s
  · exact .countEndpoint _ _ s

end Frames
end Sys2Proof.Machine

namespace Sys2Proof.Machine

open Sys2Proof

/-! ### What a load may write (R5, R7, R23, R37, R39, R103, R119, R125, R161) -/

section Parse

variable {p : List Byte}

theorem byteAt_lt (p : List Byte) (i : Nat) : byteAt p i < 256 := (p.getD i 0).isLt

theorem clamp_le (lo hi n : Nat) : clamp lo hi n ≤ hi := Nat.min_le_right _ _

theorem le_clamp {lo hi : Nat} (h : lo ≤ hi) (n : Nat) : lo ≤ clamp lo hi n := le_min (le_max_right _ _) h

theorem parseSource_inRange {x : Source × SourceRecord} (h : parseSource p = .ok x) : x.2.InRange := by
  unfold parseSource at h
  split at h
  · cases h
  · split at h
    · next hvalid =>
      cases h
      exact ⟨hvalid, byteAt_lt p 7, byteAt_lt p 8, Nat.min_le_right _ _, Nat.min_le_right _ _⟩
    · cases h

theorem parseSelector_inRange {x : SelectorSettings} (h : parseSelector p = .ok x) : x.InRange := by
  have hrest : ∀ src, SelectorSettings.InRange ⟨src, byteAt p 1, max (byteAt p 2) 1⟩ := fun src =>
    ⟨byteAt_lt p 1, le_max_right _ _, max_lt (byteAt_lt p 2) (by decide)⟩
  unfold parseSelector at h
  dsimp only at h
  split at h
  · cases h; exact hrest _
  · split at h
    · cases h; exact hrest _
    · cases h

theorem parseBudget_inRange {x : BudgetParams} (h : parseBudget p = .ok x) : x.InRange := by
  unfold parseBudget at h
  split at h
  · next hsmall =>
    obtain ⟨hline, hbatt, hhead⟩ := hsmall
    cases h
    exact ⟨hline, hbatt, hhead, Nat.min_le_right _ _, Nat.min_le_right _ _⟩
  · cases h

theorem parseClass_inRange {x : ClassNo × ClassRecord} (h : parseClass p = .ok x) : x.2.InRange := by
  unfold parseClass at h
  split at h
  · cases h
  · split at h
    · next hsmall =>
      obtain ⟨hmax, hidle, hprio⟩ := hsmall
      cases h
      exact ⟨hmax, le_clamp hidle _, clamp_le _ _ _, hprio, Nat.min_le_right _ _, Nat.min_le_right _ _,
        le_clamp (by decide) _, clamp_le _ _ _, le_clamp (by decide) _, clamp_le _ _ _, Nat.min_le_right _ _,
        le_max_right _ _, max_lt (byteAt_lt p 15) (by decide), byteAt_lt p 16⟩
    · cases h

theorem parsePort_inRange {x : Port × PortRecord} (h : parsePort p = .ok x) : x.2.InRange := by
  unfold parsePort at h
  split at h
  · cases h
  · cases h
  · split at h
    · cases h
      exact ⟨fun n hn => (by cases hn), byteAt_lt p 4⟩
    · split at h
      · next hprio =>
        cases h
        exact ⟨fun n hn => (by cases hn; exact hprio), byteAt_lt p 4⟩
      · cases h

theorem parseRouteEntry_inRange {e : RouteEntry} (h : parseRouteEntry p = some e) : e.InRange := by
  unfold parseRouteEntry at h
  split at h
  · cases h
  · split at h
    · next hsmall =>
      cases h
      exact ⟨hsmall.1, byteAt_lt p 4, fun hvalid => by cases hvalid⟩
    · cases h

theorem parseRoute_inRange {x : Nat × RouteEntry} (h : parseRoute p = .ok x) : x.2.InRange := by
  unfold parseRoute at h
  split at h
  · cases h
  · split at h
    · cases h
      exact RouteEntry.reset_inRange
    · split at h
      · next he =>
        cases h
        exact parseRouteEntry_inRange he
      · cases h

theorem parseTiming_inRange {x : TimingRecord × PerDest Nat} (h : parseTiming p = .ok x) : x.1.InRange := by
  unfold parseTiming at h
  dsimp only at h
  split at h
  · next hok =>
    cases h
    simp only [Bool.and_eq_true, decide_eq_true_eq, List.all_eq_true] at hok
    obtain ⟨⟨⟨⟨⟨hnominal, hmin⟩, hmax⟩, hle⟩, htol⟩, hmarks⟩ := hok
    refine ⟨hnominal.1, hnominal.2, hmin.1, hle, hmax.2, htol, Nat.le_of_lt_succ (byteAt_lt p 6), fun d => ?_⟩
    exact hmarks _ (List.mem_map_of_mem (Dest.mem_all d))
  · cases h

theorem parseHoldLevel_inRange (p : List Byte) : 8 ≤ parseHoldLevel p ∧ parseHoldLevel p ≤ 64 :=
  ⟨le_clamp (by decide) _, clamp_le _ _ _⟩

theorem settingOf_inRange (b : Nat) : (settingOf b).InRange := Nat.le_of_lt_succ (Nat.mod_lt b (by decide))

theorem parseEvents_inRange (p : List Byte) :
    (∀ i, ((parseEvents p).hub.get i).InRange) ∧ (parseEvents p).marks.InRange :=
  ⟨fun i => by rw [parseEvents, PerHub.get_ofFn]; exact settingOf_inRange _, settingOf_inRange _⟩

end Parse

/-! ### The management unit -/

/-- R145: while U is UP the lane has room for a response. -/
def State.HasRoom (s : State) : Prop := s.linkState .u = .up → s.mgmt.lane.length < 4

section Management

variable {s t : State}

theorem State.HasRoom.congr (h : s.HasRoom) (hlink : t.linkState .u = s.linkState .u) (hlane : t.mgmt.lane = s.mgmt.lane) :
    t.HasRoom := by
  rw [State.HasRoom, hlink, hlane]
  exact h

theorem State.HasRoom.of_frame {m : List Part} (h : s.HasRoom) (hframe : t.SameBut m s) (hlinks : Part.links ∉ m)
    (hmgmt : Part.mgmt ∉ m) : t.HasRoom :=
  h.congr (State.linkState_of_frame hframe hlinks _) (by rw [hframe .mgmt hmgmt])

theorem State.Runs.room (h : s.Runs t) (hs : s.HasRoom) : t.HasRoom :=
  hs.congr h.flows.uLine (by rw [h.flows.frame .mgmt (by decide)])

/-- R144, R145: a response that has room, or is discarded. -/
theorem State.Keeps.placeResponse (h : s.HasRoom) (code : Byte) (payload : List Byte) (report : Option Report) :
    s.Keeps (s.placeResponse code payload report) := by
  unfold State.placeResponse
  split
  · next hup =>
    have hroom := h hup
    refine .modMgmt _ s id fun hb => ⟨hb.1, ?_, ?_⟩
    · simpa using hroom
    · simpa [List.count_append] using hb.2.2.1
  · exact .countEndpoint _ _ s

theorem State.Keeps.reply (h : s.HasRoom) (r : Request) (st : Status) : s.Keeps (s.reply r st) :=
  .placeResponse h _ _ _

/-- R144, R146: what serving a request keeps, where its own execution does. -/
theorem State.Keeps.serve {row : Instr} {act : Request → State → State}
    (hact : ∀ (r : Request) (y : State), (row ≠ .trafficReset → y.HasRoom) → y.Keeps (act r y)) (s : State) :
    s.Keeps (s.serve row act) := by
  unfold State.serve
  split
  · exact .refl s
  · next r rest hinput =>
    split
    · next hbegin =>
      obtain ⟨hrow, hbegin⟩ := hbegin
      have hpop : s.Keeps (s.modMgmt fun m => { m with input := rest }) := .modMgmt _ s id fun hb => ⟨by
        have := hb.1
        rw [hinput] at this
        exact (Nat.le_succ _).trans this, hb.2.1, hb.2.2.1⟩
      have hroom : (r.row = .trafficReset → r.lengthOk = false) →
          (s.modMgmt fun m => { m with input := rest }).HasRoom := fun hnot hup => by
        have hup : s.linkState .u = .up := hup
        simp only [State.mayBegin, Bool.and_eq_true, Bool.or_eq_true, decide_eq_true_eq] at hbegin
        rcases hbegin.2 with (hless | hdown) | ⟨hreset, hlength⟩
        · exact hless
        · exact absurd hup hdown
        · rw [hnot hreset] at hlength
          cases hlength
      dsimp only
      split
      · exact hpop.trans (hact r _ fun hne => hroom fun heq => absurd (hrow.symm.trans heq) hne)
      · next hlength => exact hpop.trans (.reply (hroom fun _ => by simpa using hlength) r _)
    · exact .refl s

/-- A command other than TRAFFIC RESET is served with room for its response. -/
theorem State.Keeps.serve_with_room {row : Instr} {act : Request → State → State} (hrow : row ≠ .trafficReset)
    (hact : ∀ (r : Request) (y : State), y.HasRoom → y.Keeps (act r y)) (s : State) : s.Keeps (s.serve row act) :=
  .serve (fun r y hroom => hact r y (hroom hrow)) s

theorem State.Keeps.load {α : Type} {parse : List Byte → Except Status α} {write : α → State → State} {r : Request}
    (h : s.HasRoom) (hwrite : ∀ x, parse r.payload = .ok x → s.Keeps (write x s) ∧ (write x s).HasRoom) :
    s.Keeps (State.load parse write r s) := by
  unfold State.load
  split
  · exact .reply h r _
  · next x hx => exact (hwrite x hx).1.trans (.reply (hwrite x hx).2 r _)

/-! #### Reads (R148) -/

theorem State.Keeps.drawn (s : State) : s.Keeps s.drawn := .of_frame s.drawn_frame (by decide)

theorem State.Keeps.readStatus (r : Request) (h : s.HasRoom) : s.Keeps (s.readStatus r) :=
  (State.Keeps.drawn s).trans (.placeResponse (h.of_frame s.drawn_frame (by decide) (by decide)) _ _ _)

theorem State.Keeps.readPort (r : Request) (h : s.HasRoom) : s.Keeps (s.readPort r) := by
  unfold State.readPort
  split
  · exact .reply h r _
  · exact (State.Keeps.drawn s).trans (.placeResponse (h.of_frame s.drawn_frame (by decide) (by decide)) _ _ _)

theorem State.Keeps.readTable (r : Request) (h : s.HasRoom) : s.Keeps (s.readTable r) := by
  unfold State.readTable
  split
  · exact .reply h r _
  · exact (State.Keeps.drawn s).trans (.placeResponse (h.of_frame s.drawn_frame (by decide) (by decide)) _ _ _)

/-! #### Loads (R147) -/

theorem State.HasRoom.modTables (h : s.HasRoom) (f : Tables → Tables) : (s.modTables f).HasRoom := h

/-- A mark of the management unit. -/
theorem State.Keeps.modMgmt_marks (f : Mgmt → Mgmt) (s : State) (hf : ∀ m, (f m).operational = m.operational ∧
      (f m).input = m.input ∧ (f m).lane = m.lane) : s.Keeps (s.modMgmt f) := by
  obtain ⟨hgate, hinput, hlane⟩ := hf s.mgmt
  exact .modMgmt f s (by rw [hgate]; exact id) fun h => by
    rw [hinput, hlane]
    exact ⟨h.1, h.2.1, h.2.2.1⟩

theorem Mgmt.markSource_keeps (src : Source) (m : Mgmt) :
    (m.markSource src).operational = m.operational ∧ (m.markSource src).input = m.input ∧
      (m.markSource src).lane = m.lane := by
  cases src <;> exact ⟨rfl, rfl, rfl⟩

theorem State.Keeps.loadSource {x : Source × SourceRecord} (hx : x.2.InRange) (h : s.HasRoom) :
    s.Keeps (s.loadSource x) ∧ (s.loadSource x).HasRoom := by
  have hwritten : s.Keeps (s.modTables fun t => { t with source := t.source.set x.1 x.2 }) := by
    refine .modTables _ s (fun hT => ?_) rfl
    obtain ⟨hsource, hrest⟩ := hT
    refine ⟨fun src => ?_, hrest⟩
    by_cases hsrc : src = x.1
    · rw [hsrc, PerSource.get_set_self]
      exact hx
    · rw [PerSource.get_set_of_ne _ _ _ _ hsrc]
      exact hsource src
  have hcompute := State.Runs.computeBudget
    ((s.modTables fun t => { t with source := t.source.set x.1 x.2 }).modMgmt (Mgmt.markSource x.1))
  exact ⟨(hwritten.trans (.modMgmt_marks _ _ (Mgmt.markSource_keeps x.1))).trans hcompute.keeps,
    hcompute.room (h.congr rfl (Mgmt.markSource_keeps x.1 s.mgmt).2.2)⟩

theorem State.Keeps.loadSelector {x : SelectorSettings} (hx : x.InRange) (h : s.HasRoom) :
    s.Keeps (s.loadSelector x) ∧ (s.loadSelector x).HasRoom := by
  have hwritten : s.Keeps (s.modTables fun t => { t with selector := x }) :=
    .modTables _ s (fun hT => ⟨hT.1, hx, hT.2.2⟩) rfl
  have hjudge := (State.Runs.idleAuto (s.modTables fun t => { t with selector := x })).trans (.judgeAuto _)
  exact ⟨hwritten.trans hjudge.keeps, hjudge.room h⟩

theorem State.Keeps.loadBudget {x : BudgetParams} (hx : x.InRange) (h : s.HasRoom) :
    s.Keeps (s.loadBudget x) ∧ (s.loadBudget x).HasRoom := by
  have hwritten : s.Keeps (s.modTables fun t => { t with budget := x }) :=
    .modTables _ s (fun hT => ⟨hT.1, hT.2.1, hx, hT.2.2.2⟩) rfl
  have hcompute := State.Runs.computeBudget
    ((s.modTables fun t => { t with budget := x }).modMgmt fun m => { m with budgetMark := true })
  have hmarked := State.Keeps.modMgmt_marks (fun m => { m with budgetMark := true })
    (s.modTables fun t => { t with budget := x }) fun _ => ⟨rfl, rfl, rfl⟩
  exact ⟨(hwritten.trans hmarked).trans hcompute.keeps, hcompute.room h⟩

theorem State.Keeps.loadClass {x : ClassNo × ClassRecord} (hx : x.2.InRange) (h : s.HasRoom) :
    s.Keeps (s.loadClass x) ∧ (s.loadClass x).HasRoom := by
  refine ⟨.modTables _ s (fun hT => ?_) rfl, h⟩
  obtain ⟨hsource, hsel, hbudget, hcls, hrest⟩ := hT
  refine ⟨hsource, hsel, hbudget, fun c => ?_, hrest⟩
  rw [PerClass.get_set]
  split
  · exact hx
  · exact hcls c

theorem State.Keeps.loadPort {x : Port × PortRecord} (hx : x.2.InRange) (h : s.HasRoom) :
    s.Keeps (s.loadPort x) ∧ (s.loadPort x).HasRoom := by
  refine ⟨.modTables _ s (fun hT => ?_) rfl, h⟩
  obtain ⟨hsource, hsel, hbudget, hcls, hport, hrest⟩ := hT
  refine ⟨hsource, hsel, hbudget, hcls, fun p => ?_, hrest⟩
  rw [PerPort.get_set]
  split
  · exact hx
  · exact hport p

theorem State.Keeps.loadRoute {x : Nat × RouteEntry} (hx : x.2.InRange) (h : s.HasRoom) :
    s.Keeps (s.loadRoute x) ∧ (s.loadRoute x).HasRoom := by
  refine ⟨.modTables _ s (fun hT => ?_) rfl, h⟩
  obtain ⟨hsource, hsel, hbudget, hcls, hport, hlength, hroute, hrest⟩ := hT
  refine ⟨hsource, hsel, hbudget, hcls, hport, by rw [List.length_set]; exact hlength, fun e he => ?_, hrest⟩
  rcases List.mem_or_eq_of_mem_set he with hmem | heq
  · exact hroute e hmem
  · rw [heq]
    exact hx

/-- R125: the shadow phases that a load writes. -/
def State.withShadow (shadow : PerDest Nat) (s : State) : State :=
  { s with phases := PerDest.ofFn fun d => { s.phases.get d with shadow := shadow.get d } }

theorem State.loadTiming_eq (x : TimingRecord × PerDest Nat) (s : State) :
    s.loadTiming x = ((s.openWindow.modTables fun t => { t with timing := x.1 }).withShadow x.2).modTiming
      (Timing.loadNominal x.1.nominal) :=
  rfl

theorem State.Keeps.withShadow (shadow : PerDest Nat) (s : State) : s.Keeps (s.withShadow shadow) := by
  have hframe : (s.withShadow shadow).SameBut [.phases] s := by
    intro x hx; cases x <;> first | exact absurd (by decide) hx | rfl
  refine .of_traffic (hframe.weaken (by decide)) (fun _ => .rfl) id (fun h => ?_)
    (fun h => State.RefsCounted.congr h rfl fun _ => rfl) (fun h => h.congr rfl rfl rfl) fun _ => id
  obtain ⟨hinput, hlane, hnotice, hqueues, hmarks, hlength⟩ := h
  refine ⟨hinput, hlane, hnotice, hqueues, fun d => ?_, hlength⟩
  rw [State.withShadow, PerDest.get_ofFn]
  exact hmarks d

theorem State.Keeps.loadTiming {x : TimingRecord × PerDest Nat} (hx : x.1.InRange) (h : s.HasRoom) :
    s.Keeps (s.loadTiming x) ∧ (s.loadTiming x).HasRoom := by
  refine ⟨?_, h⟩
  rw [State.loadTiming_eq]
  refine (((State.Keeps.openWindow s).trans (.modTables _ _ (fun hT => ?_) rfl)).trans (.withShadow _ _)).trans
    (.modTiming _ _ fun _ hp => ?_)
  · obtain ⟨hsource, hsel, hbudget, hcls, hport, hlength, hroute, -, hrest⟩ := hT
    exact ⟨hsource, hsel, hbudget, hcls, hport, hlength, hroute, hx, hrest⟩
  · unfold Timing.loadNominal
    dsimp only
    split
    · exact ⟨hx.1, hx.2.1⟩
    · exact hp

theorem State.Keeps.loadTraffic {level : Nat} (hlow : 8 ≤ level) (hhigh : level ≤ 64) (h : s.HasRoom) :
    s.Keeps (s.loadTraffic level) ∧ (s.loadTraffic level).HasRoom := by
  let written : State := s.modTables fun t => { t with holdLevel := level }
  have htake : written.judgeTake.SameBut [.tables, .held, .links, .events] s :=
    (written.judgeTake_frame.weaken (by decide)).comp ((s.modTables_frame _).weaken (by decide)) fun _ hx => hx
  have hframe : (s.loadTraffic level).SameBut [.tables, .held, .links, .events] s :=
    (written.judgeTake.judgeFree_frame.weaken (by decide)).comp htake fun _ hx => hx
  have hlines : (s.loadTraffic level).SameLines s :=
    written.judgeTake.judgeFree_lines.trans (written.judgeTake_lines.trans (.of_links rfl))
  have hmgmt : (s.loadTraffic level).mgmt = s.mgmt := hframe .mgmt (by decide)
  have hqueues : (s.loadTraffic level).queues = s.queues := hframe .queues (by decide)
  have hrecords : (s.loadTraffic level).records = s.records := hframe .records (by decide)
  have htables : (s.loadTraffic level).tables = { s.tables with holdLevel := level } :=
    Eq.trans (written.judgeTake.judgeFree_frame .tables (by decide)) (written.judgeTake_frame .tables (by decide))
  refine ⟨.of_tables (hframe.weaken (by decide)) (fun p => by rw [(hlines _).2]) (by rw [hmgmt]; exact id)
    (fun h => h.congr hmgmt (hframe .phases (by decide)) (fun d => .inr (by rw [hqueues])) (by rw [hrecords]))
    (fun h => State.RefsCounted.congr h hrecords (State.refsAt_of_lines hlines hqueues))
    (fun _ => (State.judgeTake_pool (s := written) hlow hhigh).judgeFree) (fun hT => ?_)
    fun _ h => by rw [State.PeriodInRange, hframe .timing (by decide)]; exact h, h.congr (hlines .u).2 (by rw [hmgmt])⟩
  obtain ⟨hsource, hsel, hbudget, hcls, hport, hlength, hroute, htiming, -, -, hrest⟩ := hT
  rw [htables]
  exact ⟨hsource, hsel, hbudget, hcls, hport, hlength, hroute, htiming, hlow, hhigh, hrest⟩

theorem State.requestNotice_room (h : s.HasRoom) : s.requestNotice.HasRoom :=
  h.of_frame s.requestNotice_frame (by decide) (by decide)

theorem State.Keeps.requestNotice (s : State) : s.Keeps s.requestNotice := .of_frame s.requestNotice_frame (by decide)

theorem State.Keeps.writeEvents {x : EventSettings} (hx : (∀ i, (x.hub.get i).InRange) ∧ x.marks.InRange)
    (h : s.HasRoom) : s.Keeps (s.writeEvents x) ∧ (s.writeEvents x).HasRoom := by
  have hwritten : s.Keeps (s.modTables fun t => { t with events := x }) := by
    refine .modTables _ s (fun hT => ?_) rfl
    obtain ⟨hsource, hsel, hbudget, hcls, hport, hlength, hroute, htiming, hlow, hhigh, -⟩ := hT
    exact ⟨hsource, hsel, hbudget, hcls, hport, hlength, hroute, htiming, hlow, hhigh, hx⟩
  unfold State.writeEvents
  dsimp only
  split
  · exact ⟨hwritten.trans (.requestNotice _), State.requestNotice_room (s := s.modTables _) h⟩
  · exact ⟨hwritten, h⟩

/-! #### Commands (R142, R152, R163) -/

theorem State.Keeps.start (r : Request) (h : s.HasRoom) : s.Keeps (s.start r) := by
  unfold State.start
  split
  · exact .reply h r _
  · split
    · have hopen : s.Keeps (s.modMgmt fun m => { m with operational := true }) :=
        .modMgmt _ s (fun _ => rfl) fun hb => ⟨hb.1, hb.2.1, hb.2.2.1⟩
      have hrun := State.Runs.evaluate (s.modMgmt fun m => { m with operational := true })
      exact (hopen.trans hrun.keeps).trans (.reply (hrun.room h) r _)
    · exact .reply h r _

/-- A request that the power side acts on, and that is then answered. -/
theorem State.Runs.replied (hrun : s.Runs t) (h : s.HasRoom) (r : Request) (st : Status) : s.Keeps (t.reply r st) :=
  hrun.keeps.trans (.reply (hrun.room h) r st)

theorem State.Keeps.setSource {act : Source → State → State} (r : Request) (h : s.HasRoom)
    (hact : ∀ target a, s.sel.state = .active a → s.Keeps (act target s)) : s.Keeps (s.setSource r act) := by
  unfold State.setSource
  split
  · exact .reply h r _
  · split
    · exact .reply h r _
    · next a hst =>
      split
      · exact (State.Runs.dropChange s).replied h r _
      · exact hact _ a hst
    · exact .reply h r _

theorem State.Keeps.setSourceImmediate (r : Request) (h : s.HasRoom) : s.Keeps (s.setSourceImmediate r) := by
  unfold State.setSourceImmediate
  split
  · refine .setSource r h fun target _ _ => ?_
    unfold State.setImmediate
    split
    · exact (State.Runs.beginChangeover target s).replied h r _
    · exact .reply h r _
  · exact .reply h r _

theorem State.Keeps.setSourceFrameAligned (r : Request) (h : s.HasRoom) : s.Keeps (s.setSourceFrameAligned r) := by
  refine .setSource r h fun target a hst => ?_
  have hstore : s.Runs (s.modSel fun x => { x with change := some ⟨target, byte (byteAt r.payload 2)⟩ }) :=
    .modSel_timers _ s rfl fun ht => ⟨ht.1, ht.2.1, fun _ => by rw [hst]; rfl⟩
  exact (hstore.trans (.judgeChange _)).replied h r _

theorem State.Keeps.portControl {act : Port → State → State} (r : Request) (code : Nat) (h : s.HasRoom)
    (hact : ∀ p, s.Keeps (act p s)) : s.Keeps (s.portControl r code act) := by
  unfold State.portControl
  split
  · exact .reply h r _
  · split
    · exact hact _
    · exact .reply h r _

theorem State.Keeps.portEnable (r : Request) (h : s.HasRoom) : s.Keeps (s.portEnable r) :=
  .portControl r 1 h fun p => (State.Runs.enable p s).replied h r _

theorem State.Keeps.portDisable (r : Request) (h : s.HasRoom) : s.Keeps (s.portDisable r) :=
  .portControl r 2 h fun p => (State.Runs.disable p s).replied h r _

theorem State.Keeps.portReset (r : Request) (h : s.HasRoom) : s.Keeps (s.portReset r) := by
  refine .portControl r 3 h fun p => ?_
  split
  · next hreset => exact (State.Runs.resetPort hreset).replied h r _
  · exact .reply h r _

theorem State.Keeps.clearEvents (r : Request) (h : s.HasRoom) : s.Keeps (s.clearEvents r) :=
  .trans (.of_frame (s.clearItems_frame _) (by decide))
    (.reply (h.of_frame (s.clearItems_frame _) (by decide) (by decide)) r _)

/-! #### The counter dump (R149) -/

theorem State.Keeps.inHand (x : InHand) (s : State) : s.Keeps (s.modMgmt fun m => { m with inHand := x }) :=
  .modMgmt_marks _ s fun _ => ⟨rfl, rfl, rfl⟩

theorem State.Keeps.beginDump (snapshot : Counters) (h : s.HasRoom) : s.Keeps (s.beginDump snapshot) := by
  refine (State.Keeps.placeResponse h dumpCode (dumpPayload snapshot 0) none).trans ?_
  unfold State.beginDump State.dumpOthers
  split
  · exact .inHand _ _
  · exact .countEndpoint _ _ _

theorem State.Keeps.dumpPlain (r : Request) (h : s.HasRoom) : s.Keeps (s.dumpPlain r) := by
  unfold State.dumpPlain
  split
  · exact .beginDump _ h
  · exact .reply h r _

theorem State.Keeps.dumpClear (h : s.HasRoom) : s.Keeps s.dumpClear :=
  (State.Keeps.counters Counters.zero s).trans (.beginDump _ h)

theorem State.Keeps.dumpNext (s : State) : s.Keeps s.dumpNext := by
  unfold State.dumpNext
  split
  · split
    · next hmay =>
      simp only [State.dumpMayGo, Bool.and_eq_true, decide_eq_true_eq] at hmay
      refine (State.Keeps.inHand _ s).trans (.placeResponse (fun _ => ?_) _ _ _)
      exact hmay.2
    · exact .refl s
  · exact .refl s

/-! #### Notices and resets (R122, R123, R150, R151, R158) -/

theorem State.Keeps.placeNotice (s : State) : s.Keeps s.placeNotice := by
  unfold State.placeNotice
  split
  · next hmay =>
    simp only [State.noticeMayGo, Bool.and_eq_true, decide_eq_true_eq, Bool.not_eq_true'] at hmay
    obtain ⟨⟨-, hwaits⟩, hroom⟩ := hmay
    have hlane : s.Keeps (s.modMgmt fun m => { m with lane := m.lane ++ [.notice] }) := by
      refine .modMgmt _ s id fun hb => ⟨hb.1, ?_, ?_⟩
      · simpa [Config.laneSize] using hroom
      · have hnone : s.mgmt.lane.count .notice = 0 := List.count_eq_zero.mpr fun hmem => by
          have : s.noticeWaits = true := List.any_eq_true.mpr ⟨.notice, hmem, by simp⟩
          rw [this] at hwaits
          cases hwaits
        simp [List.count_append, hnone]
    refine hlane.trans (.of_frame (m := [.events]) ?_ (by decide))
    intro x hx; cases x <;> first | exact absurd (by decide) hx | rfl
  · exact .refl s

/-- R122: every queue, slot, record and transmission gone, and the pool CLEAR. -/
def State.trafficEmptied (s : State) : State := { s.clearTraffic with held := false }

/-- R122, R123: the flow message of the pool posted, and the port links taken to WAIT. -/
def State.restarted (k : FlowKind) (s : State) : State := (s.postFlowAll k).portsToWait

theorem State.resetTraffic_eq (s : State) :
    s.resetTraffic =
      if s.noticeInFlight then (s.trafficEmptied.restarted .resume).noticeLost
      else s.trafficEmptied.restarted .resume :=
  rfl

theorem Link.toWait_tx (l : Link) : l.toWait.tx = l.tx := by
  unfold Link.toWait
  split <;> rfl

theorem Link.toWait_down (l : Link) : l.toWait.state = .down ↔ l.state = .down := by
  unfold Link.toWait
  split
  · exact .rfl
  · next h => exact ⟨fun hd => (by cases hd), fun hd => absurd hd h⟩

theorem State.portsToWait_tx (s : State) (d : Dest) : (s.portsToWait.links.get d).tx = (s.links.get d).tx := by
  cases d with
  | u => rfl
  | port p => simp only [State.portsToWait, PerDest.get, PerPort.get_ofFn, Link.toWait_tx]

/-- R123: no port link passes to or from DOWN. -/
theorem State.portsToWait_down (s : State) (p : Port) :
    s.portsToWait.linkState (.port p) = .down ↔ s.linkState (.port p) = .down := by
  simp only [State.linkState, State.portsToWait, PerDest.get, PerPort.get_ofFn, Link.toWait_down]

theorem State.trafficEmptied_frame (s : State) :
    s.trafficEmptied.SameBut [.links, .queues, .records, .held, .mgmt] s := by
  intro x hx; cases x <;> first | exact absurd (by decide) hx | rfl

theorem State.trafficEmptied_mgmt (s : State) : s.trafficEmptied.mgmt = { s.mgmt with lane := [] } := rfl

theorem State.trafficEmptied_queues (s : State) : s.trafficEmptied.queues = PerDest.rep Queues.reset := rfl

theorem State.trafficEmptied_records (s : State) :
    s.trafficEmptied.records = List.replicate Config.records none := rfl

theorem State.trafficEmptied_held (s : State) : s.trafficEmptied.held = false := rfl

theorem State.trafficEmptied_tx (s : State) (d : Dest) : (s.trafficEmptied.links.get d).tx = none := by
  simp only [State.trafficEmptied, State.clearTraffic, PerDest.get_ofFn, Link.cleared]

theorem State.trafficEmptied_linkState (s : State) (d : Dest) : s.trafficEmptied.linkState d = s.linkState d := by
  simp only [State.linkState, State.trafficEmptied, State.clearTraffic, PerDest.get_ofFn, Link.cleared]

theorem State.freeCells_of_empty (h : s.records = List.replicate Config.records none) : s.freeCells = 128 := by
  have hheld : s.heldCells = 0 := by
    rw [State.heldCells, h, List.map_replicate]
    decide
  rw [State.freeCells, hheld, Config.cells]

/-- A state without records and references. -/
theorem State.RefsCounted.of_empty (hrecords : s.records = List.replicate Config.records none)
    (hrefs : ∀ d, s.refsAt d = []) : s.RefsCounted := by
  intro i
  have hrecord : s.record i = none := by
    simp only [State.record, hrecords, List.getElem?_replicate]
    split <;> rfl
  rw [hrecord]
  simp [State.refsTo, hrefs]

theorem State.Keeps.trafficEmptied (s : State) : s.Keeps s.trafficEmptied := by
  have hframe := s.trafficEmptied_frame
  have hmgmt := s.trafficEmptied_mgmt
  refine .of_traffic (hframe.weaken (by decide)) (fun p => by rw [s.trafficEmptied_linkState])
    (by rw [hmgmt]; exact id) (fun h => ?_)
    (fun _ => .of_empty s.trafficEmptied_records fun d => ?_) (fun h => ?_) fun _ h => by
      rw [State.PeriodInRange, hframe .timing (by decide)]; exact h
  · obtain ⟨hinput, -, -, -, hmarks, -⟩ := h
    refine ⟨by rw [hmgmt]; exact hinput, by rw [hmgmt]; exact Nat.zero_le _, by rw [hmgmt]; exact Nat.zero_le _,
      fun d => ?_, by rw [hframe .phases (by decide)]; exact hmarks, ?_⟩
    · rw [s.trafficEmptied_queues, PerDest.get_rep]
      exact Queues.reset_bounded
    · rw [s.trafficEmptied_records]
      exact List.length_replicate
  · simp [State.refsAt, s.trafficEmptied_tx, s.trafficEmptied_queues, Queues.reset]
  · obtain ⟨hlow, hhigh, -⟩ := h
    rw [State.PoolJudged, hframe .tables (by decide), State.freeCells_of_empty s.trafficEmptied_records]
    exact ⟨hlow, hhigh, fun _ => by omega⟩

theorem State.Keeps.portsToWait (s : State) : s.Keeps s.portsToWait :=
  .of_traffic ((State.portsToWait_frame s).weaken (by decide)) s.portsToWait_down id
    (fun h => h.congr rfl rfl (fun _ => .inr rfl) rfl)
    (fun h => State.RefsCounted.congr h rfl fun d => by
      simp only [State.refsAt, s.portsToWait_tx]
      rfl)
    (fun h => h.congr rfl rfl rfl) fun _ h => h

theorem State.Keeps.postFlowAll (k : FlowKind) (s : State) : s.Keeps (s.postFlowAll k) :=
  State.Keeps.foldl (fun s d => State.Keeps.postFlow k d s) _ s

theorem State.Keeps.restarted (k : FlowKind) (s : State) : s.Keeps (s.restarted k) :=
  (State.Keeps.postFlowAll k s).trans (.portsToWait _)

theorem State.restarted_mgmt (k : FlowKind) (s : State) : (s.restarted k).mgmt = s.mgmt :=
  Eq.trans (State.portsToWait_frame _ .mgmt (by decide)) (State.postFlowAll_frame k s .mgmt (by decide))

theorem State.Keeps.resetTraffic (s : State) : s.Keeps s.resetTraffic := by
  have hkeeps := (State.Keeps.trafficEmptied s).trans (.restarted .resume _)
  rw [State.resetTraffic_eq]
  split
  · exact hkeeps.trans (.noticeLost _)
  · exact hkeeps

theorem State.resetTraffic_mgmt (s : State) : s.resetTraffic.mgmt = { s.mgmt with lane := [] } := by
  have hmgmt : (s.trafficEmptied.restarted .resume).mgmt = { s.mgmt with lane := [] } :=
    (s.trafficEmptied.restarted_mgmt .resume).trans s.trafficEmptied_mgmt
  rw [State.resetTraffic_eq]
  split
  · exact Eq.trans (State.noticeLost_frame _ .mgmt (by decide)) hmgmt
  · exact hmgmt

theorem State.Keeps.trafficReset (r : Request) (s : State) : s.Keeps (s.trafficReset r) :=
  ((State.Keeps.resetTraffic s).trans (.reply (fun _ => by rw [s.resetTraffic_mgmt]; exact Nat.zero_lt_succ 3) r _)).trans
    (.placeNotice _)

theorem State.Keeps.fullReset (r : Request) (h : s.HasRoom) : s.Keeps (s.fullReset r) := by
  have hreply := (State.Keeps.inHand .fullReset s).trans
    (.reply (s := s.modMgmt fun m => { m with inHand := .fullReset }) h r .ok)
  unfold State.fullReset
  dsimp only
  split
  · exact hreply
  · exact hreply.trans (.hubReset _)

end Management
end Sys2Proof.Machine

namespace Sys2Proof.Machine

open Sys2Proof

/-! ### No transmitter is idle for nothing (R99) -/

section Settled

variable {s t : State} {d e : Dest}

/-- Nothing is offered on a link, or its transmitter is busy. -/
def State.SettledAt (s : State) (d : Dest) : Prop := (s.links.get d).tx = none → s.firstOffer d = none

/-- A link is offered the same in two states, and sends the same. -/
structure State.SameOffers (t s : State) (d : Dest) : Prop where
  link : t.links.get d = s.links.get d
  queues : t.queues.get d = s.queues.get d
  grant : t.grantSlot d = s.grantSlot d
  lane : d = .u → t.mgmt.lane = s.mgmt.lane

theorem State.SameOffers.offers (h : t.SameOffers s d) (src : TxSource) : t.offers d src = s.offers d src := by
  have hstate : t.linkState d = s.linkState d := by rw [State.linkState, State.linkState, h.link]
  cases src with
  | flow => simp only [State.offers, h.link, hstate]
  | mark => simp only [State.offers, h.link, hstate]
  | grant => simp only [State.offers, h.grant, hstate]
  | lane =>
    by_cases hd : d = .u
    · simp only [State.offers, h.lane hd, hstate]
    · simp [State.offers, hd]
  | urgent => simp only [State.offers, h.link, h.queues, hstate]
  | bulk => simp only [State.offers, h.link, h.queues, hstate]

theorem State.SameOffers.settledAt (h : t.SameOffers s d) (hs : s.SettledAt d) : t.SettledAt d := by
  rw [State.SettledAt, State.firstOffer, funext h.offers, h.link]
  exact hs

theorem State.SameOffers.of_frame {m : List Part} (h : t.SameBut m s) (hlinks : Part.links ∉ m) (hqueues : Part.queues ∉ m)
    (hgrants : Part.grantSlots ∉ m) (hmgmt : Part.mgmt ∉ m) : t.SameOffers s d where
  link := congrArg (PerDest.get · d) (h .links hlinks)
  queues := congrArg (PerDest.get · d) (h .queues hqueues)
  grant := by
    have hslots : t.grantSlots = s.grantSlots := h .grantSlots hgrants
    cases d with
    | u => rfl
    | port p => exact congrArg (PerPort.get · p) hslots
  lane _ := congrArg Mgmt.lane (h .mgmt hmgmt)

/-- A source that offers a message sends it. -/
theorem State.begin_tx {src : TxSource} (h : s.offers d src = true) : ((s.begin d src).links.get d).tx ≠ none := by
  have hsent : ∀ (k : TxKind) (bytes : List Byte) (y : State), ((y.transmit d k bytes).links.get d).tx ≠ none :=
    fun k bytes y => by simp [State.transmit]
  cases src with
  | flow =>
    simp only [State.offers, Bool.and_eq_true, Option.isSome_iff_exists] at h
    obtain ⟨⟨k, hk⟩, -⟩ := h
    simp only [State.begin, hk]
    exact hsent _ _ _
  | mark =>
    simp only [State.offers, Bool.and_eq_true, Option.isSome_iff_exists] at h
    obtain ⟨⟨m, hm⟩, -⟩ := h
    simp only [State.begin, hm]
    exact hsent _ _ _
  | grant =>
    simp only [State.offers, Bool.and_eq_true, Option.isSome_iff_exists] at h
    obtain ⟨⟨g, hg⟩, -⟩ := h
    cases d with
    | u => cases hg
    | port p =>
      have hg : s.grantSlots.get p = some g := hg
      simp only [State.begin, hg]
      exact hsent _ _ _
  | lane =>
    unfold State.begin
    dsimp only
    split
    · next hlane => simp [State.offers, hlane] at h
    · exact hsent _ _ _
    · exact hsent _ _ _
  | urgent =>
    unfold State.begin
    dsimp only
    split
    · next hqueue => simp [State.offers, hqueue] at h
    · exact hsent _ _ _
  | bulk =>
    unfold State.begin
    dsimp only
    split
    · next hqueue => simp [State.offers, hqueue] at h
    · exact hsent _ _ _

/-- What begins on one link is no offer of another. -/
theorem State.begin_sameOffers {src : TxSource} (h : s.offers d src = true) (hne : e ≠ d) :
    (s.begin d src).SameOffers s e := by
  have hother : ∀ (k : TxKind) (bytes : List Byte) (y : State), y.SameOffers s e → (y.transmit d k bytes).SameOffers s e :=
    fun k bytes y hy => ⟨(PerDest.get_set_of_ne _ _ _ _ hne).trans hy.link, hy.queues, by
      cases e <;> exact hy.grant, hy.lane⟩
  have hlink : ∀ f : Link → Link, (s.modLink d f).SameOffers s e := fun f =>
    ⟨PerDest.get_set_of_ne _ _ _ _ hne, rfl, by cases e <;> rfl, fun _ => rfl⟩
  have hqueue : ∀ f : Queues → Queues, (s.modQueues d f).SameOffers s e := fun f =>
    ⟨rfl, PerDest.get_set_of_ne _ _ _ _ hne, by cases e <;> rfl, fun _ => rfl⟩
  have hself : s.SameOffers s e := ⟨rfl, rfl, rfl, fun _ => rfl⟩
  cases src with
  | flow =>
    unfold State.begin
    dsimp only
    split
    · exact hself
    · exact hother _ _ _ (hlink _)
  | mark =>
    unfold State.begin
    dsimp only
    split
    · exact hself
    · exact hother _ _ _ (hlink _)
  | grant =>
    unfold State.begin
    dsimp only
    split
    · exact hself
    · next p =>
      split
      · exact hself
      · refine hother _ _ _ ⟨rfl, rfl, ?_, fun _ => rfl⟩
        cases e with
        | u => rfl
        | port q => exact PerPort.get_set_of_ne _ _ _ _ fun hq => hne (congrArg Dest.port hq)
  | lane =>
    have hd : d = .u := by
      simp only [State.offers, Bool.and_eq_true, decide_eq_true_eq] at h
      exact h.1.1
    have hlane : ∀ f : Mgmt → Mgmt, (s.modMgmt f).SameOffers s e := fun f =>
      ⟨rfl, rfl, by cases e <;> rfl, fun he => absurd (he.trans hd.symm) hne⟩
    unfold State.begin
    dsimp only
    split
    · exact hself
    · exact hother _ _ _ (hlane _)
    · exact hother _ _ _ (hlane _)
  | urgent =>
    unfold State.begin
    dsimp only
    split
    · exact hself
    · exact hother _ _ _ (hqueue _)
  | bulk =>
    unfold State.begin
    dsimp only
    split
    · exact hself
    · exact hother _ _ _ (hqueue _)

theorem State.select_settledAt (d : Dest) (s : State) : (s.select d).SettledAt d := by
  unfold State.select
  split
  · next hoffer => exact fun hidle => absurd hidle (State.begin_tx (List.find?_some hoffer))
  · next hnone =>
    intro hidle
    cases hoffer : s.firstOffer d with
    | none => rfl
    | some src => exact absurd hoffer (hnone src hidle)

theorem State.select_sameOffers (hne : e ≠ d) (s : State) : (s.select d).SameOffers s e := by
  unfold State.select
  split
  · next hoffer => exact State.begin_sameOffers (List.find?_some hoffer) hne
  · exact ⟨rfl, rfl, rfl, fun _ => rfl⟩

theorem State.foldl_select_settledAt (l : List Dest) (s : State) (h : e ∈ l ∨ s.SettledAt e) :
    (l.foldl (fun s d => s.select d) s).SettledAt e := by
  induction l generalizing s with
  | nil => exact h.resolve_left (List.not_mem_nil)
  | cons d l ih =>
    refine ih _ ?_
    by_cases hed : e = d
    · subst hed
      exact .inr (State.select_settledAt _ s)
    · exact h.imp (fun hmem => (List.mem_cons.mp hmem).resolve_left hed) fun hs => (State.select_sameOffers hed s).settledAt hs

theorem State.selectAll_settled (s : State) : s.selectAll.Settled := fun d =>
  State.foldl_select_settledAt Dest.all s (.inl (Dest.mem_all d))

theorem State.Settled.of_frame {m : List Part} (hs : s.Settled) (h : t.SameBut m s) (hlinks : Part.links ∉ m)
    (hqueues : Part.queues ∉ m) (hgrants : Part.grantSlots ∉ m) (hmgmt : Part.mgmt ∉ m) : t.Settled := fun d =>
  (State.SameOffers.of_frame h hlinks hqueues hgrants hmgmt).settledAt (hs d)

theorem State.supplyLoss_of_granted_nil (h : s.granted = []) : s.supplyLoss = s := by
  rw [State.supplyLoss, h]
  rfl

/-- R21: where no port holds a grant, CUT is entered by the selector and the budget alone. -/
theorem State.enterCut_eq_of_granted_nil (h : s.granted = []) :
    s.enterCut = (s.modSel fun _ => { state := .cut, deadTimer := none, autoTimer := none, change := none }).zeroBudget.raiseHub
      .cut := by
  rw [State.enterCut, State.loseSupply, State.supplyLoss_of_granted_nil]
  exact h

theorem State.enterCut_frame_of_granted_nil (h : s.granted = []) : s.enterCut.SameBut [.sel, .budget, .events] s := by
  rw [State.enterCut_eq_of_granted_nil h]
  exact (State.raiseHub_frame _ _).comp ((State.zeroBudget_frame _).comp ((s.modSel_frame _).weaken (by decide)) (by decide))
    (by decide)

theorem State.hubReset_settled (s : State) : s.hubReset.Settled := by
  have hreset := State.afterReset_settled s.pending s.now s.draws s.resetPin s.ecutPin
  unfold State.hubReset
  dsimp only
  split
  · exact hreset.of_frame (State.enterCut_frame_of_granted_nil rfl) (by decide) (by decide)
      (by decide) (by decide)
  · exact hreset

theorem State.cleanRunExpiry_settled (p : Port) (h : s.Settled) : (s.cleanRunExpiry p).Settled := by
  unfold State.cleanRunExpiry
  split
  · exact h
  · exact h

theorem State.strayStart_settled (d : Dest) (h : s.Settled) : (s.strayStart d).Settled :=
  h.of_frame (s.strayStart_frame d) (by decide) (by decide) (by decide) (by decide)

end Settled

/-! ### Every command completes and keeps every invariant -/

section Commands

variable {s t : State}

/-- An event keeps every invariant that its effect keeps, and leaves no transmitter idle for nothing. -/
theorem event_keeps {f : State → State} (hf : ∀ y : State, y.Keeps (f y)) (s : State) :
    ∃ t, event f s = .next t ∧ s.Keeps t ∧ (s.Settled → t.Settled) := by
  unfold event
  split
  · exact ⟨s, rfl, .refl s, id⟩
  · exact ⟨_, rfl, (hf s).trans (.selectAll _), fun _ => State.selectAll_settled _⟩

theorem quietEvent_keeps {f : State → State} (hf : ∀ y : State, y.Keeps (f y))
    (hsettled : ∀ y : State, y.Settled → (f y).Settled) (s : State) :
    ∃ t, quietEvent f s = .next t ∧ s.Keeps t ∧ (s.Settled → t.Settled) := by
  unfold quietEvent
  split
  · exact ⟨s, rfl, .refl s, id⟩
  · exact ⟨_, rfl, hf s, hsettled s⟩

theorem eventAfter_keeps {f : State → State} (hf : ∀ y : State, y.Keeps (f y)) {y : State} (h : s.Keeps y)
    (hsettled : s.Settled → y.Settled) : ∃ t, event f y = .next t ∧ s.Keeps t ∧ (s.Settled → t.Settled) := by
  obtain ⟨t, ht, hkeeps, hlast⟩ := event_keeps hf y
  exact ⟨t, ht, h.trans hkeeps, hlast ∘ hsettled⟩

/-- No invariant speaks of the level of the RESET pin. -/
theorem State.Keeps.setResetPin (b : Bool) (s : State) : s.Keeps { s with resetPin := b } :=
  .of_traffic (by intro x hx; cases x <;> first | exact absurd (by decide) hx | rfl) (fun _ => .rfl) id
    (fun h => h.congr rfl rfl (fun _ => .inr rfl) rfl) (fun h => State.RefsCounted.congr h rfl fun _ => rfl)
    (fun h => h.congr rfl rfl rfl) fun _ h => h

/-- No invariant speaks of the level of the ECUT pin. -/
theorem State.Keeps.setEcutPin (b : Bool) (s : State) : s.Keeps { s with ecutPin := b } :=
  .of_traffic (by intro x hx; cases x <;> first | exact absurd (by decide) hx | rfl) (fun _ => .rfl) id
    (fun h => h.congr rfl rfl (fun _ => .inr rfl) rfl) (fun h => State.RefsCounted.congr h rfl fun _ => rfl)
    (fun h => h.congr rfl rfl rfl) fun _ h => h

theorem exec_keeps (c : Instr) (s : State) : ∃ t, exec c s = .next t ∧ s.Keeps t ∧ (s.Settled → t.Settled) := by
  cases c with
  | powerOnReset => exact ⟨_, rfl, .hubReset s, fun _ => s.hubReset_settled⟩
  | resetAssert =>
    exact ⟨_, rfl, (State.Keeps.setResetPin true s).trans (.hubReset _), fun _ => State.hubReset_settled _⟩
  | resetRelease =>
    refine ⟨_, rfl, ?_⟩
    split
    · exact ⟨(State.Keeps.setResetPin false s).trans (.hubReset _), fun _ => State.hubReset_settled _⟩
    · exact ⟨.refl s, id⟩
  | scanCompletion samples order => exact event_keeps (fun y => (State.Runs.scan samples order y).keeps) s
  | qualifyTimerExpiry src => exact event_keeps (fun y => (State.Runs.qualifyTimerExpiry src y).keeps) s
  | failTimerExpiry src => exact event_keeps (fun y => (State.Runs.failTimerExpiry src y).keeps) s
  | deadTimeExpiry => exact event_keeps (fun y => (State.Runs.deadTimeExpiry y).keeps) s
  | autoReturnExpiry => exact event_keeps (fun y => (State.Runs.autoReturnExpiry y).keeps) s
  | ecutAssert => exact eventAfter_keeps (fun y => (State.Runs.enterCut y).keeps) (.setEcutPin true s) id
  | ecutRelease => exact eventAfter_keeps (fun y => (State.Runs.leaveCut y).keeps) (.setEcutPin false s) id
  | shedDelayExpiry => exact event_keeps (fun y => (State.Runs.shedDelayExpiry y).keeps) s
  | holdOffExpiry p => exact event_keeps (fun y => (State.Runs.holdOffExpiry p y).keeps) s
  | waitTimerExpiry p => exact event_keeps (fun y => (State.Runs.waitTimerExpiry p y).keeps) s
  | increaseWaitExpiry p => exact event_keeps (fun y => (State.Runs.increaseWaitExpiry p y).keeps) s
  | frameReception link bytes => exact event_keeps (.frameReception link bytes) s
  | transmissionComplete link => exact event_keeps (.transmissionComplete link) s
  | uLineSilent => exact event_keeps .uLineSilent s
  | uLineActive => exact event_keeps .uLineActive s
  | debounceExpiry p => exact event_keeps (fun y => (State.Runs.debounceExpiry p y).keeps) s
  | stepTimerExpiry p => exact event_keeps (fun y => (State.Runs.stepTimerExpiry p y).keeps) s
  | overdrawTimerExpiry p => exact event_keeps (fun y => (State.Runs.overdrawTimerExpiry p y).keeps) s
  | hardTrip p => exact event_keeps (fun y => (State.Runs.hardTrip p y).keeps) s
  | retryDelayExpiry p => exact event_keeps (fun y => (State.Runs.retryDelayExpiry p y).keeps) s
  | cleanRunExpiry p =>
    exact quietEvent_keeps (fun y => (State.Runs.cleanRunExpiry p y).keeps) (fun _ => State.cleanRunExpiry_settled p) s
  | fsyncEdge => exact event_keeps .fsyncEdge s
  | windowCloseNoEdge => exact event_keeps .windowClose s
  | frameBoundary => exact event_keeps (f := fun y => y.boundaryAt y.timing.nextBoundary) (fun y => .boundaryAt _ y) s
  | phaseRelease d => exact event_keeps (f := fun y => y.releaseUnreleased d) (.releaseUnreleased d) s
  | readStatus => exact event_keeps (.serve_with_room (by decide) fun r _ h => .readStatus r h) s
  | readPort => exact event_keeps (.serve_with_room (by decide) fun r _ h => .readPort r h) s
  | readTable => exact event_keeps (.serve_with_room (by decide) fun r _ h => .readTable r h) s
  | loadSource =>
    exact event_keeps (.serve_with_room (by decide) fun _ _ h => .load h fun _ hx =>
      State.Keeps.loadSource (parseSource_inRange hx) h) s
  | loadSelector =>
    exact event_keeps (.serve_with_room (by decide) fun _ _ h => .load h fun _ hx =>
      State.Keeps.loadSelector (parseSelector_inRange hx) h) s
  | loadBudget =>
    exact event_keeps (.serve_with_room (by decide) fun _ _ h => .load h fun _ hx =>
      State.Keeps.loadBudget (parseBudget_inRange hx) h) s
  | loadClass =>
    exact event_keeps (.serve_with_room (by decide) fun _ _ h => .load h fun _ hx =>
      State.Keeps.loadClass (parseClass_inRange hx) h) s
  | loadPort =>
    exact event_keeps (.serve_with_room (by decide) fun _ _ h => .load h fun _ hx =>
      State.Keeps.loadPort (parsePort_inRange hx) h) s
  | loadRoute =>
    exact event_keeps (.serve_with_room (by decide) fun _ _ h => .load h fun _ hx =>
      State.Keeps.loadRoute (parseRoute_inRange hx) h) s
  | loadTiming =>
    exact event_keeps (.serve_with_room (by decide) fun _ _ h => .load h fun _ hx =>
      State.Keeps.loadTiming (parseTiming_inRange hx) h) s
  | loadTraffic =>
    refine event_keeps (.serve_with_room (by decide) fun r _ h => .load h fun x hx => ?_) s
    obtain rfl : parseHoldLevel r.payload = x := Except.ok.inj hx
    exact State.Keeps.loadTraffic (parseHoldLevel_inRange _).1 (parseHoldLevel_inRange _).2 h
  | start => exact event_keeps (.serve_with_room (by decide) fun r _ h => .start r h) s
  | setSourceImmediate => exact event_keeps (.serve_with_room (by decide) fun r _ h => .setSourceImmediate r h) s
  | setSourceFrameAligned => exact event_keeps (.serve_with_room (by decide) fun r _ h => .setSourceFrameAligned r h) s
  | portControlEnable => exact event_keeps (.serve_with_room (by decide) fun r _ h => .portEnable r h) s
  | portControlDisable => exact event_keeps (.serve_with_room (by decide) fun r _ h => .portDisable r h) s
  | portControlReset => exact event_keeps (.serve_with_room (by decide) fun r _ h => .portReset r h) s
  | setEvents =>
    refine event_keeps (.serve_with_room (by decide) fun r _ h => .load h fun x hx => ?_) s
    obtain rfl : parseEvents r.payload = x := Except.ok.inj hx
    exact State.Keeps.writeEvents (parseEvents_inRange _) h
  | clearEvents => exact event_keeps (.serve_with_room (by decide) fun r _ h => .clearEvents r h) s
  | dumpCounters => exact event_keeps (.serve_with_room (by decide) fun r _ h => .dumpPlain r h) s
  | dumpCountersWithClear => exact event_keeps (.serve_with_room (by decide) fun _ _ h => .dumpClear h) s
  | dumpResponsePlaced => exact event_keeps .dumpNext s
  | trafficReset => exact event_keeps (.serve fun r y _ => .trafficReset r y) s
  | fullReset => exact event_keeps (.serve_with_room (by decide) fun r _ h => .fullReset r h) s
  | unknownRequest => exact event_keeps (.serve_with_room (by decide) fun r _ h => .reply h r _) s
  | noticePlaced => exact event_keeps .placeNotice s
  | strayStartDelimiter link => exact quietEvent_keeps (.strayStart link) (fun _ => State.strayStart_settled link) s

/-- Settles O2. -/
theorem everyCommandCompletes : Obligations.EveryCommandCompletes := fun c s => by
  obtain ⟨t, ht, hkeeps, -⟩ := exec_keeps c s
  exact ⟨t, ht, hkeeps.pending, hkeeps.now⟩

end Commands

/-! ### One microsecond -/

section Elapse

variable {s t : State}

theorem runDown_isSome (x : Option Nat) : (runDown x).isSome = x.isSome := by
  cases x <;> rfl

theorem PortUnit.Moves.elapse (u : PortUnit) : u.Moves u.elapse :=
  ⟨rfl, .rfl, .rfl, id, rfl, .inl rfl, fun h => by simpa only [PortUnit.TimersPlaced, PortUnit.elapse, runDown_isSome] using h⟩

/-- The timers of the sources, the selector and the budget unit run down. -/
def State.elapseSupply (s : State) : State :=
  { s with supply := ⟨s.supply.line.elapse, s.supply.batt.elapse⟩
           sel := { s.sel with deadTimer := runDown s.sel.deadTimer, autoTimer := runDown s.sel.autoTimer }
           budget := { s.budget with shedTimer := runDown s.budget.shedTimer } }

/-- The timers of the ports run down. -/
def State.elapsePorts (s : State) : State := { s with ports := PerPort.ofFn fun p => (s.ports.get p).elapse }

/-- The timers of the admission list run down. -/
def State.elapseEntries (s : State) : State := { s with admission := s.admission.map (Entry.elapse s.inForce) }

theorem State.elapse_eq (h : s.resetPin = false) :
    s.elapse = ({ s with now := s.now + 1 } : State).elapseSupply.elapsePorts.elapseEntries.openWindow := by
  rw [State.elapse, if_neg (by simp [h])]
  rfl

theorem State.Runs.elapseSupply (s : State) : s.Runs s.elapseSupply := by
  refine .of_supply (fun x hx => ?_) (fun ht => ?_) (fun _ => id) id id
  · cases x <;> first | exact absurd (by decide) hx | rfl
  · obtain ⟨hsources, hsel, hshed, -⟩ := ht
    refine ⟨fun src => ?_, ?_, ?_⟩
    · have hsource := hsources src
      cases src <;> simpa only [State.elapseSupply, PerSource.get, SourceMonitor.TimersPlaced, SourceMonitor.elapse,
        runDown_isSome] using hsource
    · simpa only [State.elapseSupply, Selector.TimersPlaced, runDown_isSome] using hsel
    · simpa only [State.elapseSupply, runDown_isSome] using hshed

theorem State.Runs.elapsePorts (s : State) : s.Runs s.elapsePorts := by
  refine .of_units (fun x hx => ?_) fun p _ => ?_
  · cases x <;> first | exact absurd (by decide) hx | rfl
  · rw [State.elapsePorts, PerPort.get_ofFn]
    exact .elapse _

theorem State.elapseEntries_entryOf (s : State) (p : Port) :
    s.elapseEntries.entryOf p = (s.entryOf p).map (Entry.elapse s.inForce) :=
  List.find?_map ..

theorem State.Runs.elapseEntries (s : State) : s.Runs s.elapseEntries := by
  have hframe : s.elapseEntries.SameBut [.admission] s := fun x hx => by
    cases x <;> first | exact absurd (by decide) hx | rfl
  refine .of_views (.of_frame hframe (by decide)) (hframe.weaken (by decide)) (fun hs => hs.granted) (fun hs => ?_)
    (fun hs p => ?_) fun _ => .inl le_rfl
  · rw [State.elapseEntries, List.map_map]
    exact hs.entries
  · have hview : s.elapseEntries.view p = { s.view p with entry := (s.entryOf p).map (Entry.elapse s.inForce) } := by
      rw [← State.elapseEntries_entryOf]; rfl
    rw [hview]
    refine .with_entry (hs.view p) (fun e he => ?_) fun _ hd e he => ?_
    · obtain ⟨x, hx, rfl⟩ := Option.map_eq_some_iff.mp he
      exact (hs.view p).entry x hx
    · obtain ⟨x, hx, rfl⟩ := Option.map_eq_some_iff.mp he
      exact hd.entry x hx

theorem State.Keeps.elapse (s : State) : ({ s with now := s.now + 1 } : State).Keeps s.elapse := by
  by_cases hpin : s.resetPin = true
  · rw [State.elapse, if_pos hpin]
    exact .refl _
  · rw [State.elapse_eq (Bool.eq_false_iff.mpr hpin)]
    exact (((State.Runs.elapseSupply _).trans (.elapsePorts _)).trans (.elapseEntries _)).keeps.trans (.openWindow _)

theorem State.elapse_settled (h : s.Settled) : s.elapse.Settled := by
  unfold State.elapse
  split
  · exact h
  · exact h

/-- With commands due one of them is queued. -/
theorem State.idle_of_due (hpin : s.resetPin = false) (hdue : s.due ≠ []) :
    ∃ i ∈ s.due, s.idle = { s with pending := [i], draws := if s.due.length = 1 then s.draws else s.draws + 1 } := by
  unfold State.idle
  rw [if_neg (by simp [hpin])]
  split
  · next h => exact absurd h hdue
  · next i h => exact ⟨i, by simp [h], by simp [h]⟩
  · next i rest hrest h =>
    have hlt : Config.firstDue s.draws % (rest.length + 1) < (i :: rest).length := Nat.mod_lt _ (Nat.succ_pos _)
    refine ⟨(i :: rest)[_]'hlt, by rw [h]; exact List.getElem_mem hlt, ?_⟩
    rw [List.getD_eq_getElem _ _ hlt, h, if_neg (by simpa using hrest)]
    rfl

/-- An idle step passes a microsecond, or queues a command. -/
theorem State.idle_cases (s : State) :
    s.idle = s.elapse ∨ ∃ (q : List Instr) (n : Nat), s.idle = { s with pending := q, draws := n } := by
  by_cases hpin : s.resetPin = true
  · exact .inl (by rw [State.idle, if_pos hpin])
  · by_cases hdue : s.due = []
    · exact .inl (by rw [State.idle, if_neg hpin, hdue])
    · obtain ⟨i, -, hidle⟩ := State.idle_of_due (Bool.eq_false_iff.mpr hpin) hdue
      exact .inr ⟨_, _, hidle⟩

/-- Every step keeps every invariant. The queue and the clock, of which none speaks, may be what they like. -/
theorem step_keeps (h : step s = .next t) :
    (∃ (q : List Instr) (n : Nat), ({ s with pending := q, now := n } : State).Keeps t) ∧ (s.Settled → t.Settled) := by
  unfold step at h
  split at h
  · obtain rfl := Host.Outcome.next.inj h
    rcases s.idle_cases with hidle | ⟨q, n, hidle⟩
    · rw [hidle]
      exact ⟨⟨s.pending, _, .elapse s⟩, State.elapse_settled⟩
    · rw [hidle]
      refine ⟨⟨q, s.now, .of_frame (m := [.draws]) (fun x hx => ?_) (by decide)⟩, id⟩
      cases x <;> first | exact absurd (by decide) hx | rfl
  · next c rest _ =>
    obtain ⟨u, hu, hkeeps, hsettled⟩ := exec_keeps c { s with pending := rest }
    obtain rfl := Host.Outcome.next.inj (hu.symm.trans h)
    exact ⟨⟨rest, s.now, hkeeps⟩, hsettled⟩

/-- Settles O7. -/
theorem stepKeepsBounded : Obligations.StepKeepsBounded := fun s t h hstep => by
  obtain ⟨⟨_, _, hkeeps⟩, -⟩ := step_keeps hstep
  exact hkeeps.bounded h

/-- Settles O8. -/
theorem stepKeepsRefsCounted : Obligations.StepKeepsRefsCounted := fun s t h hstep => by
  obtain ⟨⟨_, _, hkeeps⟩, -⟩ := step_keeps hstep
  exact hkeeps.refs h

/-- Settles O9. -/
theorem stepKeepsPoolJudged : Obligations.StepKeepsPoolJudged := fun s t h hstep => by
  obtain ⟨⟨_, _, hkeeps⟩, -⟩ := step_keeps hstep
  exact hkeeps.pool h

/-- Settles O10. -/
theorem stepKeepsPowered : Obligations.StepKeepsPowered := fun s t h hstep => by
  obtain ⟨⟨_, _, hkeeps⟩, -⟩ := step_keeps hstep
  exact hkeeps.powered h

/-- Settles O11. -/
theorem stepKeepsLinksFollowing : Obligations.StepKeepsLinksFollowing := fun s t hp h hstep => by
  obtain ⟨⟨_, _, hkeeps⟩, -⟩ := step_keeps hstep
  exact hkeeps.links hp h

/-- Settles O12. -/
theorem stepKeepsRanges : Obligations.StepKeepsRanges := by
  refine ⟨fun s t h hstep => ?_, fun s t hr hp hstep => ?_⟩
  · obtain ⟨⟨_, _, hkeeps⟩, -⟩ := step_keeps hstep
    exact hkeeps.ranges h
  · obtain ⟨⟨_, _, hkeeps⟩, -⟩ := step_keeps hstep
    exact hkeeps.period hr hp

/-- Settles O13. -/
theorem stepKeepsTimersPlaced : Obligations.StepKeepsTimersPlaced := fun s t hp h hstep => by
  obtain ⟨⟨_, _, hkeeps⟩, -⟩ := step_keeps hstep
  exact hkeeps.timers hp h

/-- Settles O14. -/
theorem stepKeepsSettled : Obligations.StepKeepsSettled := fun _ _ h hstep => (step_keeps hstep).2 h

/-- Settles O15. -/
theorem stepKeepsBudgeted : Obligations.StepKeepsBudgeted := fun s t hp hr h hstep => by
  obtain ⟨⟨_, _, hkeeps⟩, -⟩ := step_keeps hstep
  exact hkeeps.budgeted hp hr h

end Elapse
end Sys2Proof.Machine

namespace Sys2Proof.Machine

open Sys2Proof

/-! ### The step and the resets -/

section Step

variable {s : State}

/-- Settles O1. -/
theorem stepRunsTheFrontCommand : Obligations.StepRunsTheFrontCommand := fun c rest s h => by
  rw [step, h]

/-- Settles O3. -/
theorem idleStep : Obligations.IdleStep := by
  intro s hpending
  have hstep : step s = .next s.idle := by rw [step, hpending]
  refine ⟨fun hpin => ?_, fun hpin hdue => ?_, fun hpin hdue => ?_⟩
  · rw [hstep, State.idle, if_pos hpin, State.elapse, if_pos hpin]
  · obtain ⟨i, hi, hidle⟩ := State.idle_of_due hpin hdue
    exact ⟨i, hi, by rw [hstep, hidle]⟩
  · rw [hstep, State.idle, if_neg (by simp [hpin]), hdue, State.elapse, if_neg (by simp [hpin])]
    rfl

theorem State.hubReset_of_no_cut (h : s.resetPin = false → s.ecutPin = false) :
    s.hubReset = State.afterReset s.pending s.now s.draws s.resetPin s.ecutPin :=
  if_neg fun ⟨hpin, hcut⟩ => by
    rw [h hpin] at hcut
    cases hcut

theorem State.hubReset_of_cut (hpin : s.resetPin = false) (hcut : s.ecutPin = true) :
    s.hubReset = (State.afterReset s.pending s.now s.draws s.resetPin s.ecutPin).enterCut :=
  if_pos ⟨hpin, hcut⟩

/-- Settles O5. -/
theorem resetCommands : Obligations.ResetCommands := by
  intro s
  have hrelease : exec .resetRelease s = .next (if s.resetPin then { s with resetPin := false }.hubReset else s) := rfl
  have hpower : exec .powerOnReset s = .next s.hubReset := rfl
  have hassert : exec .resetAssert s = .next { s with resetPin := true }.hubReset := rfl
  refine ⟨?_, fun hpin => ?_, fun hpin => ?_, fun hcut => ⟨fun hpin => ?_, fun hpin => ?_⟩, fun hcut => ?_⟩
  · rw [hassert, State.hubReset_of_no_cut fun h => (by cases h)]
  · rw [hpower, State.hubReset_of_no_cut fun h => (by simp [hpin] at h), hpin]
  · rw [hrelease, if_neg (by simp [hpin])]
  · rw [hpower, State.hubReset_of_no_cut fun _ => hcut, hpin, hcut]
  · rw [hrelease, if_pos hpin, State.hubReset_of_no_cut (s := { s with resetPin := false }) fun _ => hcut, hcut]
  · refine ⟨(State.afterReset s.pending s.now s.draws false true).enterCut, fun hpin => ?_, fun hpin => ?_, ?_, ?_, ?_, ?_⟩
    · rw [hpower, State.hubReset_of_cut hpin hcut, hpin, hcut]
    · rw [hrelease, if_pos hpin, State.hubReset_of_cut (s := { s with resetPin := false }) rfl hcut, hcut]
    · rw [State.enterCut_eq_of_granted_nil rfl]
      exact congrArg Selector.state (State.raiseHub_sel _ _)
    · exact State.raise_set _ _
    · rw [State.enterCut_eq_of_granted_nil rfl]
      exact State.raiseHub_frame _ _ .budget (by decide)
    · exact (State.enterCut_frame_of_granted_nil rfl).weaken (by decide)

/-- Settles O4. -/
theorem resetValues : Obligations.ResetValues := by
  refine ⟨rfl, fun src => ?_, rfl, rfl, rfl, fun p u hu => ?_, fun d l hl => ?_, fun d => ?_, ?_, ?_, rfl, rfl, fun d => ?_,
    rfl, fun i => ?_, rfl, ?_, fun d => ?_, fun p => ?_, rfl, rfl, rfl, rfl, fun src => ?_, rfl, rfl, fun c => ?_, fun p => ?_,
    rfl, fun e he => ?_, rfl, rfl, fun i => ?_⟩
  · exact State.afterReset_supply ..
  · obtain rfl : PortUnit.reset = u := (State.afterReset_ports ..).symm.trans hu
    exact ⟨rfl, rfl, rfl, rfl, rfl, rfl, rfl, rfl, rfl, rfl, rfl, rfl, rfl, rfl, rfl, rfl, State.afterReset_grantSlots ..⟩
  · obtain rfl : Link.reset = l := (State.afterReset_links ..).symm.trans hl
    exact ⟨rfl, rfl, rfl, rfl, rfl⟩
  · exact State.afterReset_queues ..
  · exact State.afterReset_freeCells ..
  · rfl
  · rw [State.reset, State.afterReset_phases]
    exact ⟨rfl, rfl, rfl, rfl⟩
  · cases i with
    | hub i => exact PerHub.get_rep _ i
    | mark p => exact PerPort.get_rep _ p
  · rfl
  · exact PerDest.get_rep _ d
  · exact PerPort.get_rep _ p
  · exact PerSource.get_rep _ src
  · exact PerClass.get_rep _ c
  · exact PerPort.get_rep _ p
  · exact List.eq_of_mem_replicate he
  · cases i with
    | hub i => exact PerHub.get_rep _ i
    | mark p => rfl

end Step
end Sys2Proof.Machine

namespace Sys2Proof.Machine

open Sys2Proof

/-! ### The head, the victim, and the end of a shedding (R42, R46) -/

section Picking

variable {s : State} {e : Entry} {p : Port}

/-- A fold that keeps the first of a list to pass a test, and lets a later one replace it: what it picks replaces all
before it and is replaced by none behind it. -/
theorem foldl_pick_split {α : Type} {f : Option α → α → Option α} {test : α → Bool} {replaces : α → α → Prop}
    [DecidableRel replaces] (hskip : ∀ best a, test a = false → f best a = best)
    (hfirst : ∀ a, test a = true → f none a = some a)
    (hnext : ∀ a b, test a = true → f (some b) a = if replaces a b then some a else some b)
    (htrans : ∀ x a b, replaces x a → replaces a b → replaces x b)
    (hnot : ∀ x a b, replaces x b → ¬ replaces a b → replaces x a)
    (l : List α) (best : Option α) (x : α) (h : l.foldl f best = some x) :
    (best = some x ∧ ∀ y ∈ l, test y = true → ¬ replaces y x) ∨
    ∃ before behind, l = before ++ x :: behind ∧ test x = true ∧ (∀ b ∈ best, replaces x b) ∧
      (∀ y ∈ before, test y = true → replaces x y) ∧ ∀ y ∈ behind, test y = true → ¬ replaces y x := by
  induction l generalizing best with
  | nil => exact .inl ⟨h, fun y hy => absurd hy List.not_mem_nil⟩
  | cons a l ih =>
    rw [List.foldl_cons] at h
    cases ha : test a with
    | false =>
      rw [hskip best a ha] at h
      have hskipped : ∀ {before : List α} {P : α → Prop}, (∀ y ∈ before, test y = true → P y) →
          ∀ y ∈ a :: before, test y = true → P y := fun hall y hy hty =>
        (List.mem_cons.mp hy).elim (fun heq => by rw [heq, ha] at hty; cases hty) fun hmem => hall y hmem hty
      rcases ih best h with ⟨hbest, hall⟩ | ⟨before, behind, rfl, htest, hb, hbefore, hbehind⟩
      · exact .inl ⟨hbest, hskipped hall⟩
      · exact .inr ⟨a :: before, behind, rfl, htest, hb, hskipped hbefore, hbehind⟩
    | true =>
      cases best with
      | none =>
        rw [hfirst a ha] at h
        rcases ih _ h with ⟨hbest, hall⟩ | ⟨before, behind, rfl, htest, hb, hbefore, hbehind⟩
        · obtain rfl := Option.some.inj hbest
          exact .inr ⟨[], l, rfl, ha, by simp, by simp, hall⟩
        · exact .inr ⟨a :: before, behind, rfl, htest, by simp,
            List.forall_mem_cons.mpr ⟨fun _ => hb a rfl, hbefore⟩, hbehind⟩
      | some b =>
        rw [hnext a b ha] at h
        split at h
        · next hab =>
          rcases ih _ h with ⟨hbest, hall⟩ | ⟨before, behind, rfl, htest, hb, hbefore, hbehind⟩
          · obtain rfl := Option.some.inj hbest
            exact .inr ⟨[], l, rfl, ha, by simpa using hab, by simp, hall⟩
          · exact .inr ⟨a :: before, behind, rfl, htest, by simpa using htrans x a b (hb a rfl) hab,
              List.forall_mem_cons.mpr ⟨fun _ => hb a rfl, hbefore⟩, hbehind⟩
        · next hab =>
          rcases ih _ h with ⟨hbest, hall⟩ | ⟨before, behind, rfl, htest, hb, hbefore, hbehind⟩
          · obtain rfl := Option.some.inj hbest
            exact .inl ⟨rfl, List.forall_mem_cons.mpr ⟨fun _ => hab, hall⟩⟩
          · exact .inr ⟨a :: before, behind, rfl, htest, hb,
              List.forall_mem_cons.mpr ⟨fun _ => hnot x a b (hb b rfl) hab, hbefore⟩, hbehind⟩

/-- R42: there is no head exactly while no entry is eligible. -/
theorem State.head_eq_none_iff : s.head = none ↔ ∀ e ∈ s.admission, e.eligible = false :=
  foldl_pick_eq_none_iff (fun best e h => if_neg (by simp [h])) fun best e h => by
    cases best with
    | none => simp [h]
    | some b => simp only [h, if_true]; split <;> rfl

/-- R42: the head stands before every entry of its priority. -/
theorem State.head_split (h : s.head = some e) : ∃ before behind, s.admission = before ++ e :: behind ∧
    e.eligible = true ∧ (∀ x ∈ before, x.eligible = true → s.priority x.port < s.priority e.port) ∧
    ∀ x ∈ behind, x.eligible = true → ¬ s.priority e.port < s.priority x.port := by
  have hsplit := foldl_pick_split (test := Entry.eligible)
    (replaces := fun x b : Entry => s.priority b.port < s.priority x.port) (fun best e h => if_neg (by simp [h]))
    (fun e h => if_pos h) (fun a b h => if_pos h) (fun x a b hx ha => lt_trans ha hx)
    (fun x a b hx ha => lt_of_le_of_lt (not_lt.mp ha) hx) s.admission none e h
  rcases hsplit with ⟨hnone, -⟩ | ⟨before, behind, heq, heligible, -, hbefore, hbehind⟩
  · cases hnone
  · exact ⟨before, behind, heq, heligible, hbefore, hbehind⟩

/-- R46: the victim stands behind every candidate of its priority. -/
theorem State.victim_split {candidate : Port → Bool} (h : s.victim candidate = some p) :
    ∃ before behind, s.granted = before ++ p :: behind ∧ candidate p = true ∧
      (∀ q ∈ before, candidate q = true → s.priority p ≤ s.priority q) ∧
      ∀ q ∈ behind, candidate q = true → ¬ s.priority q ≤ s.priority p := by
  have hsplit := foldl_pick_split (test := candidate) (replaces := fun x b => s.priority x ≤ s.priority b)
    (fun best e h => if_neg (by simp [h])) (fun e h => if_pos h) (fun a b h => if_pos h)
    (fun x a b hx ha => le_trans hx ha) (fun x a b hx ha => hx.trans (not_le.mp ha).le) s.granted none p h
  rcases hsplit with ⟨hnone, -⟩ | ⟨before, behind, heq, hcandidate, -, hbefore, hbehind⟩
  · cases hnone
  · exact ⟨before, behind, heq, hcandidate, hbefore, hbehind⟩

theorem State.shedLoop_of_free {candidate : State → Port → Bool} {need : Int} (n : Nat) (h : need ≤ s.free) :
    State.shedLoop candidate need n s = s := by
  cases n with
  | zero => rfl
  | succ n => exact if_pos h

theorem State.shed_granted_length (hp : p ∈ s.granted) : (s.shed p).granted.length < s.granted.length := by
  rw [State.shed_granted]
  exact List.length_filter_lt_length_iff_exists.mpr ⟨p, hp, by simp⟩

/-- R46: with a count for each port on the granted list shedding ends with F enough or without a candidate. -/
theorem State.shedLoop_ends (candidate : State → Port → Bool) (need : Int) (n : Nat) (s : State)
    (hlen : s.granted.length ≤ n) : need ≤ (State.shedLoop candidate need n s).free ∨
      (State.shedLoop candidate need n s).victim (candidate (State.shedLoop candidate need n s)) = none := by
  induction n generalizing s with
  | zero =>
    have hnil : s.granted = [] := List.length_eq_zero_iff.mp (Nat.le_zero.mp hlen)
    exact .inr (State.victim_eq_none_iff.mpr (by simp [State.shedLoop, hnil]))
  | succ n ih =>
    unfold State.shedLoop
    split
    · next h => exact .inl h
    · split
      · next h => exact .inr h
      · next q hq =>
        have := State.shed_granted_length (State.victim_mem hq)
        exact ih (s.shed q) (by omega)

/-- Settles O17. -/
theorem headVictimAndShedding : Obligations.HeadVictimAndShedding := by
  refine ⟨fun s => ⟨?_, fun e he => ?_⟩, fun s candidate => ⟨State.victim_eq_none_iff, fun p hp => ?_⟩,
    fun candidate need s => ⟨State.shedLoop_of_free _, ?_⟩⟩
  · rw [State.head_eq_none_iff]
    simp only [Entry.eligible, Option.isNone_eq_false_iff]
  · obtain ⟨before, behind, hlist, heligible, hbefore, hbehind⟩ := State.head_split he
    exact ⟨before, behind, hlist, Option.isNone_iff_eq_none.mp heligible,
      fun x hx hoff => hbefore x hx (Option.isNone_iff_eq_none.mpr hoff),
      fun x hx hoff => not_lt.mp (hbehind x hx (Option.isNone_iff_eq_none.mpr hoff))⟩
  · obtain ⟨before, behind, hlist, hcandidate, hbefore, hbehind⟩ := State.victim_split hp
    exact ⟨before, behind, hlist, hcandidate, hbefore, fun q hq hc => not_le.mp (hbehind q hq hc)⟩
  · exact (State.shedLoop_ends candidate need _ s le_rfl).imp_right State.victim_eq_none_iff.mp

end Picking
end Sys2Proof.Machine

namespace Sys2Proof.Machine

open Sys2Proof

/-! ### An evaluation runs to its end (R44, R45) -/

section Ending

variable {s t : State} {e x : Entry} {p q : Port} {prio : Nat}

theorem State.grantHead_classOf (e : Entry) (s : State) (p : Port) : (s.grantHead e).classOf p = s.classOf p := by
  refine State.classOf_congr (s.grantHead_frame e .tables (by decide)) ?_
  rw [State.grantHead_ports]
  split
  · next h =>
    subst h
    unfold State.grantedUnit
    split <;> rfl
  · rfl

theorem State.grantHead_priority (e : Entry) (s : State) (p : Port) : (s.grantHead e).priority p = s.priority p :=
  State.priority_congr (s.grantHead_frame e .tables (by decide)) (s.grantHead_classOf e p)

/-- No eligible entry is of a priority above this one. -/
def State.HeadBelow (s : State) (prio : Nat) : Prop := ∀ x ∈ s.admission, x.eligible = true → s.priority x.port ≤ prio

/-- The ports that an evaluation whose heads are of at most this priority may still grant: those with an entry, and
those that may be shed. -/
def State.grantable (s : State) (prio : Nat) : Finset Port :=
  (s.admission.map (·.port)).toFinset ∪ (s.granted.filter fun p => decide (s.priority p < prio)).toFinset

theorem State.mem_grantable : p ∈ s.grantable prio ↔
    (∃ x ∈ s.admission, x.port = p) ∨ (p ∈ s.granted ∧ s.priority p < prio) := by
  simp [State.grantable]

theorem State.grantable_card_le (s : State) (prio : Nat) :
    (s.grantable prio).card ≤ s.admission.length + s.granted.length :=
  (Finset.card_union_le _ _).trans (Nat.add_le_add ((List.toFinset_card_le _).trans (by simp))
    ((List.toFinset_card_le _).trans (List.length_filter_le _ _)))

theorem State.head_below (h : s.head = some e) : s.HeadBelow (s.priority e.port) := by
  obtain ⟨before, behind, hlist, -, hbefore, hbehind⟩ := State.head_split h
  intro x hx heligible
  rw [hlist, List.mem_append, List.mem_cons] at hx
  rcases hx with hx | rfl | hx
  · exact (hbefore x hx heligible).le
  · exact le_rfl
  · exact not_lt.mp (hbehind x hx heligible)

/-- R49: an entry after a shed is the SHED entry of the victim, or stood before. -/
theorem State.mem_shed_admission (h : x ∈ (s.shed p).admission) : x.port = p ∨ x ∈ s.admission := by
  rw [State.shed_admission, State.putEntry] at h
  split at h
  · obtain ⟨y, hy, rfl⟩ := List.mem_map.mp h
    split
    · exact .inl rfl
    · exact .inr hy
  · exact (List.mem_append.mp h).symm.imp (fun h => by rw [List.mem_singleton.mp h]; rfl) id

/-- R45, R49: one shed by pre-emption makes no head of a higher priority, and no new port grantable. -/
theorem State.shed_preempt (hp : p ∈ s.granted) (hless : s.priority p < prio) :
    (s.HeadBelow prio → (s.shed p).HeadBelow prio) ∧ (s.shed p).grantable prio ⊆ s.grantable prio := by
  refine ⟨fun h x hx heligible => ?_, fun q hq => ?_⟩
  · rw [State.shed_priority]
    rcases State.mem_shed_admission hx with rfl | hmem
    · exact hless.le
    · exact h x hmem heligible
  · rw [State.mem_grantable] at hq ⊢
    rw [State.shed_granted, State.shed_priority, List.mem_filter] at hq
    rcases hq with ⟨x, hx, rfl⟩ | ⟨⟨hq, -⟩, hprio⟩
    · rcases State.mem_shed_admission hx with rfl | hmem
      · exact .inr ⟨hp, hless⟩
      · exact .inl ⟨x, hmem, rfl⟩
    · exact .inr ⟨hq, hprio⟩

theorem State.shedLoop_preempt (need : Int) (n : Nat) (s : State) :
    (s.HeadBelow prio → (State.shedLoop (State.preemptCandidate prio) need n s).HeadBelow prio) ∧
      (State.shedLoop (State.preemptCandidate prio) need n s).grantable prio ⊆ s.grantable prio ∧
      ∀ q, (State.shedLoop (State.preemptCandidate prio) need n s).priority q = s.priority q := by
  induction n generalizing s with
  | zero => exact ⟨id, subset_rfl, fun _ => rfl⟩
  | succ n ih =>
    unfold State.shedLoop
    split
    · exact ⟨id, subset_rfl, fun _ => rfl⟩
    · split
      · exact ⟨id, subset_rfl, fun _ => rfl⟩
      · next q hq =>
        have hcandidate := State.victim_candidate hq
        simp only [State.preemptCandidate, Bool.and_eq_true, decide_eq_true_eq] at hcandidate
        obtain ⟨hbelow, hsub⟩ := State.shed_preempt (State.victim_mem hq) hcandidate.2
        obtain ⟨ihbelow, ihsub, ihprio⟩ := ih (s.shed q)
        exact ⟨ihbelow ∘ hbelow, ihsub.trans hsub, fun r => (ihprio r).trans (State.shed_priority q s r)⟩

/-- R47: the port that is granted is grantable no more, and no head of a higher priority appears. -/
theorem State.grantHead_progress (hprio : prio ≤ s.priority e.port) :
    (s.HeadBelow prio → (s.grantHead e).HeadBelow prio) ∧
      (s.grantHead e).grantable prio ⊆ (s.grantable prio).erase e.port := by
  refine ⟨fun h x hx heligible => ?_, fun q hq => ?_⟩
  · rw [State.grantHead_admission] at hx
    rw [State.grantHead_priority]
    exact h x (List.mem_of_mem_filter hx) heligible
  · rw [State.mem_grantable, State.grantHead_admission, State.grantHead_granted, State.grantHead_priority] at hq
    rw [Finset.mem_erase, State.mem_grantable]
    rcases hq with ⟨x, hx, rfl⟩ | ⟨hq, hless⟩
    · obtain ⟨hmem, hne⟩ := List.mem_filter.mp hx
      exact ⟨of_decide_eq_true hne, .inl ⟨x, hmem, rfl⟩⟩
    · have hne : q ≠ e.port := by
        rintro rfl
        omega
      rw [List.mem_append, List.mem_filter] at hq
      exact ⟨hne, .inr ⟨(hq.resolve_right fun hmem => hne (List.mem_singleton.mp hmem)).1, hless⟩⟩

/-- R45: the head, if there is one, needs more than F and the pre-emptable sum together. -/
def State.Stuck (s : State) : Prop :=
  ∀ e, s.head = some e → s.free + (s.preemptable (s.priority e.port) : Int) < s.need e

theorem State.Stuck.evaluateLoop (h : s.Stuck) (n : Nat) : State.evaluateLoop n s = s := by
  cases n with
  | zero => rfl
  | succ n =>
    unfold State.evaluateLoop
    split
    · rfl
    · next e he =>
      have := h e he
      rw [if_neg (by omega), if_neg (by omega)]

/-- R45: while a port is left for each count, the loop ends at a head that it can by no means grant. -/
theorem State.evaluateLoop_stuck (n : Nat) (s : State) (prio : Nat) (hbelow : s.HeadBelow prio)
    (hcard : (s.grantable prio).card ≤ n) : (State.evaluateLoop n s).Stuck := by
  induction n generalizing s prio with
  | zero =>
    intro e he
    have hmem : e.port ∈ s.grantable prio := State.mem_grantable.mpr (.inl ⟨e, State.head_mem he, rfl⟩)
    rw [Finset.card_eq_zero.mp (Nat.le_zero.mp hcard)] at hmem
    exact absurd hmem (Finset.notMem_empty _)
  | succ n ih =>
    unfold State.evaluateLoop
    split
    · next hnone => exact fun e he => by rw [hnone] at he; cases he
    · next e he =>
      have hhead := State.head_below he
      obtain ⟨-, -, -, heligible, -⟩ := State.head_split he
      have hmem : e.port ∈ s.grantable (s.priority e.port) := State.mem_grantable.mpr (.inl ⟨e, State.head_mem he, rfl⟩)
      have hless : ((s.grantable (s.priority e.port)).erase e.port).card ≤ n := by
        have hsub : s.grantable (s.priority e.port) ⊆ s.grantable prio := fun q hq => by
          rw [State.mem_grantable] at hq ⊢
          exact hq.imp_right fun ⟨hq, hlt⟩ => ⟨hq, hlt.trans_le (hbelow e (State.head_mem he) heligible)⟩
        have := Finset.card_erase_of_mem hmem
        have := Finset.card_le_card hsub
        omega
      have hgrant : ∀ y : State, y.HeadBelow (s.priority e.port) → y.priority e.port = s.priority e.port →
          y.grantable (s.priority e.port) ⊆ s.grantable (s.priority e.port) →
          (State.evaluateLoop n (y.grantHead e)).Stuck := fun y hy hprio hsub => by
        obtain ⟨hnext, hprogress⟩ := State.grantHead_progress hprio.ge
        exact ih _ _ (hnext hy)
          ((Finset.card_le_card (hprogress.trans (Finset.erase_subset_erase _ hsub))).trans hless)
      split
      · exact hgrant s hhead rfl subset_rfl
      · split
        · obtain ⟨hshed, hsub, hprio⟩ := State.shedLoop_preempt (prio := s.priority e.port) (s.need e) s.granted.length s
          exact hgrant _ (hshed hhead) (hprio _) hsub
        · next hfree hmeet =>
          intro x hx
          obtain rfl := Option.some.inj (he.symm.trans hx)
          omega

theorem State.evaluateLoop_add (k n : Nat) (s : State) (h : (State.evaluateLoop n s).Stuck) :
    State.evaluateLoop (n + k) s = State.evaluateLoop n s := by
  induction n generalizing s with
  | zero => exact State.Stuck.evaluateLoop h _
  | succ n ih =>
    rw [Nat.succ_add]
    unfold State.evaluateLoop at h ⊢
    cases hhead : s.head with
    | none => rfl
    | some e =>
      simp only [hhead] at h ⊢
      split
      · next hfree =>
        rw [if_pos hfree] at h
        exact ih _ h
      · next hfree =>
        rw [if_neg hfree] at h
        split
        · next hmeet =>
          rw [if_pos hmeet] at h
          exact ih _ h
        · rfl

/-- Two counts that both reach the end reach the same end. -/
theorem State.evaluateLoop_eq {n m : Nat} (hn : (State.evaluateLoop n s).Stuck) (hm : (State.evaluateLoop m s).Stuck) :
    State.evaluateLoop n s = State.evaluateLoop m s := by
  rcases Nat.le_total n m with h | h
  · rw [← State.evaluateLoop_add (m - n) n s hn, Nat.add_sub_cancel' h]
  · rw [← State.evaluateLoop_add (n - m) m s hm, Nat.add_sub_cancel' h]

/-- R45: the count of an evaluation never runs out (log 24). -/
theorem State.evaluateLoop_lists_stuck (s : State) :
    (State.evaluateLoop (s.admission.length + s.granted.length) s).Stuck := by
  cases hhead : s.head with
  | none =>
    have hstuck : s.Stuck := fun e he => by rw [hhead] at he; cases he
    rwa [hstuck.evaluateLoop]
  | some e => exact State.evaluateLoop_stuck _ s _ (State.head_below hhead) (s.grantable_card_le _)

theorem State.evaluate_of_inForce (h : s.inForce = true) :
    s.evaluate = State.evaluateLoop (s.admission.length + s.granted.length) s :=
  if_pos h

/-- R45: an evaluation goes on from the state after its next step. -/
theorem State.evaluate_of_step (hs : s.inForce = true) (ht : t.inForce = true)
    (hstep : ∀ n, State.evaluateLoop (n + 1) s = State.evaluateLoop n t) : s.evaluate = t.evaluate := by
  rw [State.evaluate_of_inForce hs, State.evaluate_of_inForce ht, ← hstep]
  refine State.evaluateLoop_eq s.evaluateLoop_lists_stuck ?_
  rw [hstep]
  exact t.evaluateLoop_lists_stuck

theorem State.grantHead_inForce (e : Entry) (s : State) : (s.grantHead e).inForce = s.inForce :=
  State.inForce_of_frame ((s.grantHead_frame e).weaken (by decide))

theorem State.preempted_inForce (e : Entry) (s : State) : (s.preempted e).inForce = s.inForce :=
  State.inForce_of_frame ((s.shedUntil_frame _ _).weaken (by decide))

/-- Settles O16. -/
theorem evaluationRunsToItsEnd : Obligations.EvaluationRunsToItsEnd := by
  refine fun s => ⟨fun hforce => if_neg (by simp [hforce]), fun hforce hhead => ?_, fun e hforce hhead => ⟨fun hfree => ?_,
    fun hfree hmeet => ?_, fun hmeet => ?_⟩, fun n => ?_, fun e => ?_, fun hforce => ?_⟩
  · have hstuck : s.Stuck := fun e he => by rw [hhead] at he; cases he
    rw [State.evaluate_of_inForce hforce, hstuck.evaluateLoop]
  · refine State.evaluate_of_step hforce ((s.grantHead_inForce e).trans hforce) fun n => ?_
    simp only [State.evaluateLoop, hhead, if_pos hfree]
  · refine State.evaluate_of_step (t := (s.preempted e).grantHead e) hforce
      ((State.grantHead_inForce e _).trans ((s.preempted_inForce e).trans hforce)) fun n => ?_
    simp only [State.evaluateLoop, hhead, if_neg (not_le.mpr hfree), if_pos hmeet]
    rfl
  · have hstuck : s.Stuck := fun x hx => by
      obtain rfl := Option.some.inj (hhead.symm.trans hx)
      exact hmeet
    rw [State.evaluate_of_inForce hforce, hstuck.evaluateLoop]
  · refine congrArg (fun l => (List.map _ l).sum) (List.filter_congr fun p _ => ?_)
    rw [State.preemptCandidate, State.overcommitCandidate, Bool.and_right_comm]
  · unfold State.need
    cases e.reason <;> simp
  · rw [State.evaluate_of_inForce hforce]
    exact s.evaluateLoop_lists_stuck

end Ending
end Sys2Proof.Machine

namespace Sys2Proof.Machine

open Sys2Proof

/-! ### What a grant and the timers of the admission unit do (R47, R48, R50, R51, R78, R79) -/

section Effects

variable {s t : State} {e : Entry} {p : Port} {c : ClassRecord}

/-- R47, R59: the GRANT that a granted port is sent, where its link takes one. -/
theorem State.grantHead_grantSlots (e : Entry) (s : State) (q : Port) :
    (s.grantHead e).grantSlots.get q =
      if q = e.port ∧ (s.grantHead e).linkState (.port e.port) ≠ .down then
        some ⟨(s.grantedUnit e).grant, if (s.grantedUnit e).state = .limit then .limit else .on,
          ((s.classOf e.port).map (·.tolerance)).getD 0⟩
      else s.grantSlots.get q := by
  have hframe := s.grantHead_after_power e
  have hports : (s.grantPower e).ports.get e.port = s.grantedUnit e := by
    rw [← hframe .ports (by decide), State.grantHead_ports, if_pos rfl]
  have hlinks : (s.grantHead e).links = (s.grantPower e).links := hframe .links (by decide)
  have hclass : (s.grantPower e).classOf e.port = s.classOf e.port := by
    rw [← s.grantHead_classOf e, State.classOf_congr (s := s.grantHead e) (t := s.grantPower e)
      (hframe .tables (by decide)).symm (by rw [hframe .ports (by decide)])]
  have hslots : (s.grantPower e).grantSlots = s.grantSlots :=
    s.grantPower_after_lists e .grantSlots (by decide)
  have hstatus : (s.grantPower e).grantStatus e.port = if (s.grantedUnit e).state = .limit then .limit else .on := by
    rw [State.grantStatus, hports]
  rw [State.linkState, hlinks, State.grantHead_eq, State.countPort_grantSlots, State.postGrant_slot, hports, hclass,
    hslots, hstatus, State.linkState]

theorem State.grantHead_parts (e : Entry) (s : State) :
    (s.grantHead e).SameBut [.admission, .granted, .grantSlots, .ports, .links, .events, .counters] s := by
  have hlists : (s.grantLists e).SameBut [.admission, .granted, .ports] s := by
    intro x hx; cases x <;> first | exact absurd (by decide) hx | rfl
  exact (s.grantHead_after_power e).comp ((s.grantPower_after_lists e).comp (hlists.weaken (by decide)) (by decide))
    (by decide)

theorem State.grantHead_counters (e : Entry) (s : State) :
    (s.grantHead e).counters = (s.countPort e.port PortCounters.addGrant).counters := by
  have hcounters : (s.grantPower e).counters = s.counters := s.grantPower_after_lists e .counters (by decide)
  have hpost := (s.grantPower e).postGrant_frame e.port ((s.grantPower e).grantStatus e.port) .counters (by decide)
  have hsame : ((s.grantPower e).postGrant e.port ((s.grantPower e).grantStatus e.port)).counters = s.counters :=
    Eq.trans hpost hcounters
  rw [State.grantHead_eq, State.countPort_counters, State.countPort_counters, hsame]

/-- Settles O19. -/
theorem grantEffect : Obligations.GrantEffect := by
  intro s e hpowered hlinks he
  have hfed := (State.powered_iff.mp hpowered).1
  have hfit := hfed.fits he
  have hunit : (s.grantHead e).ports.get e.port = s.grantedUnit e := by rw [State.grantHead_ports, if_pos rfl]
  have hup : (s.grantHead e).linkState (.port e.port) ≠ .down := by
    rw [State.grantHead_linkState]
    split
    · decide
    · next h =>
      have hreason : e.reason = .increase := by simpa using h
      rw [State.EntryFits, if_pos hreason] at hfit
      exact fun hd => by rw [(hlinks e.port).mp hd] at hfit; cases hfit
  refine ⟨s.grantHead_granted e, s.grantHead_admission e, ?_, State.grantHead_free hfed he, fun hreason => ?_,
    fun hreason => ⟨?_, ?_⟩, fun c hc => ?_, fun q hq => ⟨?_, ?_⟩, ?_, s.grantHead_parts e⟩
  · rw [hunit, State.grantedUnit]
    split <;> rfl
  · rw [hunit, State.grantedUnit, if_neg hreason, State.grantHead_linkState, if_pos ⟨hreason, rfl⟩]
    refine ⟨rfl, rfl, rfl, fun c hc => ?_, rfl⟩
    rw [PortUnit.ramped, State.stepTime, hc]
    rfl
  · rw [hunit, State.grantedUnit, if_pos hreason]
  · rw [State.grantHead_links, if_pos hreason]
  · rw [State.grantHead_grantSlots, if_pos ⟨rfl, hup⟩, hc, State.grantedUnit]
    split
    · rfl
    · next hreason =>
      rw [State.EntryFits, if_neg hreason] at hfit
      rw [hfit]
      rfl
  · rw [State.grantHead_ports, if_neg hq]
  · rw [State.grantHead_grantSlots, if_neg fun h => hq h.1]
  · rw [State.grantHead_counters, State.countPort_counters, PerPort.get_set_self]
    rfl

/-- Settles O21. -/
theorem admissionTimerExpiries : Obligations.AdmissionTimerExpiries := by
  rintro s p e hrun he rfl
  refine ⟨fun hoff => ?_, fun hwait hforce hreason => ?_, fun hwait hforce hreason => ?_⟩
  · have hany : s.admission.any (fun x => decide (x.port = e.port) && x.holdOff.isSome) = true :=
      List.any_eq_true.mpr ⟨e, he, by simp [hoff]⟩
    exact event_of_running hrun (if_pos hany)
  · have hruns : s.waitRuns e.port (fun r => decide (r ≠ .increase)) = true :=
      State.waitRuns_iff.mpr ⟨hforce, e, he, rfl, hwait, decide_eq_true hreason⟩
    have hdenied : s.waitTimerExpiry e.port = ((s.removeEntry e.port).setPortState e.port .denied).raiseHub .admitDenied :=
      if_pos hruns
    have hstate := State.setPortState_frame e.port .denied (s.removeEntry e.port)
    have hraise := State.raiseHub_frame .admitDenied ((s.removeEntry e.port).setPortState e.port .denied)
    have hall := (State.selectAll_frame _).comp (hraise.weaken (n := [.links, .queues, .grantSlots, .mgmt, .events])
      (by decide)) (by decide)
    have hadmission : (State.selectAll (s.waitTimerExpiry e.port)).admission =
        s.admission.filter fun x => decide (x.port ≠ e.port) := by
      rw [hdenied]
      exact Eq.trans (hall .admission (by decide)) (hstate .admission (by decide))
    have hports : (State.selectAll (s.waitTimerExpiry e.port)).ports =
        ((s.removeEntry e.port).setPortState e.port .denied).ports := by
      rw [hdenied]
      exact hall .ports (by decide)
    refine ⟨_, event_of_running hrun rfl, ?_, hadmission, ?_, fun q hq => ?_, ?_, ?_⟩
    · rw [State.entryOf, hadmission]
      simp
    · rw [hports, State.setPortState_port, if_pos rfl]
    · rw [hports, State.setPortState_port, if_neg hq]
      rfl
    · rw [(State.selectAll_frame _ .events (by decide) : _ = _), hdenied]
      exact State.raise_set _ _
    · rw [hdenied]
      exact hall.comp (hstate.comp
        ((s.removeEntry_frame e.port).weaken (by decide)) (by decide)) (by decide)
  · have hruns : s.waitRuns e.port (fun r => decide (r = .increase)) = true :=
      State.waitRuns_iff.mpr ⟨hforce, e, he, rfl, hwait, decide_eq_true hreason⟩
    exact event_of_running hrun (if_pos hruns)

/-- Settles O35. -/
theorem retryAndCleanRun : Obligations.RetryAndCleanRun := by
  intro s p hrun
  refine ⟨fun c n hstate htimer hc hn => ⟨s.retryAlone p, ?_, ?_, fun q hq => ?_, ?_, ?_⟩, fun hstate htimer => ?_⟩
  · exact event_of_running hrun (if_pos ⟨hstate, htimer⟩)
  · rw [State.retryAlone_ports, if_pos rfl]
  · rw [State.retryAlone_ports, if_neg hq]
  · rw [State.retryAlone_admission, hn, Option.getD_some, State.clampDraw_of_class hc, State.waitTimer_of_class hc]
  · exact (s.retryAlone_frame p).weaken (by decide)
  · have hclean : s.cleanRunExpiry p = s.modPort p fun u => { u with cleanTimer := none, retryCount := 0 } :=
      if_pos ⟨hstate, htimer⟩
    have hexec : exec (.cleanRunExpiry p) s = quietEvent (State.cleanRunExpiry p) s := rfl
    rw [hexec, quietEvent, if_neg (by simp [hrun]), hclean]
    rfl

end Effects
end Sys2Proof.Machine

namespace Sys2Proof.Machine

open Sys2Proof

/-! ### How a changeover begins (R13, R17, R80) -/

section Changeover

variable {s t : State} {p q : Port} {e : Entry} {src target : Source}

/-- R80: the port pauses where a changeover begins. -/
def State.pauses (s : State) (p : Port) : Bool := (s.ports.get p).state.closed && !s.rideThrough p

theorem State.pause_eq (p : Port) (s : State) : s.pause p = if s.pauses p then s.pauseAlone p else s := rfl

theorem State.pause_ports (p : Port) (s : State) (q : Port) :
    (s.pause p).ports.get q =
      if q = p ∧ s.pauses q = true then { (s.ports.get q).unpowered with state := .paused } else s.ports.get q := by
  rw [State.pause_eq]
  split
  · rw [State.pauseAlone_ports]
    by_cases hq : q = p
    · subst hq; simp_all
    · simp [hq]
  · next h => rw [if_neg fun ⟨hq, hp⟩ => h (hq ▸ hp)]

theorem State.pause_rideThrough (p : Port) (s : State) (q : Port) : (s.pause p).rideThrough q = s.rideThrough q := by
  have hclass : (s.pause p).classOf q = s.classOf q := by
    refine State.classOf_congr (s.pause_frame p .tables (by decide)) ?_
    rw [State.pause_ports]
    split <;> rfl
  rw [State.rideThrough, hclass, ← State.rideThrough]

/-- A port that has paused pauses no more, and what another does stands. -/
theorem State.pause_pauses (p : Port) (s : State) (q : Port) :
    (s.pause p).pauses q = (s.pauses q && decide (q ≠ p)) := by
  rw [State.pauses, State.pause_ports, State.pause_rideThrough]
  by_cases hq : q = p
  · subst hq
    by_cases hpauses : s.pauses q = true
    · simp [hpauses, PortState.closed]
    · rw [if_neg fun h => hpauses h.2]
      exact (Bool.eq_false_iff.mpr hpauses).trans (by simp)
  · simp [hq, State.pauses]

theorem State.pause_linkState (p : Port) (s : State) (q : Port) :
    (s.pause p).linkState (.port q) = if q = p ∧ s.pauses q = true then .down else s.linkState (.port q) := by
  rw [State.pause_eq]
  by_cases hpauses : s.pauses p = true
  · rw [if_pos hpauses]
    by_cases hq : q = p
    · subst hq
      rw [State.pauseAlone_linkState, if_pos ⟨rfl, hpauses⟩]
    · rw [State.pauseAlone_linkState_of_ne (fun h => hq (Dest.port.inj h)), if_neg fun h => hq h.1]
  · rw [if_neg hpauses, if_neg fun ⟨hq, h⟩ => hpauses (hq ▸ h)]

theorem State.pause_admission (p : Port) (s : State) :
    (s.pause p).admission =
      s.admission.filter fun e => !(decide (e.reason = .increase) && decide (e.port = p) && s.pauses e.port) := by
  rw [State.pause_eq]
  split
  · next h =>
    rw [State.pauseAlone_admission]
    refine List.filter_congr fun e _ => ?_
    by_cases hp : e.port = p
    · simp [hp, h]
    · simp [hp]
  · next h =>
    refine (List.filter_eq_self.mpr fun e _ => ?_).symm
    by_cases hp : e.port = p
    · simp [hp, h]
    · simp [hp]

theorem State.pause_foldl (l : List Port) (s : State) :
    (∀ q, (l.foldl (fun s p => s.pause p) s).ports.get q =
      if q ∈ l ∧ s.pauses q = true then { (s.ports.get q).unpowered with state := .paused } else s.ports.get q) ∧
    (∀ q, (l.foldl (fun s p => s.pause p) s).linkState (.port q) =
      if q ∈ l ∧ s.pauses q = true then .down else s.linkState (.port q)) ∧
    (l.foldl (fun s p => s.pause p) s).admission =
      s.admission.filter (fun e => !(decide (e.reason = .increase) && decide (e.port ∈ l) && s.pauses e.port)) ∧
    (l.foldl (fun s p => s.pause p) s).granted = s.granted := by
  induction l generalizing s with
  | nil => simp
  | cons p l ih =>
    obtain ⟨hports, hlinks, hadmission, hgranted⟩ := ih (s.pause p)
    refine ⟨fun q => ?_, fun q => ?_, ?_, ?_⟩
    · rw [List.foldl_cons, hports, State.pause_pauses, State.pause_ports]
      by_cases hq : q = p
      · subst hq; simp
      · simp [hq]
    · rw [List.foldl_cons, hlinks, State.pause_pauses, State.pause_linkState]
      by_cases hq : q = p
      · subst hq; simp
      · simp [hq]
    · rw [List.foldl_cons, hadmission, State.pause_admission, List.filter_filter]
      refine List.filter_congr fun e _ => ?_
      rw [State.pause_pauses]
      by_cases hp : e.port = p
      · simp [hp]
      · simp [hp]
    · rw [List.foldl_cons, hgranted, State.pause_eq]
      split
      · exact State.pauseAlone_granted p s
      · rfl

/-- R13: the selector and the budget unit as a changeover begins. -/
def State.setOut (target : Source) (s : State) : State :=
  (s.modSel fun _ =>
    { state := .changeover target, deadTimer := some (s.tables.selector.deadTime * 10), autoTimer := none,
      change := none }).setOvercommit .clear

theorem State.beginChangeover_eq (target : Source) (s : State) :
    s.beginChangeover target = (s.setOut target).pauseAll := rfl

theorem State.beginChangeover_ports (target : Source) (s : State) (p : Port) :
    (s.beginChangeover target).ports.get p =
      if s.pauses p then { (s.ports.get p).unpowered with state := .paused } else s.ports.get p := by
  have hports := (State.pause_foldl Port.all (s.setOut target)).1 p
  simp only [Port.mem_all, true_and] at hports
  exact hports

theorem State.beginChangeover_linkState (target : Source) (s : State) (p : Port) :
    (s.beginChangeover target).linkState (.port p) = if s.pauses p then .down else s.linkState (.port p) := by
  have hlinks := (State.pause_foldl Port.all (s.setOut target)).2.1 p
  simp only [Port.mem_all, true_and] at hlinks
  exact hlinks

theorem State.beginChangeover_admission (target : Source) (s : State) :
    (s.beginChangeover target).admission =
      s.admission.filter fun e => !(decide (e.reason = .increase) && s.pauses e.port) := by
  have hlist := (State.pause_foldl Port.all (s.setOut target)).2.2.1
  simp only [Port.mem_all, decide_true, Bool.and_true] at hlist
  exact hlist

theorem State.beginChangeover_granted (target : Source) (s : State) :
    (s.beginChangeover target).granted = s.granted :=
  (State.pause_foldl Port.all (s.setOut target)).2.2.2

theorem State.beginChangeover_budget (target : Source) (s : State) :
    (s.beginChangeover target).budget = { s.budget with overcommit := .clear, shedTimer := none } :=
  State.pauseAll_frame (s.setOut target) .budget (by decide)

/-- R17: what auto-return would take the bus back to. -/
theorem State.autoTarget_eq_some_iff {q : Source} : s.autoTarget = some q ↔
    ∃ a, s.sel.state = .active a ∧ s.tables.selector.preferred = some q ∧ q ≠ a ∧ (s.supply.get q).qual = .usable := by
  unfold State.autoTarget
  cases hstate : s.sel.state with
  | active a =>
    cases hpreferred : s.tables.selector.preferred with
    | none => simp
    | some x =>
      by_cases hx : x ≠ a ∧ s.usable x = true
      · simp only [if_pos hx, Option.some.injEq, SelState.active.injEq, exists_eq_left']
        constructor
        · rintro rfl
          exact ⟨rfl, hx.1, of_decide_eq_true hx.2⟩
        · exact fun h => h.1
      · simp only [if_neg hx, reduceCtorEq, false_iff, SelState.active.injEq, exists_eq_left', Option.some.injEq]
        rintro ⟨rfl, hne, husable⟩
        exact hx ⟨hne, decide_eq_true husable⟩
  | _ => simp

theorem State.judgeAuto_of_target {q : Source} (h : s.autoTarget = some q) :
    s.judgeAuto = if s.sel.autoTimer.isSome then s else s.startAuto q := by
  rw [State.judgeAuto, h]

theorem State.judgeAuto_of_none (h : s.autoTarget = none) :
    s.judgeAuto = s.modSel fun x => { x with autoTimer := none } := by
  rw [State.judgeAuto, h]

/-- Settles O26. -/
theorem changeoverBegins : Obligations.ChangeoverBegins := by
  refine ⟨fun s target => ⟨s.beginChangeover_sel target, s.beginChangeover_budget target, s.beginChangeover_granted target,
    ?_, fun p hclosed hride => ?_, fun p hother => ?_, ?_⟩, fun s a q hrun hstate htimer hpreferred hne husable => ?_,
    fun s => ⟨fun a q hstate hpreferred hne husable => ?_, fun h => ?_⟩⟩
  · rw [State.inForce, State.beginChangeover_sel]
    exact Bool.and_false _
  · have hpauses : s.pauses p = true := by simp [State.pauses, hclosed, hride]
    rw [State.beginChangeover_ports, State.beginChangeover_linkState, if_pos hpauses, if_pos hpauses]
    exact ⟨rfl, rfl, rfl, rfl⟩
  · have hpauses : ¬ s.pauses p = true := by rcases hother with h | h <;> simp [State.pauses, h]
    rw [State.beginChangeover_ports, State.beginChangeover_linkState, if_neg hpauses, if_neg hpauses]
    exact ⟨rfl, rfl⟩
  · rw [State.beginChangeover_admission]
    refine List.filter_congr fun e _ => ?_
    rw [State.pauses, Bool.and_assoc]
  · refine event_of_running hrun ?_
    obtain ⟨n, hn⟩ := Option.isSome_iff_exists.mp htimer
    rw [State.autoReturnExpiry, hn, State.autoTarget_eq_some_iff.mpr ⟨a, hstate, hpreferred, hne, husable⟩]
  · have htarget : s.autoTarget = some q := State.autoTarget_eq_some_iff.mpr ⟨a, hstate, hpreferred, hne, husable⟩
    rw [State.judgeAuto_of_target htarget]
    refine ⟨fun htimer => if_pos htimer, fun htimer hdelay => ?_, fun htimer hdelay => ?_⟩
    · rw [if_neg (by simp [htimer]), State.startAuto, if_neg hdelay]
      rfl
    · rw [if_neg (by simp [htimer]), State.startAuto, if_pos hdelay]
  · refine (State.judgeAuto_of_none (Option.eq_none_iff_forall_ne_some.mpr fun q hq => ?_)).trans rfl
    obtain ⟨a, hstate, hpreferred, hne, husable⟩ := State.autoTarget_eq_some_iff.mp hq
    exact h a q hstate hpreferred hne husable

end Changeover
end Sys2Proof.Machine

namespace Sys2Proof.Machine

open Sys2Proof

/-! ### What transmit selection leaves (R99) -/

@[simp] theorem State.selectAll_pending (s : State) : s.selectAll.pending = s.pending := s.selectAll_frame .pending (by decide)
@[simp] theorem State.selectAll_now (s : State) : s.selectAll.now = s.now := s.selectAll_frame .now (by decide)
@[simp] theorem State.selectAll_draws (s : State) : s.selectAll.draws = s.draws := s.selectAll_frame .draws (by decide)
@[simp] theorem State.selectAll_resetPin (s : State) : s.selectAll.resetPin = s.resetPin := s.selectAll_frame .resetPin (by decide)
@[simp] theorem State.selectAll_ecutPin (s : State) : s.selectAll.ecutPin = s.ecutPin := s.selectAll_frame .ecutPin (by decide)
@[simp] theorem State.selectAll_supply (s : State) : s.selectAll.supply = s.supply := s.selectAll_frame .supply (by decide)
@[simp] theorem State.selectAll_busVolts (s : State) : s.selectAll.busVolts = s.busVolts := s.selectAll_frame .busVolts (by decide)
@[simp] theorem State.selectAll_tables (s : State) : s.selectAll.tables = s.tables := s.selectAll_frame .tables (by decide)
@[simp] theorem State.selectAll_sel (s : State) : s.selectAll.sel = s.sel := s.selectAll_frame .sel (by decide)
@[simp] theorem State.selectAll_budget (s : State) : s.selectAll.budget = s.budget := s.selectAll_frame .budget (by decide)
@[simp] theorem State.selectAll_admission (s : State) : s.selectAll.admission = s.admission := s.selectAll_frame .admission (by decide)
@[simp] theorem State.selectAll_granted (s : State) : s.selectAll.granted = s.granted := s.selectAll_frame .granted (by decide)
@[simp] theorem State.selectAll_ports (s : State) : s.selectAll.ports = s.ports := s.selectAll_frame .ports (by decide)
@[simp] theorem State.selectAll_records (s : State) : s.selectAll.records = s.records := s.selectAll_frame .records (by decide)
@[simp] theorem State.selectAll_held (s : State) : s.selectAll.held = s.held := s.selectAll_frame .held (by decide)
@[simp] theorem State.selectAll_phases (s : State) : s.selectAll.phases = s.phases := s.selectAll_frame .phases (by decide)
@[simp] theorem State.selectAll_timing (s : State) : s.selectAll.timing = s.timing := s.selectAll_frame .timing (by decide)
@[simp] theorem State.selectAll_events (s : State) : s.selectAll.events = s.events := s.selectAll_frame .events (by decide)
@[simp] theorem State.selectAll_counters (s : State) : s.selectAll.counters = s.counters := s.selectAll_frame .counters (by decide)

/-! ### What stands reported and counted while the power side works (R156, R164) -/

/-- From the first state to the second no event item is cleared, and the counters of the hub stand. -/
structure State.Reports (s t : State) : Prop where
  marks : ∀ i, (s.events.marks i).set = true → (t.events.marks i).set = true
  changeovers : t.counters.changeovers = s.counters.changeovers
  failures : t.counters.sourceFailures = s.counters.sourceFailures

section Reports

variable {s t u : State} {p : Port}

theorem State.Reports.refl (s : State) : s.Reports s := ⟨fun _ => id, rfl, rfl⟩

theorem State.Reports.trans (h : s.Reports t) (k : t.Reports u) : s.Reports u :=
  ⟨fun i => k.marks i ∘ h.marks i, k.changeovers.trans h.changeovers, k.failures.trans h.failures⟩

theorem State.Reports.foldl {α : Type} {f : State → α → State} (h : ∀ (s : State) a, s.Reports (f s a)) (l : List α)
    (s : State) : s.Reports (l.foldl f s) := by
  induction l generalizing s with
  | nil => exact .refl s
  | cons a l ih => exact (h s a).trans (ih _)

theorem State.Reports.of_eq (hevents : t.events = s.events) (hcounters : t.counters = s.counters) : s.Reports t :=
  ⟨fun i h => by rw [hevents]; exact h, by rw [hcounters], by rw [hcounters]⟩

theorem State.Reports.of_frame {m : List Part} (h : t.SameBut m s) (hevents : Part.events ∉ m)
    (hcounters : Part.counters ∉ m) : s.Reports t :=
  .of_eq (h .events hevents) (h .counters hcounters)

/-- A step that reports and counts nothing comes before. -/
theorem State.Reports.after (k : t.Reports u) (hevents : t.events = s.events) (hcounters : t.counters = s.counters) :
    s.Reports u :=
  (State.Reports.of_eq hevents hcounters).trans k

theorem State.Reports.raise (i : Item) (s : State) : s.Reports (s.raise i) :=
  ⟨fun j h => s.raise_set_of_set i j h, congrArg Counters.changeovers (s.raise_frame i .counters (by decide)),
    congrArg Counters.sourceFailures (s.raise_frame i .counters (by decide))⟩

theorem State.Reports.raiseHub (i : HubItem) (s : State) : s.Reports (s.raiseHub i) := .raise (.hub i) s

theorem State.Reports.countEndpoint (d : Dest) (f : EndpointCounters → EndpointCounters) (s : State) :
    s.Reports (s.countEndpoint d f) := ⟨fun _ => id, rfl, rfl⟩

theorem State.Reports.countPort (p : Port) (f : PortCounters → PortCounters) (s : State) :
    s.Reports (s.countPort p f) := ⟨fun _ => id, rfl, rfl⟩

theorem State.Reports.setPortState (p : Port) (st : PortState) (s : State) : s.Reports (s.setPortState p st) := by
  unfold State.setPortState
  split
  · exact .refl s
  · exact .after (.raise (.mark p) (s.modPort p fun u => { u with state := st })) rfl rfl

/-- R92: a link that goes down counts for its own endpoint. -/
theorem State.Reports.portLinkDown (p : Port) (s : State) : s.Reports (s.portLinkDown p) := by
  unfold State.portLinkDown
  split
  · exact .refl s
  · let y : State := s.modGrantSlot p none
    have hflush : y.Reports (y.flushLink (.port p)) :=
      .after (.trans (.countEndpoint (.port p) _
          ({ y with links := y.links.set (.port p) Link.reset, queues := y.queues.set (.port p) Queues.reset } : State))
        (.of_frame (State.releaseRefs_frame _ _) (by decide) (by decide))) rfl rfl
    exact .trans (.after hflush rfl rfl) (.of_eq rfl rfl)

theorem State.Reports.enterRamp (p : Port) (s : State) : s.Reports (s.enterRamp p) :=
  (State.Reports.setPortState p .ramp s).trans (.of_eq rfl rfl)

theorem State.Reports.shed (p : Port) (s : State) : s.Reports (s.shed p) := by
  rw [State.shed_eq]
  have hunpower : s.Reports (s.unpower p) :=
    .after (.trans (.setPortState p .waiting (s.leaveGranted p)) (.of_eq rfl rfl)) rfl rfl
  exact ((hunpower.trans (.portLinkDown p _)).trans (.of_frame (State.putEntry_frame _ _) (by decide) (by decide))).trans
    (.countPort _ _ _)

theorem State.Reports.shedLoop (candidate : State → Port → Bool) (need : Int) (n : Nat) (s : State) :
    s.Reports (State.shedLoop candidate need n s) := by
  induction n generalizing s with
  | zero => exact .refl s
  | succ n ih =>
    unfold State.shedLoop
    split
    · exact .refl s
    · split
      · exact .refl s
      · exact (State.Reports.shed _ s).trans (ih _)

theorem State.Reports.grantHead (e : Entry) (s : State) : s.Reports (s.grantHead e) := by
  rw [State.grantHead_eq]
  have hpower : s.Reports (s.grantPower e) := by
    unfold State.grantPower
    split
    · exact .of_eq rfl rfl
    · exact .after (.enterRamp e.port (s.grantLists e)) rfl rfl
  exact (hpower.trans (.of_frame (State.postGrant_frame _ _ _) (by decide) (by decide))).trans (.countPort _ _ _)

theorem State.Reports.evaluate (s : State) : s.Reports s.evaluate := by
  have hloop : ∀ (n : Nat) (s : State), s.Reports (State.evaluateLoop n s) := by
    intro n
    induction n with
    | zero => exact .refl
    | succ n ih =>
      intro s
      unfold State.evaluateLoop
      split
      · exact .refl s
      · split
        · exact (State.Reports.grantHead _ s).trans (ih _)
        · split
          · exact ((State.Reports.shedLoop _ _ _ s).trans (.grantHead _ _)).trans (ih _)
          · exact .refl s
  unfold State.evaluate
  split
  · exact hloop _ s
  · exact .refl s

theorem State.Reports.supplyLoss (s : State) : s.Reports s.supplyLoss :=
  .foldl (fun s p => by
    rw [State.losePort_eq]
    have hunpower : (s.removeIncrease p).Reports ((s.removeIncrease p).unpower p) :=
      .after (.trans (.setPortState p .waiting ((s.removeIncrease p).leaveGranted p)) (.of_eq rfl rfl)) rfl rfl
    exact .after ((hunpower.trans (.portLinkDown p _)).trans (.of_eq rfl rfl)) rfl rfl) _ s

theorem State.Reports.loseSupply (st : SelState) (s : State) : s.Reports (s.loseSupply st) :=
  .after (.supplyLoss _) rfl rfl

theorem State.Reports.beginChangeover (target : Source) (s : State) : s.Reports (s.beginChangeover target) := by
  rw [State.beginChangeover_eq]
  refine .after (.foldl (fun s p => ?_) Port.all (s.setOut target)) rfl rfl
  rw [State.pause_eq]
  split
  · have hunit : s.Reports (s.pauseUnit p) := (State.Reports.setPortState p .paused s).trans (.of_eq rfl rfl)
    exact hunit.trans (.portLinkDown p _)
  · exact .refl s

theorem State.Reports.judgeAuto (s : State) : s.Reports s.judgeAuto := by
  unfold State.judgeAuto State.startAuto
  split
  · exact .of_eq rfl rfl
  · split
    · exact .refl s
    · split
      · exact .beginChangeover _ s
      · exact .of_eq rfl rfl

theorem State.Reports.selectAll (s : State) : s.Reports s.selectAll :=
  .of_frame s.selectAll_frame (by decide) (by decide)

theorem State.Reports.rerampAll (s : State) : s.Reports s.rerampAll :=
  .foldl (fun s p => by
    unfold State.reramp
    split
    · exact (State.Reports.enterRamp p s).trans (.of_frame (State.postGrant_frame _ _ _) (by decide) (by decide))
    · exact .refl s) _ s

end Reports
end Sys2Proof.Machine

namespace Sys2Proof.Machine

open Sys2Proof

/-! ### Sources and the emergency cut (R3, R4, R10 to R12, R21, R22) -/

section Sources

variable {s t : State} {p : Port} {src : Source}

/-- R12, R21: the selector, the budget and the lists where the supply is lost. -/
theorem State.loseSupply_sel (st : SelState) (s : State) :
    (s.loseSupply st).sel = { state := st, deadTimer := none, autoTimer := none, change := none } :=
  State.supplyLoss_frame _ .sel (by decide)

theorem State.loseSupply_budget (st : SelState) (s : State) : (s.loseSupply st).budget = Budget.reset :=
  State.supplyLoss_frame _ .budget (by decide)

theorem State.loseSupply_granted (st : SelState) (s : State) : (s.loseSupply st).granted = [] :=
  State.supplyLoss_granted _

theorem State.loseSupply_port_of_not_granted (st : SelState) (hnodup : s.granted.Nodup) (hp : p ∉ s.granted) :
    (s.loseSupply st).ports.get p = s.ports.get p :=
  (State.losePorts_port (l := s.granted) hnodup
    (s.modSel fun _ => { state := st, deadTimer := none, autoTimer := none, change := none }).zeroBudget p).trans
    (if_neg hp)

theorem State.enterCut_after (s : State) : s.enterCut.SameBut [.events] (s.loseSupply .cut) :=
  State.raiseHub_frame .cut _

theorem State.enterNoSource_after (s : State) : s.enterNoSource.SameBut [.events] (s.loseSupply .noSource) :=
  State.raiseHub_frame .noSource _

/-- R10: which source START and NO_SOURCE close. -/
theorem State.sourceToClose_eq (s : State) : s.sourceToClose =
    if (s.supply.get .line).qual = .usable then
      if (s.supply.get .batt).qual = .usable then some (s.tables.selector.preferred.getD .line) else some .line
    else if (s.supply.get .batt).qual = .usable then some .batt else none := by
  unfold State.sourceToClose State.usable
  by_cases hline : (s.supply.get .line).qual = .usable <;> by_cases hbatt : (s.supply.get .batt).qual = .usable <;>
    simp [hline, hbatt]

/-- R10: the selector leaves START or NO_SOURCE where a source is USABLE. -/
theorem State.closeUsable_state (hst : s.sel.state = .start ∨ s.sel.state = .noSource) :
    s.closeUsable.sel.state = (s.sourceToClose.map SelState.active).getD s.sel.state := by
  unfold State.closeUsable
  rcases hst with hst | hst <;> rw [hst] <;> cases s.sourceToClose
  · exact hst
  · rfl
  · exact hst
  · exact congrArg Selector.state (State.raiseHub_sel _ _)

/-- R10: NO_SOURCE reports the source that it closes. -/
theorem State.closeUsable_of_noSource {q : Source} (hst : s.sel.state = .noSource) (hq : s.sourceToClose = some q) :
    s.closeUsable = (s.setSel (.active q)).raiseHub .sourceChanged := by
  rw [State.closeUsable, hst, hq]

/-- R10: anything else has nothing to close. -/
theorem State.closeUsable_of_other (hstart : s.sel.state ≠ .start) (hnone : s.sel.state ≠ .noSource) :
    s.closeUsable = s := by
  unfold State.closeUsable
  split
  · next h _ => exact absurd h hstart
  · next h _ => exact absurd h hnone
  · rfl

/-- R10: what closing a source changes. -/
theorem State.closeUsable_parts (s : State) : s.closeUsable.SameBut [.sel, .events] s := by
  unfold State.closeUsable
  split
  · exact (State.modSel_frame _ s).weaken (by decide)
  · exact (State.raiseHub_frame _ _).comp ((State.modSel_frame _ s).weaken (by decide)) (by decide)
  · exact .refl _ s

/-- R10, R17: a source that START or NO_SOURCE has closed is the preferred one, or the other is not USABLE. -/
theorem State.closeUsable_autoTarget (hst : s.sel.state = .start ∨ s.sel.state = .noSource) :
    s.closeUsable.autoTarget = none := by
  refine Option.eq_none_iff_forall_ne_some.mpr fun q hq => ?_
  obtain ⟨a, hactive, hpreferred, hne, husable⟩ := State.autoTarget_eq_some_iff.mp hq
  have hframe := s.closeUsable_parts
  rw [hframe .tables (by decide)] at hpreferred
  rw [hframe .supply (by decide)] at husable
  rw [State.closeUsable_state hst, State.sourceToClose_eq, hpreferred] at hactive
  by_cases hline : (s.supply.get .line).qual = .usable <;> by_cases hbatt : (s.supply.get .batt).qual = .usable
  · simp only [hline, hbatt, if_true, Option.map_some, Option.getD_some, SelState.active.injEq] at hactive
    exact hne hactive
  · simp only [hline, hbatt, if_true, if_false, Option.map_some, Option.getD_some, SelState.active.injEq] at hactive
    subst hactive
    cases q with
    | line => exact hne rfl
    | batt => exact hbatt husable
  · simp only [hline, hbatt, if_true, if_false, Option.map_some, Option.getD_some, SelState.active.injEq] at hactive
    subst hactive
    cases q with
    | line => exact hline husable
    | batt => exact hne rfl
  · simp only [hline, hbatt, if_false, Option.map_none, Option.getD_none] at hactive
    rcases hst with hst | hst <;> rw [hst] at hactive <;> cases hactive

/-- R10, R17: the auto-return timer stays idle where START or NO_SOURCE is left. -/
theorem State.closeUsable_judgeAuto (hst : s.sel.state = .start ∨ s.sel.state = .noSource) :
    s.closeUsable.judgeAuto = s.closeUsable.modSel fun x => { x with autoTimer := none } :=
  State.judgeAuto_of_none (State.closeUsable_autoTarget hst)

theorem State.closeUsable_of_start (hst : s.sel.state = .start) : s.closeUsable.SameBut [.sel] s := by
  unfold State.closeUsable
  split
  · exact State.modSel_frame _ s
  · next h _ => rw [hst] at h; cases h
  · exact .refl _ s

/-- R22: the release of ECUT in CUT. -/
theorem State.leaveCut_of_cut (hstate : s.sel.state = .cut) :
    s.leaveCut = (s.setSel .start).closeUsable.modSel fun x => { x with autoTimer := none } := by
  rw [State.leaveCut, if_pos hstate, State.closeUsable_judgeAuto (.inl rfl)]

theorem State.leaveCut_parts (s : State) : s.leaveCut.SameBut [.sel] s := by
  by_cases hstate : s.sel.state = .cut
  · rw [State.leaveCut_of_cut hstate]
    exact (State.modSel_frame _ _).comp ((State.closeUsable_of_start rfl).comp (State.modSel_frame _ s) (by decide)) (by decide)
  · rw [State.leaveCut, if_neg hstate]
    exact .refl _ s

/-- Settles O28. -/
theorem ecutCommands : Obligations.EcutCommands := by
  intro s
  have hassert : exec .ecutAssert s = event State.enterCut { s with ecutPin := true } := rfl
  have hrelease : exec .ecutRelease s = event State.leaveCut { s with ecutPin := false } := rfl
  refine ⟨fun hpin => ⟨?_, ?_⟩, fun hpin hpowered => ?_, fun hpin => ?_⟩
  · rw [hassert, event, if_pos hpin]
  · rw [hrelease, event, if_pos hpin]
  · let y : State := { s with ecutPin := true }
    have hfed : y.Fed := (State.powered_iff.mp ((State.Keeps.setEcutPin true s).powered hpowered)).1
    have hcut := (State.selectAll_frame y.enterCut).comp (y.enterCut_after.weaken
      (n := [.links, .queues, .grantSlots, .mgmt, .events]) (by decide)) (by decide)
    have hgranted : y.enterCut.granted = [] := Eq.trans (y.enterCut_after .granted (by decide)) (y.loseSupply_granted .cut)
    have hports : y.enterCut.selectAll.ports = (y.loseSupply .cut).ports := hcut .ports (by decide)
    refine ⟨y.enterCut.selectAll, event_of_running hpin rfl, ?_, ?_, ?_, ?_, ?_, fun p => ?_, fun p hp => ?_, ?_⟩
    · exact (hcut .ecutPin (by decide)).trans (State.loseSupply_frame .cut y .ecutPin (by decide))
    · exact Eq.trans (hcut .sel (by decide)) (y.loseSupply_sel .cut)
    · exact Eq.trans (hcut .budget (by decide)) (y.loseSupply_budget .cut)
    · exact Eq.trans (State.selectAll_frame _ .granted (by decide)) hgranted
    · exact (State.Reports.selectAll _).marks _ (State.raise_set _ _)
    · have hlisted := ((State.Runs.enterCut y).fed hfed).listed p
      rw [hgranted, ← (State.selectAll_frame y.enterCut .ports (by decide) : _ = y.enterCut.ports)] at hlisted
      refine Bool.eq_false_iff.mpr fun hclosed => ?_
      have := hlisted.mpr (PortState.holdsGrant_of_closed hclosed)
      simp at this
    · rw [hports]
      exact State.loseSupply_port_of_not_granted (s := y) .cut hfed.granted hp
    · exact (State.selectAll_frame _).comp ((State.enterCut_frame y).comp (m := Part.feeding) (by
        intro x hx; cases x <;> first | exact absurd (by decide) hx | rfl) (by decide)) (by decide)
  · let y : State := { s with ecutPin := false }
    have hpins : y.SameBut [.ecutPin] s := by
      intro x hx; cases x <;> first | exact absurd (by decide) hx | rfl
    refine ⟨y.leaveCut.selectAll, event_of_running hpin rfl, ?_, fun hstate => ?_, fun hstate => ?_, ?_⟩
    · exact (State.selectAll_ecutPin _).trans (State.leaveCut_parts y .ecutPin (by decide))
    · rw [State.leaveCut, if_neg hstate]
      exact State.selectAll_frame y .sel (by decide)
    · rw [State.selectAll_sel, State.leaveCut_of_cut (s := y) hstate]
      refine (State.closeUsable_state (s := y.setSel .start) (.inl rfl)).trans ?_
      rw [State.sourceToClose_eq]
      by_cases hline : (s.supply.get .line).qual = .usable <;> by_cases hbatt : (s.supply.get .batt).qual = .usable <;>
        simp [y, State.setSel, hline, hbatt]
    · exact (State.selectAll_frame _).comp ((State.leaveCut_parts y).comp (hpins.weaken (by decide)) (by decide)) (by decide)

/-! #### The timers of a source -/

theorem State.Reports.closeUsable (s : State) : s.Reports s.closeUsable := by
  unfold State.closeUsable
  split
  · exact .of_eq rfl rfl
  · exact .after (.raiseHub .sourceChanged (s.setSel _)) rfl rfl
  · exact .refl s

/-- R17: outside LINE and BATT auto-return has no target. -/
theorem State.autoTarget_of_inactive (h : s.sel.state.isActive = false) : s.autoTarget = none :=
  Option.eq_none_iff_forall_ne_some.mpr fun q hq => by
    have := State.autoTarget_active hq
    rw [h] at this
    cases this

/-- R17: without a target the judgement leaves all but the auto-return timer. -/
theorem State.judgeAuto_sel_of_none (h : s.autoTarget = none) :
    s.judgeAuto.sel = { s.sel with autoTimer := none } := by
  rw [State.judgeAuto_of_none h, State.modSel_sel]

/-- R3: the source is USABLE. -/
def State.qualified (src : Source) (s : State) : State :=
  s.modSource src fun m => { m with qual := .usable, qualifyTimer := none }

theorem State.becomeUsable_eq (src : Source) (s : State) :
    s.becomeUsable src = (s.qualified src).closeUsable.judgeAuto := rfl

theorem State.qualified_supply (src : Source) (s : State) : (s.qualified src).supply =
    s.supply.set src { s.supply.get src with qual := .usable, qualifyTimer := none } := rfl

theorem State.becomeUsable_supply (src : Source) (s : State) :
    (s.becomeUsable src).supply = s.supply.set src { s.supply.get src with qual := .usable, qualifyTimer := none } :=
  calc (s.becomeUsable src).supply
      = (s.qualified src).closeUsable.supply := State.judgeAuto_frame _ .supply (by decide)
    _ = (s.qualified src).supply := State.closeUsable_frame _ .supply (by decide)
    _ = _ := s.qualified_supply src

/-- R10: what a source that becomes USABLE makes START and NO_SOURCE close. -/
theorem State.qualified_sourceToClose (src : Source) (s : State) :
    (s.qualified src).sourceToClose = some (if (s.supply.get src.other).qual = .usable then
      s.tables.selector.preferred.getD .line else src) := by
  rw [State.sourceToClose_eq, State.qualified_supply]
  cases src with
  | line =>
    by_cases hbatt : (s.supply.get .batt).qual = .usable
    · simp [Source.other, hbatt, State.qualified, PerSource.get_set_of_ne]
    · simp [Source.other, hbatt, PerSource.get_set_of_ne]
  | batt =>
    by_cases hline : (s.supply.get .line).qual = .usable
    · simp [Source.other, hline, State.qualified, PerSource.get_set_of_ne]
    · simp [Source.other, hline, PerSource.get_set_of_ne]

theorem State.becomeUsable_state (hst : s.sel.state = .start ∨ s.sel.state = .noSource) :
    (s.becomeUsable src).sel.state = .active (if (s.supply.get src.other).qual = .usable then
      s.tables.selector.preferred.getD .line else src) := by
  rw [State.becomeUsable_eq, State.judgeAuto_sel_of_none (State.closeUsable_autoTarget (s := s.qualified src) hst),
    State.closeUsable_state (s := s.qualified src) hst, State.qualified_sourceToClose]
  rfl

theorem source_other_ne (src : Source) : src.other ≠ src := by cases src <;> decide

theorem State.failReported_supply (src : Source) (s : State) : (s.failReported src).supply =
    s.supply.set src { s.supply.get src with qual := .unusable, failTimer := none } :=
  State.raiseHub_frame _ _ .supply (by decide)

theorem State.failReported_sel (src : Source) (s : State) : (s.failReported src).sel = s.sel :=
  State.raiseHub_frame _ _ .sel (by decide)

theorem State.failReported_usable (src : Source) (s : State) :
    ((s.failReported src).supply.get src).qual ≠ .usable := by
  rw [State.failReported_supply, PerSource.get_set_self]
  exact nofun

theorem State.failReported_other (src : Source) (s : State) :
    (s.failReported src).supply.get src.other = s.supply.get src.other := by
  rw [State.failReported_supply, PerSource.get_set_of_ne _ _ _ _ (source_other_ne src)]

/-- R4, R11: where the source that failed does not feed the bus, the selector stands. -/
theorem State.sourceFailed_of_other (h : s.sel.state ≠ .active src) :
    s.sourceFailed src = (s.failReported src).modSel fun x => { x with autoTimer := none } := by
  rw [State.sourceFailed_eq, State.failReported_sel, if_neg h]
  refine State.judgeAuto_of_none (Option.eq_none_iff_forall_ne_some.mpr fun q hq => ?_)
  obtain ⟨a, hactive, -, hne, husable⟩ := State.autoTarget_eq_some_iff.mp hq
  rw [State.failReported_sel] at hactive
  have ha : a ≠ src := fun heq => h (heq ▸ hactive)
  have hq : q = src := by cases q <;> cases a <;> cases src <;> simp_all
  subst hq
  exact State.failReported_usable q s husable

/-- R11: where it does, and the other source is USABLE, a changeover to it begins. -/
theorem State.sourceFailed_of_usable (h : s.sel.state = .active src) (hother : (s.supply.get src.other).qual = .usable) :
    s.sourceFailed src =
      ((s.failReported src).beginChangeover src.other).modSel fun x => { x with autoTimer := none } := by
  have husable : (s.failReported src).usable src.other = true :=
    decide_eq_true ((congrArg SourceMonitor.qual (s.failReported_other src)).trans hother)
  rw [State.sourceFailed_eq, State.failReported_sel, if_pos h, State.activeFailed, if_pos husable]
  exact State.judgeAuto_of_none (State.autoTarget_of_inactive (by rw [State.beginChangeover_sel]; rfl))

/-- R11, R12: and else the selector enters NO_SOURCE. -/
theorem State.sourceFailed_of_none (h : s.sel.state = .active src) (hother : (s.supply.get src.other).qual ≠ .usable) :
    s.sourceFailed src = (s.failReported src).enterNoSource.modSel fun x => { x with autoTimer := none } := by
  have husable : (s.failReported src).usable src.other = false :=
    decide_eq_false fun heq => hother ((congrArg SourceMonitor.qual (s.failReported_other src)).symm.trans heq)
  rw [State.sourceFailed_eq, State.failReported_sel, if_pos h, State.activeFailed, if_neg (by simp [husable])]
  refine State.judgeAuto_of_none (State.autoTarget_of_inactive ?_)
  rw [State.enterNoSource_after _ .sel (by decide), State.loseSupply_sel]
  rfl

theorem State.Reports.sourceFailed (src : Source) (s : State) : (s.failReported src).Reports (s.sourceFailed src) := by
  by_cases h : s.sel.state = .active src
  · by_cases hother : (s.supply.get src.other).qual = .usable
    · rw [State.sourceFailed_of_usable h hother]
      exact (State.Reports.beginChangeover _ _).trans (.of_eq rfl rfl)
    · rw [State.sourceFailed_of_none h hother]
      exact ((State.Reports.loseSupply .noSource _).trans (.raiseHub _ _)).trans (.of_eq rfl rfl)
  · rw [State.sourceFailed_of_other h]
    exact .of_eq rfl rfl

theorem State.sourceFailed_supply (src : Source) (s : State) : (s.sourceFailed src).supply =
    s.supply.set src { s.supply.get src with qual := .unusable, failTimer := none } := by
  rw [← s.failReported_supply]
  by_cases h : s.sel.state = .active src
  · by_cases hother : (s.supply.get src.other).qual = .usable
    · rw [State.sourceFailed_of_usable h hother]
      exact State.beginChangeover_frame _ _ .supply (by decide)
    · rw [State.sourceFailed_of_none h hother]
      exact State.enterNoSource_frame _ .supply (by decide)
  · rw [State.sourceFailed_of_other h]
    rfl

theorem State.sourceFailed_failures (src : Source) (s : State) :
    (s.sourceFailed src).counters.sourceFailures = s.counters.sourceFailures + 1 :=
  (State.Reports.sourceFailed src s).failures.trans
    (congrArg Counters.sourceFailures (State.raiseHub_frame .sourceFailed _ .counters (by decide)))

theorem State.sourceFailed_mark (src : Source) (s : State) :
    ((s.sourceFailed src).events.marks (.hub .sourceFailed)).set = true :=
  (State.Reports.sourceFailed src s).marks _ (State.raise_set _ _)

/-- Settles O25. -/
theorem sourceTimerExpiries : Obligations.SourceTimerExpiries := by
  refine ⟨fun s src hrun hqual htimer => ?_, fun s src hrun hqual htimer => ?_⟩
  · have hsupply : (s.becomeUsable src).selectAll.supply = _ :=
      (State.selectAll_supply _).trans (s.becomeUsable_supply src)
    have hsel : (s.becomeUsable src).selectAll.sel = (s.becomeUsable src).sel := State.selectAll_sel _
    have hreports : s.Reports (s.becomeUsable src).selectAll :=
      .after (((State.Reports.closeUsable (s.qualified src)).trans (.judgeAuto _)).trans (.selectAll _)) rfl rfl
    refine ⟨_, event_of_running hrun (if_pos ⟨hqual, htimer⟩), ?_, ?_, ?_, hreports.changeovers, fun hst => ?_,
      fun hst => ?_, fun hst => ?_, fun hst => ?_, ?_⟩
    · rw [hsupply, PerSource.get_set_self]
    · rw [hsupply, PerSource.get_set_self]
    · rw [hsupply, PerSource.get_set_of_ne _ _ _ _ (source_other_ne src)]
    · rw [hsel, State.becomeUsable_state hst]
    · rw [State.becomeUsable_eq, State.closeUsable_of_noSource (s := s.qualified src) hst (s.qualified_sourceToClose src)]
      exact ((State.Reports.judgeAuto _).trans (.selectAll _)).marks _ (State.raise_set _ _)
    · have hclose := State.closeUsable_of_start (s := s.qualified src) hst
      rw [State.selectAll_events, State.becomeUsable_eq,
        State.closeUsable_judgeAuto (s := s.qualified src) (.inl hst)]
      exact hclose .events (by decide)
    · have hcut : (s.qualified src).sel.state = .cut := hst
      have hclose : (s.qualified src).closeUsable = s.qualified src :=
        State.closeUsable_of_other (by rw [hcut]; decide) (by rw [hcut]; decide)
      rw [hsel, State.becomeUsable_eq, hclose, State.judgeAuto_sel_of_none (State.autoTarget_of_inactive (by rw [hcut]; rfl))]
      exact hst
    · exact (State.selectAll_frame _).comp ((s.becomeUsable_frame src).weaken (by decide)) (by decide)
  · have hsupply : (s.sourceFailed src).selectAll.supply = _ :=
      (State.selectAll_supply _).trans (s.sourceFailed_supply src)
    have hsel : (s.sourceFailed src).selectAll.sel = (s.sourceFailed src).sel := State.selectAll_sel _
    refine ⟨_, event_of_running hrun (if_pos ⟨hqual, htimer⟩), ?_, ?_, ?_, ?_, ?_, fun hst => ?_, fun hst hother => ?_,
      fun hst hother => ⟨?_, ?_, ?_, ?_⟩, ?_⟩
    · rw [hsupply, PerSource.get_set_self]
    · rw [hsupply, PerSource.get_set_self]
    · rw [hsupply, PerSource.get_set_of_ne _ _ _ _ (source_other_ne src)]
    · exact (State.Reports.selectAll _).failures.trans (s.sourceFailed_failures src)
    · exact (State.Reports.selectAll _).marks _ (s.sourceFailed_mark src)
    · rw [hsel, State.sourceFailed_of_other hst, State.modSel_sel, State.failReported_sel]
    · have htables : (s.failReported src).tables = s.tables := State.raiseHub_frame _ _ .tables (by decide)
      rw [hsel, State.sourceFailed_of_usable hst hother, State.modSel_sel, State.beginChangeover_sel, htables]
    · rw [hsel, State.sourceFailed_of_none hst hother, State.modSel_sel, State.enterNoSource_after _ .sel (by decide),
        State.loseSupply_sel]
    · rw [State.selectAll_granted, State.sourceFailed_of_none hst hother]
      exact Eq.trans (State.enterNoSource_after _ .granted (by decide)) (State.loseSupply_granted _ _)
    · rw [State.selectAll_budget, State.sourceFailed_of_none hst hother]
      exact Eq.trans (State.enterNoSource_after _ .budget (by decide)) (State.loseSupply_budget _ _)
    · refine (State.Reports.selectAll _).marks _ ?_
      rw [State.sourceFailed_of_none hst hother]
      exact State.raise_set _ _
    · exact (State.selectAll_frame _).comp ((s.sourceFailed_frame src).weaken (by decide)) (by decide)

/-! #### The judgement of a source at a scan -/

theorem State.modSource_self {f : SourceMonitor → SourceMonitor} (hf : f (s.supply.get src) = s.supply.get src) :
    s.modSource src f = s := by
  rw [State.modSource, hf]
  cases src <;> rfl

/-- R3: the timer that a qualification starts with leaves nothing behind in a USABLE source. -/
theorem State.becomeUsable_of_qualifying (src : Source) (s : State) :
    (s.modSource src fun m => { m with qual := .qualifying, qualifyTimer := some 0 }).becomeUsable src =
      s.becomeUsable src := by
  have hqualified : (s.modSource src fun m => { m with qual := .qualifying, qualifyTimer := some 0 }).qualified src =
      s.qualified src := by
    cases src <;> rfl
  rw [State.becomeUsable_eq, hqualified, ← State.becomeUsable_eq]

/-- R4: nor does the fail timer in one that has failed. -/
theorem State.sourceFailed_of_failing (src : Source) (s : State) :
    (s.modSource src fun m => { m with failTimer := some 0 }).sourceFailed src = s.sourceFailed src := by
  have hreported : (s.modSource src fun m => { m with failTimer := some 0 }).failReported src = s.failReported src := by
    cases src <;> rfl
  rw [State.sourceFailed_eq, hreported, ← State.sourceFailed_eq]

theorem SourceRecord.qualifies_iff (r : SourceRecord) (v : Nat) :
    r.qualifies v = true ↔ r.cutoff + r.hysteresis ≤ v ∧ v ≤ r.overVoltage := by
  simp [SourceRecord.qualifies]

/-- Settles O24. -/
theorem sourceJudgement : Obligations.SourceJudgement := by
  rintro s src v r hv rfl
  have hfailed : ∀ y, y = s.sourceFailed src → (s.supply.get src).qual = .usable → (y.supply.get src).qual = .unusable ∧
      (y.supply.get src).failTimer = none ∧ y.counters.sourceFailures = s.counters.sourceFailures + 1 ∧
      (y.events.marks (.hub .sourceFailed)).set = true ∧ (s.resetPin = false →
        exec (.failTimerExpiry src) (s.modSource src fun m => { m with failTimer := some 0 }) = .next y.selectAll) := by
    rintro y rfl hqual
    refine ⟨?_, ?_, s.sourceFailed_failures src, s.sourceFailed_mark src, fun hrun => event_of_running hrun ?_⟩
    · rw [State.sourceFailed_supply, PerSource.get_set_self]
    · rw [State.sourceFailed_supply, PerSource.get_set_self]
    · rw [State.failTimerExpiry, State.modSource_supply, PerSource.get_set_self, if_pos ⟨hqual, rfl⟩,
        State.sourceFailed_of_failing]
  refine ⟨fun hqual hnot => ?_, fun hqual hlow hhigh htime => ?_, fun hqual hlow hhigh htime => ?_, fun hqual hlow hhigh => ?_,
    fun hqual hnot => ?_, fun hqual hlow hhigh => ?_, fun hqual hlow hhigh htime => ?_,
    fun hqual hlow hhigh htime htimer => ?_, fun hqual hfail => hfailed _ ?_ hqual⟩
  · simp only [State.scanSource, hv, hqual, SourceRecord.qualifies_iff, hnot, if_false]
  · simp only [State.scanSource, hv, hqual, SourceRecord.qualifies_iff, hlow, hhigh, and_self, if_true, htime, if_false]
  · have hscan : s.scanSource src = s.becomeUsable src := by
      simp only [State.scanSource, hv, hqual, SourceRecord.qualifies_iff, hlow, hhigh, and_self, if_true, htime]
    rw [hscan]
    refine ⟨by rw [State.becomeUsable_supply, PerSource.get_set_self], fun hrun => event_of_running hrun ?_⟩
    rw [State.qualifyTimerExpiry, State.modSource_supply, PerSource.get_set_self, if_pos ⟨rfl, rfl⟩,
      State.becomeUsable_of_qualifying]
  · simp only [State.scanSource, hv, hqual, SourceRecord.qualifies_iff, hlow, hhigh, and_self, if_true]
  · simp only [State.scanSource, hv, hqual, SourceRecord.qualifies_iff, hnot, if_false]
  · simp only [State.scanSource, hv, hqual, not_lt.mpr hlow, not_lt.mpr hhigh, if_false]
  · simp only [State.scanSource, hv, hqual, not_lt.mpr hhigh, hlow, htime, if_false, if_true]
    split
    · next htimer => exact (State.modSource_self (by rw [if_pos htimer])).symm
    · next htimer =>
      refine congrArg (fun m => ({ s with supply := s.supply.set src m } : State)) ?_
      beta_reduce
      rw [if_neg htimer]
  · simp only [State.scanSource, hv, hqual, not_lt.mpr hhigh, hlow, htimer, if_false, if_true]
  · rcases hfail with hover | ⟨hlow, htime, htimer⟩
    · simp only [State.scanSource, hv, hqual, hover, if_true]
    · simp [State.scanSource, hv, hqual, hlow, htime, htimer]

end Sources
end Sys2Proof.Machine

namespace Sys2Proof.Machine

open Sys2Proof

/-! ### Overcommit and the end of a changeover (R15, R16, R32 to R36) -/

section Overcommit

variable {s t : State} {p : Port}

theorem State.overcommitCandidate_eq_false_iff :
    s.overcommitCandidate p = false ↔ s.sheddable p = false ∨ (s.ports.get p).state = .paused := by
  simp [State.overcommitCandidate]
  cases s.sheddable p <;> simp

theorem State.setOvercommit_self {o : Overcommit} (h : s.budget = { s.budget with overcommit := o, shedTimer := none }) :
    s.setOvercommit o = s := by
  rw [State.setOvercommit, State.modBudget, ← h]

/-- R34: the shedding at the end of the shed delay. -/
def State.shedTo (s : State) : State := (s.setOvercommit .clear).shedUntil State.overcommitCandidate 0

theorem State.shedTo_budget (s : State) : s.shedTo.budget = { s.budget with overcommit := .clear, shedTimer := none } :=
  State.shedUntil_frame _ _ _ .budget (by decide)

/-- R34, R36: the overcommit state after it. -/
theorem State.shedTo_afterShedding (s : State) : s.shedTo.afterShedding =
    if 0 ≤ s.shedTo.free then s.shedTo
    else State.raise (.hub .overcommit) { s.shedTo with budget := { s.shedTo.budget with overcommit := .unresolved } } := by
  have hbudget := s.shedTo_budget
  unfold State.afterShedding
  split
  · exact State.setOvercommit_self (by rw [hbudget])
  · refine congrArg (State.raise (.hub .overcommit)) ?_
    rw [State.setOvercommit, State.modBudget, hbudget]

theorem State.judgeOvercommit_of_clear (hfree : s.free < 0) (h : s.budget.overcommit = .clear) :
    s.judgeOvercommit = s.startShedTimer := by
  simp only [State.judgeOvercommit, if_neg (not_le.mpr hfree), h]

theorem State.judgeOvercommit_of_unresolved (hfree : s.free < 0) (h : s.budget.overcommit = .unresolved) :
    s.judgeOvercommit = if s.granted.any s.overcommitCandidate then s.startShedTimer else s := by
  simp only [State.judgeOvercommit, if_neg (not_le.mpr hfree), h]

theorem State.evaluate_of_suspended (h : s.inForce = false) : s.evaluate = s := if_neg (by simp [h])

/-- Settles O31. -/
theorem overcommitAndShedDelay : Obligations.OvercommitAndShedDelay := by
  intro s u v w hu hv hw
  obtain rfl : u = s.shedTo := hu
  obtain rfl : v = s.shedTo.afterShedding := hv.trans s.shedTo_afterShedding.symm
  have hexpire : s.shedExpire = w := hw.symm
  have hends := State.shedLoop_ends State.overcommitCandidate 0 (s.setOvercommit .clear).granted.length
    (s.setOvercommit .clear) le_rfl
  refine ⟨fun hrun htimer => ?_, fun hfree p hp => ?_, ?_, s.shedTo_budget, fun hfree => ?_, fun hfree hstate => ?_,
    fun hfree hstate hnone => ?_, fun hfree hstate => ?_, fun a hactive => ?_, fun hother => ?_⟩
  · exact event_of_running hrun ((if_pos htimer).trans hexpire)
  · have hnone := hends.resolve_left (not_le.mpr hfree)
    exact State.overcommitCandidate_eq_false_iff.mp (State.victim_eq_none_iff.mp hnone p hp)
  · exact (State.shedUntil_frame _ _ (s.setOvercommit .clear)).comp ((s.setOvercommit_frame .clear).weaken
      (n := [.budget, .admission, .granted, .grantSlots, .ports, .links, .queues, .records, .held, .events, .counters])
      (by decide)) (by decide)
  · exact if_pos hfree
  · simp only [State.judgeOvercommit, if_neg (not_le.mpr hfree), hstate]
  · rw [State.judgeOvercommit_of_unresolved hfree hstate, if_neg]
    simpa [State.overcommitCandidate_eq_false_iff] using hnone
  · have hstart : s.judgeOvercommit = s.startShedTimer := by
      rcases hstate with hclear | ⟨hunresolved, p, hp, hshed, hpaused⟩
      · exact State.judgeOvercommit_of_clear hfree hclear
      · rw [State.judgeOvercommit_of_unresolved hfree hunresolved,
          if_pos (List.any_eq_true.mpr ⟨p, hp, by simp [State.overcommitCandidate, hshed, hpaused]⟩)]
    rw [hstart, State.startShedTimer]
    exact ⟨fun hdelay => if_neg hdelay, fun hdelay => (if_pos hdelay).trans hexpire⟩
  · have hsel : s.computeBudget.sel = s.sel := s.computeBudget_frame .sel (by decide)
    rw [State.scanBudget, hsel, hactive]
    rfl
  · have hsel : s.computeBudget.sel = s.sel := s.computeBudget_frame .sel (by decide)
    have hinactive : s.sel.state.isActive = false := by
      cases hstate : s.sel.state with
      | active a => exact absurd hstate (hother a)
      | _ => rfl
    have hsuspended : s.computeBudget.inForce = false := by rw [State.inForce, hsel, hinactive, Bool.and_false]
    simp only [State.scanBudget, hsel, hinactive]
    exact State.evaluate_of_suspended hsuspended

end Overcommit

section Arrival

variable {s t : State} {p : Port} {target : Source}

/-- R15: a re-ramp touches the port, its link and its GRANT slot, and sets its mark. -/
theorem State.reramp_parts (p : Port) (s : State) : (s.reramp p).SameBut [.ports, .events, .links, .grantSlots] s := by
  unfold State.reramp
  split
  · exact (State.postGrant_frame _ _ _).comp ((State.enterRamp_frame p s).weaken (by decide)) (by decide)
  · exact .refl _ s

theorem State.rerampAll_parts (s : State) : s.rerampAll.SameBut [.ports, .events, .links, .grantSlots] s :=
  State.SameBut.foldl (fun s p => State.reramp_parts p s) _ s

theorem State.reramp_links (p : Port) (s : State) (q : Port) :
    (s.reramp p).links.get (.port q) =
      if q = p ∧ (s.ports.get q).state = .paused then
        { s.links.get (.port q) with state := .wait, receivedHold := false }
      else s.links.get (.port q) := by
  unfold State.reramp
  by_cases hpaused : (s.ports.get p).state = .paused
  · rw [if_pos hpaused, State.postGrant_frame _ _ _ .links (by decide), State.enterRamp_links]
    by_cases hq : q = p
    · subst hq
      simp [hpaused]
    · rw [PerDest.get_set_of_ne _ _ _ _ fun h => hq (Dest.port.inj h), if_neg fun h => hq h.1]
  · rw [if_neg hpaused, if_neg fun ⟨hq, h⟩ => hpaused (hq ▸ h)]

theorem State.reramp_grantSlots (p : Port) (s : State) (q : Port) :
    (s.reramp p).grantSlots.get q =
      if q = p ∧ (s.ports.get q).state = .paused then
        some ⟨(s.ports.get q).grant, .on, ((s.classOf q).map (·.tolerance)).getD 0⟩
      else s.grantSlots.get q := by
  have hslots : (s.enterRamp p).grantSlots = s.grantSlots := s.enterRamp_frame p .grantSlots (by decide)
  have hclass : (s.enterRamp p).classOf p = s.classOf p := by
    refine State.classOf_congr (s.enterRamp_frame p .tables (by decide)) ?_
    rw [State.enterRamp_ports, if_pos rfl]
    rfl
  have hgrant : ((s.enterRamp p).ports.get p).grant = (s.ports.get p).grant := by
    rw [State.enterRamp_ports, if_pos rfl]
    rfl
  unfold State.reramp
  by_cases hpaused : (s.ports.get p).state = .paused
  · rw [if_pos hpaused, State.postGrant_slot, State.enterRamp_linkState, if_pos rfl, hslots, hclass, hgrant]
    by_cases hq : q = p
    · subst hq
      simp [hpaused]
    · simp [hq]
  · rw [if_neg hpaused, if_neg fun ⟨hq, h⟩ => hpaused (hq ▸ h)]

theorem State.reramp_classOf (p : Port) (s : State) (q : Port) : (s.reramp p).classOf q = s.classOf q := by
  refine State.classOf_congr (s.reramp_frame p .tables (by decide)) ?_
  rw [State.reramp_ports]
  split <;> rfl

/-- R15: every paused port of a list has its link in WAIT and a GRANT for the grant it kept. -/
theorem State.reramp_foldl_links (l : List Port) (s : State) (q : Port) :
    (l.foldl (fun s p => s.reramp p) s).links.get (.port q) =
      (if q ∈ l ∧ (s.ports.get q).state = .paused then
        { s.links.get (.port q) with state := .wait, receivedHold := false } else s.links.get (.port q)) ∧
    (l.foldl (fun s p => s.reramp p) s).grantSlots.get q =
      (if q ∈ l ∧ (s.ports.get q).state = .paused then
        some ⟨(s.ports.get q).grant, .on, ((s.classOf q).map (·.tolerance)).getD 0⟩ else s.grantSlots.get q) := by
  induction l generalizing s with
  | nil => simp
  | cons p l ih =>
    obtain ⟨hlinks, hslots⟩ := ih (s.reramp p)
    rw [List.foldl_cons, hlinks, hslots, State.reramp_ports, State.reramp_links, State.reramp_grantSlots,
      State.reramp_classOf]
    by_cases hq : q = p
    · subst hq
      by_cases hpaused : (s.ports.get q).state = .paused
      · simp [hpaused, PortUnit.ramped]
      · simp [hpaused]
    · simp [hq]

theorem State.rerampAll_links (s : State) (q : Port) : s.rerampAll.links.get (.port q) =
    if (s.ports.get q).state = .paused then { s.links.get (.port q) with state := .wait, receivedHold := false }
    else s.links.get (.port q) := by
  simpa [State.rerampAll, Port.mem_all] using (State.reramp_foldl_links Port.all s q).1

theorem State.rerampAll_grantSlots (s : State) (q : Port) : s.rerampAll.grantSlots.get q =
    if (s.ports.get q).state = .paused then
      some ⟨(s.ports.get q).grant, .on, ((s.classOf q).map (·.tolerance)).getD 0⟩
    else s.grantSlots.get q := by
  simpa [State.rerampAll, Port.mem_all] using (State.reramp_foldl_links Port.all s q).2

/-- R15: the selector stands in a source and the budget is computed. -/
def State.entered (a : Source) (s : State) : State :=
  State.computeBudget { s with sel := { s.sel with state := .active a, deadTimer := none } }

theorem State.arrive_eq (a : Source) (s : State) :
    s.arrive a = ((s.entered a).shedUntil State.sheddable 0).afterShedding.rerampAll := rfl

/-- R15, R36: the overcommit state after the shedding at the end of a changeover. -/
theorem State.afterShedding_budget (s : State) : s.afterShedding.budget =
    { s.budget with overcommit := if 0 ≤ s.free then .clear else .unresolved, shedTimer := none } := by
  unfold State.afterShedding
  split
  · rfl
  · exact State.raiseHub_frame _ _ .budget (by decide)

theorem State.afterShedding_mark (h : s.free < 0) : (s.afterShedding.events.marks (.hub .overcommit)).set = true := by
  unfold State.afterShedding
  rw [if_neg (not_le.mpr h)]
  exact State.raise_set _ _

theorem State.Reports.afterShedding (s : State) : s.Reports s.afterShedding := by
  unfold State.afterShedding
  split
  · exact .of_eq rfl rfl
  · exact .after (.raiseHub .overcommit (s.setOvercommit .unresolved)) rfl rfl

theorem State.Reports.arrive (a : Source) (s : State) : s.Reports (s.arrive a) := by
  rw [State.arrive_eq]
  exact .after (((State.Reports.shedLoop State.sheddable 0 _ (s.entered a)).trans (.afterShedding _)).trans (.rerampAll _))
    (State.computeBudget_frame _ .events (by decide)) (State.computeBudget_frame _ .counters (by decide))

theorem State.arrive_sel (a : Source) (s : State) :
    (s.arrive a).sel = { s.sel with state := .active a, deadTimer := none } := by
  have hshed := State.shedUntil_frame State.sheddable 0 (s.entered a) .sel (by decide)
  have hafter := State.afterShedding_frame ((s.entered a).shedUntil State.sheddable 0) .sel (by decide)
  exact (State.rerampAll_frame _ .sel (by decide)).trans (hafter.trans (hshed.trans
    (State.computeBudget_frame { s with sel := { s.sel with state := .active a, deadTimer := none } } .sel (by decide))))

/-- R15: an evaluation pauses nothing. -/
theorem State.evaluate_unpaused (h : ∀ p, (s.ports.get p).state ≠ .paused) (p : Port) :
    (s.evaluate.ports.get p).state ≠ .paused := by
  refine State.evaluate_keeps (P := fun y => ∀ p, (y.ports.get p).state ≠ .paused) (good := fun _ => True)
    (fun _ _ _ _ => trivial) (fun y e hy _ q => ?_) (fun y x hy _ q => ?_) h p
  · rw [State.grantHead_ports]
    split
    · next hq =>
      unfold State.grantedUnit
      split
      · exact hy e.port
      · exact nofun
    · exact hy q
  · rw [State.shed_port]
    split
    · exact nofun
    · exact hy q

/-- R15, R16: the changeover is done, at its target, or in a fallback (steps 5 and 6). -/
def State.reported (target a : Source) (s : State) : State :=
  if a = target then s.changeoverDone else s.raiseHub .sourceRefused

theorem State.reported_parts (target a : Source) (s : State) :
    (s.reported target a).SameBut [.events, .counters] s := by
  unfold State.reported
  split
  · refine (State.raiseHub_frame _ _).comp (m := [.events]) (b := { s with counters := _ }) ?_ (by decide)
    intro x hx; cases x <;> first | exact absurd (by decide) hx | rfl
  · exact (State.raiseHub_frame _ _).weaken (by decide)

theorem State.reported_mark (target a : Source) (s : State) :
    ((s.reported target a).events.marks (.hub (if a = target then .sourceChanged else .sourceRefused))).set = true := by
  unfold State.reported
  split
  · exact State.raise_set _ _
  · exact State.raise_set _ _

theorem State.reported_changeovers (target a : Source) (s : State) :
    (s.reported target a).counters.changeovers = s.counters.changeovers + if a = target then 1 else 0 := by
  unfold State.reported
  split
  · exact congrArg Counters.changeovers (State.raiseHub_frame _ _ .counters (by decide))
  · simp [(State.Reports.raiseHub .sourceRefused s).changeovers]

/-- R15, R16: the dead time ends with the selector in a source: the target, or the other one in its stead. -/
theorem State.deadTimeExpiry_of_usable {a : Source} (hst : s.sel.state = .changeover target)
    (htimer : s.sel.deadTimer.isSome = true) (ha : (s.supply.get a).qual = .usable)
    (hwhich : a = target ∨ (a = target.other ∧ (s.supply.get target).qual ≠ .usable)) :
    s.deadTimeExpiry = ((s.arrive a).reported target a).evaluate.judgeAuto := by
  obtain ⟨n, hn⟩ := Option.isSome_iff_exists.mp htimer
  rcases hwhich with rfl | ⟨rfl, hnot⟩
  · rw [State.deadTimeExpiry, hst, hn, State.reported, if_pos rfl]
    exact if_pos (decide_eq_true ha)
  · rw [State.deadTimeExpiry, hst, hn, State.reported, if_neg (source_other_ne target)]
    exact (if_neg (by simp [State.usable, hnot])).trans (if_pos (decide_eq_true ha))

/-- R16: or in NO_SOURCE. -/
theorem State.deadTimeExpiry_of_none (hst : s.sel.state = .changeover target)
    (htimer : s.sel.deadTimer.isSome = true) (htarget : (s.supply.get target).qual ≠ .usable)
    (hother : (s.supply.get target.other).qual ≠ .usable) :
    s.deadTimeExpiry = s.enterNoSource.raiseHub .sourceRefused := by
  obtain ⟨n, hn⟩ := Option.isSome_iff_exists.mp htimer
  rw [State.deadTimeExpiry, hst, hn]
  exact (if_neg (by simp [State.usable, htarget])).trans (if_neg (by simp [State.usable, hother]))

/-- R17: a timer that is idle starts, or a delay of 0 begins the changeover. -/
theorem State.judgeAuto_state (hidle : s.sel.autoTimer = none) : s.judgeAuto.sel.state =
    match s.autoTarget with
    | some q => if s.tables.selector.autoReturn = 0 then .changeover q else s.sel.state
    | none => s.sel.state := by
  cases htarget : s.autoTarget with
  | none => rw [State.judgeAuto_of_none htarget, State.modSel_sel]
  | some q =>
    rw [State.judgeAuto_of_target htarget, if_neg (by simp [hidle]), State.startAuto]
    dsimp only
    split
    · rw [State.beginChangeover_sel]
    · rfl

theorem source_other_other (a : Source) : a.other.other = a := by cases a <;> rfl

theorem source_eq_other {q a : Source} (h : q ≠ a) : q = a.other := by
  cases q <;> cases a <;> simp_all [Source.other]

/-- R15: the state from which the auto-return timer is judged. -/
theorem State.arrived_parts (target a : Source) (s : State) :
    ((s.arrive a).reported target a).evaluate.SameBut Part.feeding s ∧
      ((s.arrive a).reported target a).evaluate.sel = { s.sel with state := .active a, deadTimer := none } := by
  have hpower := (State.evaluate_frame ((s.arrive a).reported target a)).comp
    ((State.reported_parts target a (s.arrive a)).weaken (n := Part.power) (by decide)) fun _ hx => hx
  exact ⟨hpower.comp (s.arrive_frame a) (by decide), Eq.trans (hpower .sel (by decide)) (s.arrive_sel a)⟩

theorem State.deadTimeExpiry_reports {a : Source} (hst : s.sel.state = .changeover target)
    (htimer : s.sel.deadTimer.isSome = true) (hidle : s.sel.autoTimer = none) (ha : (s.supply.get a).qual = .usable)
    (hwhich : a = target ∨ (a = target.other ∧ (s.supply.get target).qual ≠ .usable)) :
    s.deadTimeExpiry.sel.state =
      (if s.tables.selector.autoReturn = 0 ∧ s.tables.selector.preferred = some a.other ∧
        (s.supply.get a.other).qual = .usable then .changeover a.other else .active a) ∧
    s.deadTimeExpiry.counters.changeovers = s.counters.changeovers + (if a = target then 1 else 0) ∧
    (s.deadTimeExpiry.events.marks (.hub (if a = target then .sourceChanged else .sourceRefused))).set = true := by
  obtain ⟨hframe, hsel⟩ := State.arrived_parts target a s
  have hreports := (State.Reports.evaluate ((s.arrive a).reported target a)).trans (.judgeAuto _)
  rw [State.deadTimeExpiry_of_usable hst htimer ha hwhich]
  refine ⟨?_, hreports.changeovers.trans ?_, hreports.marks _ (State.reported_mark _ _ _)⟩
  · have htables : ((s.arrive a).reported target a).evaluate.tables = s.tables := hframe .tables (by decide)
    have htarget : ((s.arrive a).reported target a).evaluate.autoTarget =
        if s.tables.selector.preferred = some a.other ∧ (s.supply.get a.other).qual = .usable then some a.other else none := by
      refine Option.ext fun q => ?_
      rw [State.autoTarget_eq_some_iff, hsel, htables, hframe .supply (by decide)]
      constructor
      · rintro ⟨b, hb, hpreferred, hne, husable⟩
        obtain rfl := SelState.active.inj hb
        obtain rfl := source_eq_other hne
        rw [if_pos ⟨hpreferred, husable⟩]
      · intro h
        split at h
        · next hback =>
          obtain rfl := Option.some.inj h
          exact ⟨a, rfl, hback.1, source_other_ne a, hback.2⟩
        · cases h
    rw [State.judgeAuto_state (by rw [hsel]; exact hidle), htarget, htables, hsel]
    by_cases hback : s.tables.selector.preferred = some a.other ∧ (s.supply.get a.other).qual = .usable
    · simp [hback]
    · simp [hback]
  · rw [State.reported_changeovers, (State.Reports.arrive a s).changeovers]

theorem State.deadTimeExpiry_frame (s : State) : s.deadTimeExpiry.SameBut Part.feeding s := by
  unfold State.deadTimeExpiry
  split
  · next target _ _ _ =>
    split
    · have hparts := (State.arrived_parts target target s).1
      rw [State.reported, if_pos rfl] at hparts
      exact (State.judgeAuto_frame _).comp hparts (by decide)
    · split
      · have hparts := (State.arrived_parts target target.other s).1
        rw [State.reported, if_neg (source_other_ne target)] at hparts
        exact (State.judgeAuto_frame _).comp hparts (by decide)
      · exact (State.raiseHub_frame _ _).comp s.enterNoSource_frame (by decide)
  · exact .refl _ s

/-- R17: a judgement that leaves the selector in a source leaves every port. -/
theorem State.judgeAuto_ports_of_active {a : Source} (h : s.judgeAuto.sel.state = .active a) :
    s.judgeAuto.ports = s.ports := by
  unfold State.judgeAuto State.startAuto at h ⊢
  split
  · rfl
  · next q hq =>
    simp only [hq] at h
    split
    · rfl
    · next htimer =>
      rw [if_neg htimer] at h
      split
      · next hdelay =>
        rw [if_pos hdelay, State.beginChangeover_sel] at h
        cases h
      · rfl

/-- R15: no port is left PAUSED in LINE or BATT. -/
theorem State.deadTimeExpiry_unpaused {a : Source} (hst : s.sel.state = .changeover target)
    (htimer : s.sel.deadTimer.isSome = true) (hactive : s.deadTimeExpiry.sel.state = .active a) (p : Port) :
    (s.deadTimeExpiry.ports.get p).state ≠ .paused := by
  have hreached : ∀ b : Source, (s.supply.get b).qual = .usable →
      b = target ∨ (b = target.other ∧ (s.supply.get target).qual ≠ .usable) →
      (s.deadTimeExpiry.ports.get p).state ≠ .paused := fun b hb hwhich => by
    rw [State.deadTimeExpiry_of_usable hst htimer hb hwhich] at hactive ⊢
    rw [State.judgeAuto_ports_of_active hactive]
    refine State.evaluate_unpaused (fun q => ?_) p
    rw [State.reported_parts _ _ _ .ports (by decide), State.arrive_eq]
    exact State.rerampAll_state _ q
  by_cases htarget : (s.supply.get target).qual = .usable
  · exact hreached target htarget (.inl rfl)
  · by_cases hother : (s.supply.get target.other).qual = .usable
    · exact hreached target.other hother (.inr ⟨rfl, htarget⟩)
    · rw [State.deadTimeExpiry_of_none hst htimer htarget hother, State.raiseHub_sel,
        s.enterNoSource_after .sel (by decide), State.loseSupply_sel] at hactive
      cases hactive

/-- Settles O27. -/
theorem deadTimeExpiry : Obligations.DeadTimeExpiry := by
  refine ⟨fun s w u target a hrun hst htimer ha hwhich hw hu => ?_, fun s target hrun htimers hst => ?_⟩
  · obtain rfl : w = s.entered a := hw
    subst hu
    have hports : ∀ y : State, y.afterShedding.ports = y.ports := fun y => y.afterShedding_frame .ports (by decide)
    have hclass : ∀ (y : State) p, y.afterShedding.classOf p = y.classOf p := fun y p =>
      State.classOf_congr (y.afterShedding_frame .tables (by decide)) (by rw [hports])
    have hlinks : ∀ y : State, y.afterShedding.links = y.links := fun y => y.afterShedding_frame .links (by decide)
    have hslots : ∀ y : State, y.afterShedding.grantSlots = y.grantSlots := fun y =>
      y.afterShedding_frame .grantSlots (by decide)
    have hbudget : (s.arrive a).budget = ((s.entered a).shedUntil State.sheddable 0).afterShedding.budget :=
      State.rerampAll_parts _ .budget (by decide)
    refine ⟨s.arrive a, event_of_running hrun ((State.deadTimeExpiry_of_usable hst htimer ha hwhich).trans rfl),
      fun hfree => ?_, fun hfree => ⟨?_, ?_, fun p hp => ?_⟩, fun p c hpaused hc => ⟨?_, ?_, ?_⟩, fun p hpaused => ⟨?_, ?_, ?_⟩, ?_⟩
    · rw [hbudget, State.afterShedding_budget, if_pos hfree]
    · rw [hbudget, State.afterShedding_budget, if_neg (not_le.mpr hfree)]
    · exact (State.Reports.rerampAll _).marks _ (State.afterShedding_mark hfree)
    · have hends := State.shedLoop_ends State.sheddable 0 (s.entered a).granted.length (s.entered a) le_rfl
      exact State.victim_eq_none_iff.mp (hends.resolve_left (not_le.mpr hfree)) p hp
    · rw [State.arrive_eq, State.rerampAll_ports, hports, if_pos hpaused, State.stepTime, hclass, hc]
      rfl
    · rw [State.arrive_eq, State.rerampAll_links, hports, if_pos hpaused, hlinks]
    · rw [State.arrive_eq, State.rerampAll_grantSlots, hports, if_pos hpaused, hclass, hc]
      rfl
    · rw [State.arrive_eq, State.rerampAll_ports, hports, if_neg hpaused]
    · rw [State.arrive_eq, State.rerampAll_links, hports, if_neg hpaused, hlinks]
    · rw [State.arrive_eq, State.rerampAll_grantSlots, hports, if_neg hpaused, hslots]
    · rw [State.arrive_eq]
      exact (State.rerampAll_parts _).comp ((State.afterShedding_frame _).weaken (by decide)) (by decide)
  · obtain ⟨-, ⟨hdead, hauto, -⟩, -⟩ := htimers
    have htimer : s.sel.deadTimer.isSome = true := hdead.mpr (by rw [hst]; exact nofun)
    have hidle : s.sel.autoTimer = none := by
      rw [hst] at hauto
      cases htime : s.sel.autoTimer with
      | none => rfl
      | some n => exact absurd (hauto (by rw [htime]; rfl)) nofun
    refine ⟨s.deadTimeExpiry.selectAll, event_of_running hrun rfl, fun ha => ?_, fun htarget ha => ?_,
      fun htarget hother => ?_, fun a hactive p => ?_,
      (State.selectAll_frame _).comp ((State.deadTimeExpiry_frame s).weaken (by decide)) (by decide)⟩
    · obtain ⟨hstate, hchangeovers, hmark⟩ := State.deadTimeExpiry_reports hst htimer hidle ha (.inl rfl)
      rw [State.selectAll_sel, State.selectAll_counters, State.selectAll_events, hstate, hchangeovers]
      rw [if_pos rfl] at hmark
      refine ⟨?_, by simp, hmark⟩
      rfl
    · obtain ⟨hstate, hchangeovers, hmark⟩ := State.deadTimeExpiry_reports hst htimer hidle ha (.inr ⟨rfl, htarget⟩)
      rw [source_other_other, if_neg fun h => htarget h.2.2] at hstate
      rw [if_neg (source_other_ne target)] at hchangeovers hmark
      rw [State.selectAll_sel, State.selectAll_counters, State.selectAll_events, hstate, hchangeovers]
      exact ⟨rfl, by simp, hmark⟩
    · have hreports := (State.Reports.loseSupply .noSource s).trans (.raiseHub .noSource _)
      have hraise := State.raiseHub_frame .sourceRefused s.enterNoSource
      rw [State.selectAll_sel, State.selectAll_counters, State.selectAll_events, State.selectAll_granted,
        State.selectAll_budget, State.deadTimeExpiry_of_none hst htimer htarget hother]
      refine ⟨?_, ?_, ?_, ?_, State.raise_set _ _, (State.Reports.raiseHub _ _).marks _ (State.raise_set _ _)⟩
      · exact Eq.trans (hraise .sel (by decide)) (Eq.trans (s.enterNoSource_after .sel (by decide)) (s.loseSupply_sel _))
      · exact Eq.trans (hraise .granted (by decide))
          (Eq.trans (s.enterNoSource_after .granted (by decide)) (s.loseSupply_granted _))
      · exact Eq.trans (hraise .budget (by decide))
          (Eq.trans (s.enterNoSource_after .budget (by decide)) (s.loseSupply_budget _))
      · exact (hreports.trans (.raiseHub _ _)).changeovers
    · rw [State.selectAll_sel] at hactive
      rw [State.selectAll_ports]
      exact State.deadTimeExpiry_unpaused hst htimer hactive p

end Arrival
end Sys2Proof.Machine

namespace Sys2Proof.Machine

open Sys2Proof

/-! ### The detect line (R64 to R69) -/

section Detect

variable {s t : State} {p q : Port}

/-- R68: the band of a class in the sense values. -/
theorem readSense_of_band {mv : Nat} {c : ClassNo} (hlow : 300 + 450 * c.number ≤ mv)
    (hhigh : mv < 300 + 450 * (c.number + 1)) : readSense mv = .cls c false := by
  have hnumber : c.number ≤ 7 := by cases c <;> decide
  have hband : (mv - 300) / 450 = c.number := Nat.div_eq_of_lt_le (by omega) (by omega)
  have hless : mv < Config.detectLevel := hhigh.trans_le (by rw [Config.detectLevel]; omega)
  rw [readSense, if_neg (by omega), if_pos hless, hband, ClassNo.ofNumber_number]

/-- R64, R65: an accepted level takes an evaluation's time, but not the timer of the port. -/
theorem State.evaluate_debounce (h : (s.ports.get p).debounce = none) : (s.evaluate.ports.get p).debounce = none := by
  refine State.evaluate_keeps (P := fun y => (y.ports.get p).debounce = none) (good := fun _ => True)
    (fun _ _ _ _ => trivial) (fun y e hy _ => ?_) (fun y x hy _ => ?_) h
  · rw [State.grantHead_ports]
    split
    · next hp =>
      subst hp
      unfold State.grantedUnit
      split <;> exact hy
    · exact hy
  · rw [State.shed_port]
    split <;> exact hy

theorem State.modPort_port (p : Port) (f : PortUnit → PortUnit) (s : State) (q : Port) :
    (s.modPort p f).ports.get q = if q = p then f (s.ports.get q) else s.ports.get q := by
  rw [State.modPort_ports, PerPort.get_set]
  split
  · next h => rw [h]
  · rfl

theorem State.modPort_modPort (p : Port) (f g : PortUnit → PortUnit) (s : State) :
    (s.modPort p f).modPort p g = s.modPort p fun u => g (f u) := by
  cases p <;> rfl

/-- A change of a unit that changes nothing. -/
theorem State.modPort_eq_self {f : PortUnit → PortUnit} (hf : f (s.ports.get p) = s.ports.get p) : s.modPort p f = s := by
  rw [State.modPort, hf]
  exact State.modPort_self p s

theorem State.modPort_congr {f g : PortUnit → PortUnit} (h : f (s.ports.get p) = g (s.ports.get p)) :
    s.modPort p f = s.modPort p g := by
  rw [State.modPort, h, ← State.modPort]

/-! #### What an accepted level does, by branch -/

/-- R65: a level that is the stable one. -/
theorem State.acceptLevel_of_same (h : (s.ports.get p).present = (s.ports.get p).stable) :
    s.acceptLevel p = if (s.ports.get p).state = .debounce then s.setPortState p .vacant else s :=
  if_pos h

/-- R66, R67: an attach. -/
theorem State.acceptLevel_of_attach (hpresent : (s.ports.get p).present = .attached)
    (hstable : (s.ports.get p).stable = .open) : s.acceptLevel p =
      if (s.ports.get p).state = .debounce ∨ (s.ports.get p).state = .vacant then
        (s.modPort p fun u => { u with stable := .attached }).classify p .attach
      else s.modPort p fun u => { u with stable := .attached } := by
  rw [State.acceptLevel, if_neg (by rw [hpresent, hstable]; decide), hpresent]

/-- R66, R67: a detach. -/
theorem State.acceptLevel_of_detach (hpresent : (s.ports.get p).present = .open)
    (hstable : (s.ports.get p).stable = .attached) : s.acceptLevel p =
      if (s.ports.get p).state = .disabled then
        (s.modPort p fun u => { u with stable := .open }).raiseHub .portDetach
      else s.detach p := by
  rw [State.acceptLevel, if_neg (by rw [hpresent, hstable]; decide), hpresent]

/-- The end of a debounce. -/
def State.undebounced (p : Port) (s : State) : State := s.modPort p fun u => { u with debounce := none }

theorem State.undebounced_port (p : Port) (s : State) :
    (s.undebounced p).ports.get p = { s.ports.get p with debounce := none } := by
  rw [State.undebounced, State.modPort_port, if_pos rfl]

theorem State.undebounced_port_of_ne (hq : q ≠ p) (s : State) : (s.undebounced p).ports.get q = s.ports.get q := by
  rw [State.undebounced, State.modPort_port, if_neg hq]

theorem State.debounceExpiry_eq (h : (s.ports.get p).debounce.isSome = true) :
    s.debounceExpiry p = (s.undebounced p).acceptLevel p := if_pos h

theorem State.enlist_debounce {e : EffClass} (h : (s.ports.get p).debounce = none) :
    ((s.enlist p .attach e).ports.get p).debounce = none := by
  rw [State.enlist_ports, if_pos rfl]
  exact h

/-- R65: the debounce timer is idle again, whatever follows. -/
theorem State.acceptLevel_debounce (h : (s.ports.get p).debounce = none) :
    ((s.acceptLevel p).ports.get p).debounce = none := by
  have hattached : ((s.modPort p fun u => { u with stable := .attached }).ports.get p).debounce = none := by
    rw [State.modPort_port, if_pos rfl]
    exact h
  by_cases hsame : (s.ports.get p).present = (s.ports.get p).stable
  · rw [State.acceptLevel_of_same hsame]
    split
    · rw [State.setPortState_port, if_pos rfl]
      exact h
    · exact h
  · cases hpresent : (s.ports.get p).present with
    | attached =>
      have hstable : (s.ports.get p).stable = .open := by
        cases hst : (s.ports.get p).stable with
        | attached => exact absurd (hpresent.trans hst.symm) hsame
        | _ => rfl
      rw [State.acceptLevel_of_attach hpresent hstable]
      split
      · cases hreading : (s.modPort p fun u => { u with stable := .attached }).reading p with
        | cls c fixed =>
          rw [State.classify_of_class hreading]
          exact State.evaluate_debounce (State.enlist_debounce hattached)
        | short =>
          rw [State.classify_of_short hreading, State.settle_ports, if_pos rfl]
          exact hattached
        | _ =>
          rw [State.classify_of_open hreading, State.settle_ports, if_pos rfl]
          exact hattached
      · exact hattached
    | _ =>
      have hstable : (s.ports.get p).stable = .attached := by
        cases hst : (s.ports.get p).stable with
        | attached => rfl
        | _ => exact absurd (hpresent.trans hst.symm) hsame
      rw [State.acceptLevel_of_detach hpresent hstable]
      split
      · rw [State.raiseHub_frame _ _ .ports (by decide), State.modPort_port, if_pos rfl]
        exact h
      · have hdetached : ((s.detachAlone p).ports.get p).debounce = none := by
          rw [State.detachAlone_ports, if_pos rfl]
          exact h
        rw [State.detach_eq]
        cases decide (p ∈ s.granted) with
        | true => exact State.evaluate_debounce hdetached
        | false => exact hdetached

/-! #### A scan (R64, R65) -/

theorem levelOf_eq (mv : Nat) : (if mv < 3900 then Level.attached else .open) = levelOf mv := rfl

/-- R64: the timer of an edge starts with the port's debounce time, and else runs down by one scan. -/
theorem PortUnit.debounceAt_of_edge {u : PortUnit} {level : Level} (h : level ≠ u.present) (d : Nat) :
    u.debounceAt level d = some d := if_pos h

theorem PortUnit.debounceAt_of_same {u : PortUnit} {level : Level} (h : level = u.present) (d : Nat) :
    u.debounceAt level d = u.debounce.map (· - 1) := if_neg fun hne => hne h

/-- R64: without an edge the state of the port stands. -/
theorem State.scanEdge_of_same (h : levelOf (s.ports.get p).sense = (s.ports.get p).present) :
    s.scanEdge p = s.modPort p fun u => { u with debounce := (s.ports.get p).debounce.map (· - 1) } := by
  rw [State.scanEdge, if_neg fun hedge => hedge.2.1 h, State.scanLevel, PortUnit.debounceAt_of_same h, h]
  exact State.modPort_congr rfl

theorem State.scanEdge_port (p : Port) (s : State) : (s.scanEdge p).ports.get p =
    { s.ports.get p with
      present := levelOf (s.ports.get p).sense
      debounce := (s.ports.get p).debounceAt (levelOf (s.ports.get p).sense) (s.tables.port.get p).debounce
      state := if (s.ports.get p).state = .vacant ∧ levelOf (s.ports.get p).sense ≠ (s.ports.get p).present ∧
        levelOf (s.ports.get p).sense = .attached then .debounce else (s.ports.get p).state } := by
  have hlevel : (s.scanLevel p).ports.get p = { s.ports.get p with
      present := levelOf (s.ports.get p).sense
      debounce := (s.ports.get p).debounceAt (levelOf (s.ports.get p).sense) (s.tables.port.get p).debounce } := by
    rw [State.scanLevel, State.modPort_port, if_pos rfl]
  unfold State.scanEdge
  split
  · next h => rw [State.setPortState_port, if_pos rfl, hlevel]
  · next h => rw [hlevel]

/-- R65: what the end of a debounce does is not in the time that was left. -/
theorem State.debounceExpire_of_debounce (n : Option Nat) (p : Port) (s : State) :
    (s.modPort p fun u => { u with debounce := n }).debounceExpire p = s.debounceExpire p := by
  rw [State.debounceExpire_eq, State.modPort_modPort, ← State.debounceExpire_eq]

theorem detectLine_scan (s : State) (p : Port) (level : Level)
    (hlevel : level = if (s.ports.get p).sense < 3900 then .attached else .open) :
     (level ≠ (s.ports.get p).present → (s.tables.port.get p).debounce ≠ 0 →
       ((s.scanDetect p).ports.get p).debounce = some (s.tables.port.get p).debounce ∧
       ((s.scanDetect p).ports.get p).present = level ∧
       ((s.scanDetect p).ports.get p).state =
         (if (s.ports.get p).state = .vacant ∧ level = .attached then .debounce else (s.ports.get p).state)) ∧
     (∀ n, level = (s.ports.get p).present → (s.ports.get p).debounce = some (n + 2) →
       s.scanDetect p = s.modPort p fun u => { u with debounce := some (n + 1) }) ∧
     (level = (s.ports.get p).present → (s.ports.get p).debounce = none → s.scanDetect p = s) ∧
     (level = (s.ports.get p).present → (s.ports.get p).debounce = some 1 → s.resetPin = false →
       exec (.debounceExpiry p) s = .next (s.scanDetect p).selectAll) ∧
     (∀ u : State, u = (s.modPort p fun x => { x with present := level, debounce := some 0 }) →
       level ≠ (s.ports.get p).present → (s.tables.port.get p).debounce = 0 → s.resetPin = false →
       exec (.debounceExpiry p) (if (s.ports.get p).state = .vacant ∧ level = .attached
         then u.setPortState p .debounce else u) = .next (s.scanDetect p).selectAll) := by
  rw [levelOf_eq] at hlevel
  subst hlevel
  have hrun : ∀ y : State, y.resetPin = false → (y.ports.get p).debounce.isSome = true →
      y.debounceExpire p = s.scanDetect p → exec (.debounceExpiry p) y = .next (s.scanDetect p).selectAll :=
    fun y hpin hdebounce heq => event_of_running hpin ((if_pos hdebounce).trans heq)
  refine ⟨fun hedge hd => ?_, fun n hsame hn => ?_, fun hsame hn => ?_, fun hsame hn hpin => ?_,
    fun u hu hedge hd hpin => ?_⟩
  · rw [State.scanDetect_eq, PortUnit.debounceAt_of_edge hedge, if_neg (by simpa using hd), State.scanEdge_port,
      PortUnit.debounceAt_of_edge hedge]
    refine ⟨rfl, rfl, ?_⟩
    simp only [hedge, ne_eq, not_false_eq_true, true_and]
  · rw [State.scanDetect_eq, PortUnit.debounceAt_of_same hsame, hn, if_neg (by simp), State.scanEdge_of_same hsame, hn]
    rfl
  · rw [State.scanDetect_eq, PortUnit.debounceAt_of_same hsame, hn, if_neg (by simp), State.scanEdge_of_same hsame, hn]
    refine State.modPort_eq_self ?_
    rw [Option.map_none, ← hn]
  · refine hrun s hpin (by rw [hn]; rfl) ?_
    rw [State.scanDetect_eq, PortUnit.debounceAt_of_same hsame, hn, if_pos (by simp), State.scanEdge_of_same hsame,
      State.debounceExpire_of_debounce]
  · have hlevel : s.scanLevel p = u := by
      rw [hu, State.scanLevel, PortUnit.debounceAt_of_edge hedge, hd]
    have hedges : s.scanEdge p =
        if (s.ports.get p).state = .vacant ∧ levelOf (s.ports.get p).sense = .attached then u.setPortState p .debounce
        else u := by
      rw [State.scanEdge, hlevel]
      simp only [hedge, ne_eq, not_false_eq_true, true_and]
    have hport := s.scanEdge_port p
    have hframe : (s.scanEdge p).resetPin = s.resetPin := by
      unfold State.scanEdge
      split
      · exact State.setPortState_frame p _ _ .resetPin (by decide)
      · rfl
    rw [← hedges]
    refine hrun _ (hframe.trans hpin) ?_ ?_
    · rw [hport, PortUnit.debounceAt_of_edge hedge]
      rfl
    · rw [State.scanDetect_eq, PortUnit.debounceAt_of_edge hedge, hd, if_pos rfl]

/-! #### The end of a debounce -/

/-- R66, R67: the debounce ends with a level accepted as ATTACHED. -/
def State.attached (p : Port) (s : State) : State :=
  (s.undebounced p).modPort p fun u => { u with stable := .attached }

theorem State.attached_port (p : Port) (s : State) :
    (s.attached p).ports.get p = { s.ports.get p with debounce := none, stable := .attached } := by
  rw [State.attached, State.modPort_port, if_pos rfl, State.undebounced_port]

theorem State.attached_port_of_ne (hq : q ≠ p) (s : State) : (s.attached p).ports.get q = s.ports.get q := by
  rw [State.attached, State.modPort_port, if_neg hq, State.undebounced_port_of_ne hq]

theorem State.attached_frame (p : Port) (s : State) : (s.attached p).SameBut [.ports] s :=
  (State.modPort_frame p _ _).comp (State.modPort_frame p _ s) (by decide)

/-- R68: the line is read as it was. -/
theorem State.attached_reading (p : Port) (s : State) : (s.attached p).reading p = s.reading p := by
  rw [State.reading, State.attached_port, State.attached_frame p s .tables (by decide)]
  rfl

theorem State.debounceExpiry_of_same (hrun : (s.ports.get p).debounce.isSome = true)
    (h : (s.ports.get p).present = (s.ports.get p).stable) : s.debounceExpiry p =
      if (s.ports.get p).state = .debounce then (s.undebounced p).setPortState p .vacant else s.undebounced p := by
  rw [State.debounceExpiry_eq hrun, State.acceptLevel_of_same (by rw [State.undebounced_port]; exact h),
    State.undebounced_port]

theorem State.debounceExpiry_of_attach (hrun : (s.ports.get p).debounce.isSome = true)
    (hpresent : (s.ports.get p).present = .attached) (hstable : (s.ports.get p).stable = .open) :
    s.debounceExpiry p = if (s.ports.get p).state = .debounce ∨ (s.ports.get p).state = .vacant then
      (s.attached p).classify p .attach else s.attached p := by
  rw [State.debounceExpiry_eq hrun, State.acceptLevel_of_attach (by rw [State.undebounced_port]; exact hpresent)
    (by rw [State.undebounced_port]; exact hstable), State.undebounced_port]
  rfl

theorem State.debounceExpiry_of_detach (hrun : (s.ports.get p).debounce.isSome = true)
    (hpresent : (s.ports.get p).present = .open) (hstable : (s.ports.get p).stable = .attached) :
    s.debounceExpiry p = if (s.ports.get p).state = .disabled then
        ((s.undebounced p).modPort p fun u => { u with stable := .open }).raiseHub .portDetach
      else (s.undebounced p).detach p := by
  rw [State.debounceExpiry_eq hrun, State.acceptLevel_of_detach (by rw [State.undebounced_port]; exact hpresent)
    (by rw [State.undebounced_port]; exact hstable), State.undebounced_port]

/-- R57, R66: a detached port is on neither list, and its link is DOWN. -/
theorem State.detachAlone_aside (p : Port) (s : State) : State.Aside p (s.detachAlone p) (s.detachAlone p) := by
  have hframe := s.detachAlone_frame p
  refine .refl ?_ ?_ ?_
  · rw [hframe .granted (by decide), State.dropPort_granted]
    simp
  · rw [State.entryOf_eq_none_iff, hframe .admission (by decide), State.dropPort_admission]
    simp
  · rw [State.linkState, hframe .links (by decide)]
    exact State.dropPort_linkState p s

/-- R66: whatever the evaluation grants to others. -/
theorem State.detach_aside (p : Port) (s : State) : State.Aside p (s.detachAlone p) (s.detach p) := by
  rw [State.detach_eq]
  exact (s.detachAlone_aside p).evaluateIf _

theorem State.detach_vacated (p : Port) (s : State) :
    ((s.detach p).ports.get p).state = .vacant ∧ ((s.detach p).ports.get p).stable = .open ∧
      ((s.detach p).ports.get p).eff = none ∧ ((s.detach p).ports.get p).grant = 0 ∧ p ∉ (s.detach p).granted ∧
      (s.detach p).entryOf p = none ∧ ((s.detach p).events.marks (.hub .portDetach)).set = true := by
  have haside := s.detach_aside p
  have hunit := haside.unit.trans ((s.detachAlone_ports p p).trans (if_pos rfl))
  rw [hunit]
  exact ⟨rfl, rfl, rfl, rfl, haside.granted, haside.entry, haside.marks _ (State.raise_set _ _)⟩

theorem detectLine_disabled (hpin : s.resetPin = false) (hrun : (s.ports.get p).debounce.isSome = true)
    (hpresent : (s.ports.get p).present = .attached) (hstable : (s.ports.get p).stable = .open)
    (hstate : (s.ports.get p).state = .disabled) :
    exec (.debounceExpiry p) s = .next (State.selectAll
      { s with ports := s.ports.set p { s.ports.get p with debounce := none, stable := .attached } }) := by
  refine event_of_running (f := State.debounceExpiry p) hpin ?_
  rw [State.debounceExpiry_of_attach hrun hpresent hstable, if_neg (by rw [hstate]; decide), State.attached,
    State.undebounced, State.modPort_modPort]
  rfl

/-- R69: what the end of a debounce does with each of the three readings. -/
theorem detectLine_attach (hpin : s.resetPin = false) (hrun : (s.ports.get p).debounce.isSome = true)
    (hpresent : (s.ports.get p).present = .attached) (hstable : (s.ports.get p).stable = .open)
    (hstate : (s.ports.get p).state = .debounce ∨ (s.ports.get p).state = .vacant) :
     (∀ c fixed, s.reading p = .cls c fixed →
       ∃ u : State, exec (.debounceExpiry p) s = .next (State.selectAll u.evaluate) ∧
         u.ports.get p = { s.ports.get p with
           state := .waiting, stable := .attached, debounce := none, eff := some ⟨c, fixed⟩ } ∧
         (∀ q, q ≠ p → u.ports.get q = s.ports.get q) ∧
         u.admission = s.admission ++
           [{ port := p, reason := .attach,
              draw := min (max (s.tables.cls.get c).defaultDemand (s.tables.cls.get c).idleDraw)
                (s.tables.cls.get c).maxDemand,
              wait := if (s.tables.cls.get c).waitLimit = 0 then none
                else some ((s.tables.cls.get c).waitLimit * 1000000),
              holdOff := none }] ∧
         (u.events.marks (.hub .portAttach)).set = true ∧ u.SameBut [.ports, .admission, .events] s) ∧
     (s.reading p = .short →
       ∃ u : State, exec (.debounceExpiry p) s = .next u.selectAll ∧
         u.ports.get p = { s.ports.get p with
           state := .locked, stable := .attached, debounce := none, eff := none
           lockReason := some .senseShort } ∧
         (∀ q, q ≠ p → u.ports.get q = s.ports.get q) ∧
         (u.events.marks (.hub .portLocked)).set = true ∧ u.SameBut [.ports, .events] s) ∧
     (s.reading p = .open →
       ∃ u : State, exec (.debounceExpiry p) s = .next u.selectAll ∧
         u.ports.get p = { s.ports.get p with
           state := .vacant, stable := .open, debounce := none, eff := none } ∧
         (∀ q, q ≠ p → u.ports.get q = s.ports.get q) ∧
         (u.events.marks (.hub .portDetach)).set = true ∧ u.SameBut [.ports, .events] s) := by
  have hclassify : s.debounceExpiry p = (s.attached p).classify p .attach := by
    rw [State.debounceExpiry_of_attach hrun hpresent hstable, if_pos hstate]
  have hexec : ∀ u : State, (s.attached p).classify p .attach = u → exec (.debounceExpiry p) s = .next u.selectAll :=
    fun u hu => event_of_running (f := State.debounceExpiry p) hpin (hclassify.trans hu)
  have hframe := s.attached_frame p
  have htables : (s.attached p).tables = s.tables := hframe .tables (by decide)
  have hsettled : ∀ (f : PortUnit → PortUnit) st i,
      ((s.attached p).settle p f st i).SameBut [.ports, .events] s ∧
        ∀ q, q ≠ p → ((s.attached p).settle p f st i).ports.get q = s.ports.get q := by
    refine fun f st i => ⟨(State.settle_frame p f st i _).comp (hframe.weaken (by decide)) (by decide), fun q hq => ?_⟩
    rw [State.settle_ports, if_neg hq, State.attached_port_of_ne hq]
  refine ⟨fun c fixed hreading => ?_, fun hreading => ?_, fun hreading => ?_⟩
  · refine ⟨(s.attached p).enlist p .attach ⟨c, fixed⟩,
      hexec _ (State.classify_of_class (s.attached_reading p |>.trans hreading)), ?_, fun q hq => ?_, ?_,
      State.enlist_portAttach _ _ _, (State.enlist_frame _ _ _ _).comp (hframe.weaken (by decide)) (by decide)⟩
    · rw [State.enlist_ports, if_pos rfl, State.attached_port]
    · rw [State.enlist_ports, if_neg hq, State.attached_port_of_ne hq]
    · rw [State.enlist_admission, htables, hframe .admission (by decide)]
  · refine ⟨_, hexec _ (State.classify_of_short (s.attached_reading p |>.trans hreading)), ?_, (hsettled _ _ _).2,
      State.settle_item _ _ _ _ _, (hsettled _ _ _).1⟩
    rw [State.settle_ports, if_pos rfl, State.attached_port]
  · refine ⟨_, hexec _ (State.classify_of_open (s.attached_reading p |>.trans hreading)), ?_, (hsettled _ _ _).2,
      State.settle_item _ _ _ _ _, (hsettled _ _ _).1⟩
    rw [State.settle_ports, if_pos rfl, State.attached_port]

/-- R65 to R67, R69: what stands at the end of the event. -/
theorem detectLine_expiry (hpin : s.resetPin = false) (hrun : (s.ports.get p).debounce.isSome = true) :
     ∃ t, exec (.debounceExpiry p) s = .next t ∧
       (t.ports.get p).debounce = none ∧
       ((s.ports.get p).present = (s.ports.get p).stable →
         (t.ports.get p).state =
           (if (s.ports.get p).state = .debounce then .vacant else (s.ports.get p).state) ∧
         (t.ports.get p).stable = (s.ports.get p).stable ∧ t.admission = s.admission) ∧
       ((s.ports.get p).present = .open → (s.ports.get p).stable = .attached →
         (s.ports.get p).state ≠ .disabled →
         (t.ports.get p).state = .vacant ∧ (t.ports.get p).stable = .open ∧ (t.ports.get p).eff = none ∧
         (t.ports.get p).grant = 0 ∧ p ∉ t.granted ∧ t.entryOf p = none ∧
         (t.events.marks (.hub .portDetach)).set = true) ∧
       ((s.ports.get p).present = .open → (s.ports.get p).stable = .attached →
         (s.ports.get p).state = .disabled →
         (t.ports.get p).state = .disabled ∧ (t.ports.get p).stable = .open ∧
         (t.events.marks (.hub .portDetach)).set = true) ∧
       (∀ c fixed, (s.ports.get p).present = .attached → (s.ports.get p).stable = .open →
         (s.ports.get p).state = .debounce ∨ (s.ports.get p).state = .vacant → s.inForce = false →
         s.reading p = .cls c fixed →
         (t.ports.get p).state = .waiting ∧ (t.ports.get p).stable = .attached ∧
         (t.ports.get p).eff = some ⟨c, fixed⟩ ∧ (t.events.marks (.hub .portAttach)).set = true ∧
         t.admission = s.admission ++
           [{ port := p, reason := .attach,
              draw := min (max (s.tables.cls.get c).defaultDemand (s.tables.cls.get c).idleDraw)
                (s.tables.cls.get c).maxDemand,
              wait := if (s.tables.cls.get c).waitLimit = 0 then none
                else some ((s.tables.cls.get c).waitLimit * 1000000),
              holdOff := none }]) ∧
       t.SameBut [.ports, .admission, .granted, .grantSlots, .links, .queues, .records, .held, .events,
         .counters, .mgmt] s := by
  have hframe : (s.debounceExpiry p).SameBut [.ports, .admission, .granted, .grantSlots, .links, .queues, .records,
      .held, .events, .counters, .mgmt] s := by
    rw [State.debounceExpiry, if_pos hrun]
    exact (State.debounceExpire_frame p s).weaken (by decide)
  refine ⟨_, event_of_running (f := State.debounceExpiry p) hpin rfl, ?_, fun hsame => ?_,
    fun hpresent hstable hstate => ?_, fun hpresent hstable hstate => ?_,
    fun c fixed hpresent hstable hstate hforce hreading => ?_, (State.selectAll_frame _).comp hframe (by decide)⟩
  · rw [State.selectAll_ports, State.debounceExpiry_eq hrun]
    exact State.acceptLevel_debounce (by rw [State.undebounced_port])
  · rw [State.selectAll_ports, State.selectAll_admission, State.debounceExpiry_of_same hrun hsame]
    split
    · next h =>
      rw [State.setPortState_port, if_pos rfl, State.undebounced_port,
        State.setPortState_frame p _ _ .admission (by decide)]
      exact ⟨rfl, rfl, rfl⟩
    · rw [State.undebounced_port]
      exact ⟨rfl, rfl, rfl⟩
  · rw [State.selectAll_ports, State.selectAll_granted, State.entryOf, State.selectAll_admission,
      State.selectAll_events, State.debounceExpiry_of_detach hrun hpresent hstable, if_neg hstate]
    exact State.detach_vacated p _
  · rw [State.selectAll_ports, State.selectAll_events, State.debounceExpiry_of_detach hrun hpresent hstable,
      if_pos hstate, State.raiseHub_frame _ _ .ports (by decide), State.modPort_port, if_pos rfl,
      State.undebounced_port]
    exact ⟨hstate, rfl, State.raise_set _ _⟩
  · obtain ⟨hclass, -, -⟩ := detectLine_attach hpin hrun hpresent hstable hstate
    obtain ⟨u, hu, hunit, -, hadmission, hmark, husame⟩ := hclass c fixed hreading
    have hin : u.inForce = false := by
      rw [State.inForce, husame .mgmt (by decide), husame .sel (by decide)]
      exact hforce
    have ht : (s.debounceExpiry p).selectAll = u.selectAll := by
      rw [State.evaluate_of_suspended hin] at hu
      exact Host.Outcome.next.inj ((event_of_running (f := State.debounceExpiry p) hpin rfl).symm.trans hu)
    rw [ht, State.selectAll_ports, State.selectAll_events, State.selectAll_admission, hunit]
    exact ⟨rfl, rfl, rfl, hmark, hadmission⟩

end Detect

/-- Settles O32, by the branches of the accepted level. -/
theorem detectLine : Obligations.DetectLine := by
  refine ⟨fun mv => ⟨fun h => if_pos h, fun c => readSense_of_band, fun h => ?_⟩, fun s p => ⟨fun h => ?_, fun c h => ?_⟩,
    detectLine_scan, fun s p => detectLine_disabled, fun s p hpin _ => detectLine_expiry hpin,
    fun s p => detectLine_attach⟩
  · rw [readSense, if_neg (by omega), if_neg (by rw [Config.detectLevel]; omega)]
  · rw [State.reading, h]
  · rw [State.reading, h]

end Sys2Proof.Machine

namespace Sys2Proof.Machine

open Sys2Proof

/-! ### The users of a scan (R1, log 7) -/

section Order

theorem List.nodup_eraseDups_of_lawful {α : Type} [BEq α] [LawfulBEq α] (l : List α) : l.eraseDups.Nodup := by
  induction hn : l.length using Nat.strong_induction_on generalizing l with
  | _ n ih =>
    cases l with
    | nil => simp
    | cons a l =>
      rw [List.eraseDups_cons, List.nodup_cons, List.mem_eraseDups]
      refine ⟨by simp, ih _ ?_ _ rfl⟩
      rw [← hn]
      exact Nat.lt_succ_of_le (List.length_filter_le _ _)

theorem List.eraseDups_of_nodup {α : Type} [BEq α] [LawfulBEq α] {l : List α} (h : l.Nodup) : l.eraseDups = l := by
  induction l with
  | nil => rfl
  | cons a l ih =>
    obtain ⟨ha, hl⟩ := List.nodup_cons.mp h
    have hfilter : l.filter (fun b => !b == a) = l := List.filter_eq_self.mpr fun b hb => by
      have hne : b ≠ a := fun e => ha (e ▸ hb)
      simpa using hne
    rw [List.eraseDups_cons, hfilter, ih hl]

theorem scanParts_nodup : scanParts.Nodup := by decide

theorem mem_scanParts (x : ScanPart) : x ∈ scanParts := by
  cases x with
  | source src => cases src <;> decide
  | budget => decide
  | detect p => cases p <;> decide
  | judge p => cases p <;> decide

theorem mem_scanOrder (order : List ScanPart) (x : ScanPart) : x ∈ scanOrder order := by
  rw [scanOrder, List.mem_append, List.mem_eraseDups, List.mem_filter]
  by_cases h : x ∈ order
  · exact .inl h
  · exact .inr ⟨mem_scanParts x, decide_eq_true h⟩

theorem scanOrder_nodup (order : List ScanPart) : (scanOrder order).Nodup := by
  refine List.Nodup.append (List.nodup_eraseDups_of_lawful _) (scanParts_nodup.filter _) fun x hx hrest => ?_
  exact of_decide_eq_true (List.mem_filter.mp hrest).2 (List.mem_eraseDups.mp hx)

end Order

/-! ### The samples that a scan stores stand while its users take it (R1) -/

/-- From the first state to the second the samples of every source and port stand. -/
structure State.Measured (s t : State) : Prop where
  ring : ∀ src, (t.supply.get src).ring = (s.supply.get src).ring
  sense : ∀ p, (t.ports.get p).sense = (s.ports.get p).sense
  current : ∀ p, (t.ports.get p).current = (s.ports.get p).current

section Measured

variable {s t u : State} {p : Port}

theorem State.Measured.refl (s : State) : s.Measured s := ⟨fun _ => rfl, fun _ => rfl, fun _ => rfl⟩

theorem State.Measured.trans (h : s.Measured t) (k : t.Measured u) : s.Measured u :=
  ⟨fun x => (k.ring x).trans (h.ring x), fun p => (k.sense p).trans (h.sense p),
    fun p => (k.current p).trans (h.current p)⟩

theorem State.Measured.foldl {α : Type} {f : State → α → State} (h : ∀ (s : State) a, s.Measured (f s a)) (l : List α)
    (s : State) : s.Measured (l.foldl f s) := by
  induction l generalizing s with
  | nil => exact .refl s
  | cons a l ih => exact (h s a).trans (ih _)

theorem State.Measured.of_eq (hsupply : t.supply = s.supply) (hports : t.ports = s.ports) : s.Measured t :=
  ⟨fun _ => by rw [hsupply], fun _ => by rw [hports], fun _ => by rw [hports]⟩

/-- A step that stores nothing comes before. -/
theorem State.Measured.after (k : t.Measured u) (hsupply : t.supply = s.supply) (hports : t.ports = s.ports) :
    s.Measured u :=
  (State.Measured.of_eq hsupply hports).trans k

theorem State.Measured.of_frame {m : List Part} (h : t.SameBut m s) (hsupply : Part.supply ∉ m) (hports : Part.ports ∉ m) :
    s.Measured t :=
  .of_eq (h .supply hsupply) (h .ports hports)

/-- What changes no sample of a unit changes none. -/
theorem State.Measured.of_units (hsupply : t.supply = s.supply)
    (h : ∀ p, (t.ports.get p).sense = (s.ports.get p).sense ∧ (t.ports.get p).current = (s.ports.get p).current) :
    s.Measured t :=
  ⟨fun _ => by rw [hsupply], fun p => (h p).1, fun p => (h p).2⟩

theorem State.Measured.modPort (p : Port) {f : PortUnit → PortUnit} (s : State) (hsense : ∀ u, (f u).sense = u.sense)
    (hcurrent : ∀ u, (f u).current = u.current) : s.Measured (s.modPort p f) :=
  .of_units rfl fun q => by
    rw [State.modPort_port]
    split
    · exact ⟨hsense _, hcurrent _⟩
    · exact ⟨rfl, rfl⟩

theorem State.Measured.modSource (src : Source) {f : SourceMonitor → SourceMonitor} (s : State)
    (hf : ∀ m, (f m).ring = m.ring) : s.Measured (s.modSource src f) :=
  ⟨fun x => by
    by_cases h : x = src
    · subst h
      rw [State.modSource, PerSource.get_set_self, hf]
    · rw [State.modSource, PerSource.get_set_of_ne _ _ _ _ h], fun _ => rfl, fun _ => rfl⟩

theorem State.Measured.setPortState (p : Port) (st : PortState) (s : State) : s.Measured (s.setPortState p st) :=
  .of_units (State.setPortState_frame p st s .supply (by decide)) fun q => by
    rw [State.setPortState_port]
    split
    · exact ⟨rfl, rfl⟩
    · exact ⟨rfl, rfl⟩

theorem State.Measured.raiseHub (i : HubItem) (s : State) : s.Measured (s.raiseHub i) :=
  .of_frame (State.raiseHub_frame i s) (by decide) (by decide)

theorem State.Measured.postGrant (p : Port) (g : GrantStatus) (s : State) : s.Measured (s.postGrant p g) :=
  .of_frame (State.postGrant_frame p g s) (by decide) (by decide)

theorem State.Measured.portLinkDown (p : Port) (s : State) : s.Measured (s.portLinkDown p) :=
  .of_frame (State.portLinkDown_frame p s) (by decide) (by decide)

theorem State.Measured.leaveGranted (p : Port) (s : State) : s.Measured (s.leaveGranted p) :=
  .of_units rfl fun q => by
    rw [show (s.leaveGranted p).ports = (s.modPort p fun u => { u with grant := 0 }).ports from rfl, State.modPort_port]
    split
    · exact ⟨rfl, rfl⟩
    · exact ⟨rfl, rfl⟩

theorem State.Measured.unpowered (p : Port) (s : State) : s.Measured (s.modPort p PortUnit.unpowered) :=
  .modPort p s (fun _ => rfl) fun _ => rfl

/-! #### Admission -/

theorem State.Measured.shed (p : Port) (s : State) : s.Measured (s.shed p) :=
  .of_units (State.shed_frame p s .supply (by decide)) fun q => by
    rw [State.shed_port]
    split
    · exact ⟨rfl, rfl⟩
    · exact ⟨rfl, rfl⟩

theorem State.Measured.grantHead (e : Entry) (s : State) : s.Measured (s.grantHead e) :=
  .of_units (State.grantHead_frame e s .supply (by decide)) fun q => by
    rw [State.grantHead_ports]
    split
    · next hq =>
      subst hq
      unfold State.grantedUnit
      split
      · exact ⟨rfl, rfl⟩
      · exact ⟨rfl, rfl⟩
    · exact ⟨rfl, rfl⟩

theorem State.Measured.evaluate (s : State) : s.Measured s.evaluate :=
  State.evaluate_keeps (P := fun y => s.Measured y) (good := fun _ => True) (fun _ _ _ _ => trivial)
    (fun _ e hy _ => hy.trans (.grantHead e _)) (fun _ q hy _ => hy.trans (.shed q _)) (.refl s)

theorem State.Measured.evaluateIf (b : Bool) (s : State) : s.Measured (s.evaluateIf b) := by
  unfold State.evaluateIf
  split
  · exact .evaluate s
  · exact .refl s

theorem State.Measured.shedUntil (candidate : State → Port → Bool) (need : Int) (s : State) :
    s.Measured (s.shedUntil candidate need) :=
  State.shedLoop_keeps (P := fun y => s.Measured y) (fun _ q hy _ => hy.trans (.shed q _)) _ _ _ (.refl s)

theorem State.Measured.supplyLoss (s : State) : s.Measured s.supplyLoss :=
  .foldl (fun s p => by
    rw [State.losePort_eq]
    have hunpower : (s.removeIncrease p).Measured ((s.removeIncrease p).unpower p) :=
      ((State.Measured.leaveGranted p _).trans (.setPortState p .waiting _)).trans (.unpowered p _)
    exact .after ((hunpower.trans (.portLinkDown p _)).trans
      (.of_frame (State.addEntry_frame _ _) (by decide) (by decide))) rfl rfl) _ s

/-! #### The port power units -/

theorem State.Measured.trip (p : Port) (reason : TripReason) (s : State) : s.Measured (s.trip p reason) := by
  rw [State.trip_eq]
  have hunit : s.Measured (s.modPort p fun u =>
      u.tripped reason (s.tripLocks p) (((s.classOf p).map (·.retryDelay)).getD 1)) :=
    .modPort p s (fun _ => rfl) fun _ => rfl
  have hrelease : s.Measured (s.tripRelease p reason) :=
    (hunit.trans (.leaveGranted p _)).trans (.of_eq rfl rfl)
  have hend : ∀ (b : Bool) (y : State), y.Measured (y.tripEnd p b) := by
    intro b y
    unfold State.tripEnd
    refine .trans (.trans ?_ (.raiseHub .portTrip _)) (.of_eq rfl rfl)
    split
    · exact (State.Measured.setPortState p .locked y).trans (.raiseHub _ _)
    · exact .setPortState p .tripped y
  exact ((hrelease.trans (.portLinkDown p _)).trans (hend _ _)).trans (.evaluateIf _ _)

theorem State.Measured.levelTo (p : Port) {f : PortUnit → PortUnit} (st : PortState) (g : GrantStatus) (s : State)
    (hsense : ∀ u, (f u).sense = u.sense) (hcurrent : ∀ u, (f u).current = u.current) :
    s.Measured (s.levelTo p f st g) :=
  ((State.Measured.modPort p s hsense hcurrent).trans (.setPortState p st _)).trans (.postGrant p g _)

theorem State.Measured.judgeOverdraw (p : Port) (s : State) : s.Measured (s.judgeOverdraw p) := by
  have hover : ∀ y : State, y.Measured (y.overdrawInOn p) := by
    intro y
    unfold State.overdrawInOn
    dsimp only
    split
    · exact .trip p .overdraw y
    · exact .levelTo p .limit .limit y (fun _ => rfl) fun _ => rfl
  have hback : ∀ y : State, y.Measured (y.backToOn p) := fun y =>
    .levelTo p .on .on y (fun _ => rfl) fun _ => rfl
  unfold State.judgeOverdraw
  dsimp only
  have hfigures : ∀ n, s.Measured (s.modPort p fun u => { u with figures := n }) :=
    fun n => .modPort p s (fun _ => rfl) fun _ => rfl
  refine (hfigures (some (Machine.portPower s.busVolts (s.ports.get p).current, toleranceOf (s.ports.get p).grant
    (((s.classOf p).map (·.tolerance)).getD 0)))).trans ?_
  split
  · split
    · exact hover _
    · exact .refl _
  · split
    · exact hback _
    · exact .refl _

theorem State.Measured.scanJudge (p : Port) (s : State) : s.Measured (s.scanJudge p) := by
  unfold State.scanJudge
  dsimp only
  split
  · split
    · exact .modPort p s (fun _ => rfl) fun _ => rfl
    · exact .refl s
  · exact .judgeOverdraw p s
  · exact .judgeOverdraw p s
  · exact .refl s

theorem State.Measured.dropPort (p : Port) (s : State) : s.Measured (s.dropPort p) :=
  .of_units (State.dropPort_frame p s .supply (by decide)) fun q => by
    rw [State.dropPort_ports]
    split
    · exact ⟨rfl, rfl⟩
    · exact ⟨rfl, rfl⟩

theorem State.Measured.classify (p : Port) (reason : Reason) (s : State) : s.Measured (s.classify p reason) := by
  have hsettle : ∀ (f : PortUnit → PortUnit) (st : PortState) (i : HubItem), (∀ u, (f u).sense = u.sense) →
      (∀ u, (f u).current = u.current) → s.Measured (s.settle p f st i) := fun f st i hsense hcurrent =>
    ((State.Measured.modPort p s hsense hcurrent).trans (.setPortState p st _)).trans (.raiseHub i _)
  cases hreading : s.reading p with
  | cls c fixed =>
    rw [State.classify_of_class hreading]
    refine .trans (.of_units (State.enlist_frame p reason _ s .supply (by decide)) fun q => ?_) (.evaluate _)
    rw [State.enlist_ports]
    split
    · exact ⟨rfl, rfl⟩
    · exact ⟨rfl, rfl⟩
  | short =>
    rw [State.classify_of_short hreading]
    exact hsettle _ _ _ (fun _ => rfl) fun _ => rfl
  | _ =>
    rw [State.classify_of_open hreading]
    exact hsettle _ _ _ (fun _ => rfl) fun _ => rfl

theorem State.Measured.debounceExpire (p : Port) (s : State) : s.Measured (s.debounceExpire p) := by
  have hstable : ∀ (l : Level) (y : State), y.Measured (y.modPort p fun u => { u with stable := l }) :=
    fun l y => .modPort p y (fun _ => rfl) fun _ => rfl
  rw [State.debounceExpire_eq]
  refine .trans (.modPort p (f := fun u => { u with debounce := none }) s (fun _ => rfl) fun _ => rfl) ?_
  unfold State.acceptLevel
  split
  · split
    · exact .setPortState p .vacant _
    · exact .refl _
  · split
    · split
      · exact (hstable _ _).trans (.classify p .attach _)
      · exact hstable _ _
    · split
      · exact (hstable _ _).trans (.raiseHub _ _)
      · rw [State.detach_eq]
        exact ((((State.Measured.dropPort p _).trans (.setPortState p .vacant _)).trans (hstable _ _)).trans
          (.raiseHub _ _)).trans (.evaluateIf _ _)

theorem State.Measured.scanDetect (p : Port) (s : State) : s.Measured (s.scanDetect p) := by
  have hlevel : s.Measured (s.scanLevel p) := .modPort p s (fun _ => rfl) fun _ => rfl
  have hedge : s.Measured (s.scanEdge p) := by
    unfold State.scanEdge
    split
    · exact hlevel.trans (.setPortState p _ _)
    · exact hlevel
  rw [State.scanDetect_eq]
  split
  · exact hedge.trans (.debounceExpire p _)
  · exact hedge

/-! #### The budget unit and the sources -/

theorem State.Measured.scanBudget (s : State) : s.Measured s.scanBudget := by
  have hset : ∀ (o : Overcommit) (y : State), y.Measured (y.setOvercommit o) := fun _ _ => .of_eq rfl rfl
  have hafter : ∀ y : State, y.Measured y.afterShedding := fun y =>
    .of_frame (State.afterShedding_frame y) (by decide) (by decide)
  have hexpire : ∀ y : State, y.Measured y.shedExpire := by
    intro y
    unfold State.shedExpire
    dsimp only
    have hshed := (hset .clear y).trans (.shedUntil State.overcommitCandidate 0 _)
    split
    · exact hshed.trans (hafter _)
    · exact (hshed.trans (hafter _)).trans (.evaluate _)
  have hstart : ∀ y : State, y.Measured y.startShedTimer := by
    intro y
    unfold State.startShedTimer
    split
    · exact hexpire y
    · exact .of_eq rfl rfl
  have hjudge : ∀ y : State, y.Measured y.judgeOvercommit := by
    intro y
    unfold State.judgeOvercommit
    split
    · exact hset _ _
    · split
      · exact hstart _
      · exact .refl _
      · split
        · exact hstart _
        · exact .refl _
  unfold State.scanBudget
  dsimp only
  refine .trans (.trans (.of_frame (State.computeBudget_frame s) (by decide) (by decide)) ?_) (.evaluate _)
  split
  · exact hjudge _
  · exact .refl _

theorem State.Measured.beginChangeover (target : Source) (s : State) : s.Measured (s.beginChangeover target) := by
  rw [State.beginChangeover_eq]
  refine .trans (t := s.setOut target) (.of_eq rfl rfl) (.foldl (fun y p => ?_) Port.all _)
  rw [State.pause_eq]
  split
  · have hunit : y.Measured (y.pauseUnit p) :=
      ((State.Measured.setPortState p .paused y).trans (.unpowered p _)).trans (.of_eq rfl rfl)
    exact hunit.trans (.portLinkDown p _)
  · exact .refl y

theorem State.Measured.judgeAuto (s : State) : s.Measured s.judgeAuto := by
  unfold State.judgeAuto State.startAuto
  split
  · exact .of_eq rfl rfl
  · split
    · exact .refl s
    · split
      · exact .beginChangeover _ s
      · exact .of_eq rfl rfl

theorem State.Measured.becomeUsable (src : Source) (s : State) : s.Measured (s.becomeUsable src) :=
  have hmonitor : s.Measured (s.qualified src) := .modSource src s fun _ => rfl
  (hmonitor.trans (.of_frame (State.closeUsable_parts _) (by decide) (by decide))).trans (.judgeAuto _)

theorem State.Measured.sourceFailed (src : Source) (s : State) : s.Measured (s.sourceFailed src) := by
  have hmonitor : s.Measured (s.modSource src fun m => { m with qual := .unusable, failTimer := none }) :=
    .modSource src s fun _ => rfl
  have hreported : s.Measured (s.failReported src) :=
    hmonitor.trans (.after (.raiseHub .sourceFailed _) rfl rfl)
  refine hreported.trans ?_
  by_cases h : s.sel.state = .active src
  · by_cases hother : (s.supply.get src.other).qual = .usable
    · rw [State.sourceFailed_of_usable h hother]
      exact (State.Measured.beginChangeover _ _).trans (.of_eq rfl rfl)
    · rw [State.sourceFailed_of_none h hother]
      refine .trans (.trans ?_ (.raiseHub .noSource _)) (.of_eq rfl rfl)
      exact .after (.supplyLoss _) rfl rfl
  · rw [State.sourceFailed_of_other h]
    exact .of_eq rfl rfl

theorem State.Measured.scanSource (src : Source) (s : State) : s.Measured (s.scanSource src) := by
  have hmonitor : ∀ f : SourceMonitor → SourceMonitor, (∀ m, (f m).ring = m.ring) → s.Measured (s.modSource src f) :=
    fun f hf => .modSource src s hf
  unfold State.scanSource
  dsimp only
  split
  · exact .refl s
  · split
    · split
      · split
        · exact .becomeUsable src s
        · exact hmonitor _ fun _ => rfl
      · exact .refl s
    · split
      · exact .refl s
      · exact hmonitor _ fun _ => rfl
    · split
      · exact .sourceFailed src s
      · split
        · split
          · exact .refl s
          · split
            · exact .sourceFailed src s
            · exact hmonitor _ fun _ => rfl
        · exact hmonitor _ fun _ => rfl

/-- R1: every user of a scan leaves its samples. -/
theorem State.Measured.scanPart (x : ScanPart) (s : State) : s.Measured (s.scanPart x) := by
  cases x with
  | source src => exact .scanSource src s
  | budget => exact .scanBudget s
  | detect p => exact .scanDetect p s
  | judge p => exact .scanJudge p s

end Measured

section Scan

/-- What the users of a scan may change. -/
def Part.scanned : List Part :=
  [.supply, .sel, .budget, .admission, .granted, .grantSlots, .ports, .links, .queues, .records, .held, .events,
    .counters, .mgmt]

theorem State.scanPart_frame (x : ScanPart) (s : State) : (s.scanPart x).SameBut Part.scanned s := by
  cases x with
  | source src => exact (State.scanSource_frame src s).weaken (by decide)
  | budget => exact (State.scanBudget_frame s).weaken (by decide)
  | detect p => exact (State.scanDetect_frame p s).weaken (by decide)
  | judge p => exact (State.scanJudge_frame p s).weaken (by decide)

theorem State.foldl_scanPart_frame (l : List ScanPart) (s : State) :
    (l.foldl (fun y x => y.scanPart x) s).SameBut Part.scanned s := by
  induction l generalizing s with
  | nil => exact .refl _ s
  | cons x l ih => exact (ih _).comp (s.scanPart_frame x) (by decide)

/-- Settles O23. -/
theorem scanStoresSamples : Obligations.ScanStoresSamples := by
  refine ⟨fun x order s u hpin hu => ?_, fun order => ⟨scanOrder_nodup order, mem_scanOrder order, fun h =>
    ⟨scanParts.filter fun x => decide (x ∉ order), by rw [scanOrder, List.eraseDups_of_nodup h], List.filter_sublist⟩⟩, fun _ _ _ => ⟨rfl, rfl, rfl, rfl⟩,
    fun x order s hpin => ?_⟩
  · subst hu
    exact event_of_running (f := State.scan x order) hpin rfl
  · have hstored : (s.storeSamples x).SameBut [.supply, .busVolts, .ports] s := by
      intro y hy; cases y <;> first | exact absurd (by decide) hy | rfl
    have hscanned : (s.scan x order).selectAll.SameBut Part.scanned (s.storeSamples x) :=
      (State.selectAll_frame _).comp (State.foldl_scanPart_frame _ _) (by decide)
    have hkept : (s.storeSamples x).Measured (s.scan x order).selectAll :=
      (State.Measured.foldl (fun y part => State.Measured.scanPart part y) (scanOrder order) _).trans
        (.of_frame (State.selectAll_frame _) (by decide) (by decide))
    have hport : ∀ p, (s.storeSamples x).ports.get p =
        { s.ports.get p with sense := sampled 511 (x.sense.get p), current := sampled 1023 (x.current.get p) } :=
      fun p => PerPort.get_ofFn _ p
    refine ⟨_, event_of_running (f := State.scan x order) hpin rfl, hkept.ring .line, hkept.ring .batt,
      hscanned .busVolts (by decide), fun p => ⟨?_, ?_⟩, hscanned.comp (hstored.weaken (by decide)) (by decide)⟩
    · rw [hkept.sense, hport]
      rfl
    · rw [hkept.current, hport]
      rfl

end Scan
end Sys2Proof.Machine

namespace Sys2Proof.Machine

open Sys2Proof

/-! ### Bytes and the check (R87) -/

section Bytes

theorem byte_toNat (n : Nat) : (byte n).toNat = n % 256 := BitVec.toNat_ofNat _ _

/-- The check is read back from its two bytes. -/
theorem append_eq_of_be16 {hi lo : Byte} {x : BitVec 16} (h : [hi, lo] = be16 x.toNat) : hi ++ lo = x := by
  obtain ⟨rfl, hlow⟩ := List.cons_eq_cons.mp h
  obtain ⟨rfl, -⟩ := List.cons_eq_cons.mp hlow
  refine BitVec.eq_of_toNat_eq ?_
  have hx : x.toNat < 65536 := x.isLt
  rw [BitVec.toNat_append, byte_toNat, byte_toNat, ← Nat.shiftLeft_add_eq_or_of_lt (by omega), Nat.shiftLeft_eq]
  omega

variable {link : Dest} {bytes body : List Byte} {hi lo : Byte}

theorem judgeFrame_of_length (h : bytes.length < 7 ∨ 55 < bytes.length) : judgeFrame link bytes = .malformed := if_pos h

theorem judgeFrame_append (hlow : 5 ≤ body.length) (hhigh : body.length ≤ 53) :
    judgeFrame link (body ++ [hi, lo]) =
      if [hi, lo] = be16 (crc body).toNat then judgeBody link body else .checkError := by
  have hlength : (body ++ [hi, lo]).length = body.length + 2 := by simp
  rw [judgeFrame, if_neg (by omega), hlength, Nat.add_sub_cancel, List.drop_left, List.take_left]

/-- R87, R88: a frame with the check of its body is judged by its body. -/
theorem judgeFrame_checked (hlow : 5 ≤ body.length) (hhigh : body.length ≤ 53) :
    judgeFrame link (body ++ be16 (crc body).toNat) = judgeBody link body :=
  (judgeFrame_append hlow hhigh).trans (if_pos rfl)

end Bytes

/-! ### Kinds (R88, R89, R153) -/

section Kinds

variable {k : MsgKind} {link : Dest} {n field : Nat}

theorem MsgKind.ofCode_code (k : MsgKind) : MsgKind.ofCode k.code = some k := by cases k <;> rfl

theorem MsgKind.code_of_ofCode (h : MsgKind.ofCode n = some k) : n = k.code := by
  unfold MsgKind.ofCode at h
  split at h
  all_goals first | (obtain rfl := Option.some.inj h; rfl) | cases h

theorem MsgKind.ofCode_eq_none_iff (n : Nat) : MsgKind.ofCode n = none ↔ n = 0 ∨ n = 7 ∨ 10 < n := by
  constructor
  · intro h
    by_contra hn
    have hcases : n = 1 ∨ n = 2 ∨ n = 3 ∨ n = 4 ∨ n = 5 ∨ n = 6 ∨ n = 8 ∨ n = 9 ∨ n = 10 := by omega
    rcases hcases with rfl | rfl | rfl | rfl | rfl | rfl | rfl | rfl | rfl <;> cases h
  · intro h
    cases hk : MsgKind.ofCode n with
    | none => rfl
    | some k =>
      obtain rfl := MsgKind.code_of_ofCode hk
      cases k <;> simp [MsgKind.code] at h

theorem MsgKind.fixedLength_iff (k : MsgKind) (n : Nat) : (∀ m ∈ k.fixedLength, n = m) ↔
    ¬ ((k.code = 2 ∧ n ≠ 2) ∨ ((k.code = 4 ∨ k.code = 5) ∧ n ≠ 0)) := by
  cases k <;> simp [MsgKind.fixedLength, MsgKind.code]

theorem MsgKind.mayArrive_iff (k : MsgKind) (link : Dest) : k.mayArrive link = true ↔
    ¬ ((link = .u ∧ k.code = 2) ∨ (link ≠ .u ∧ k.code = 8) ∨ k.code = 3 ∨ k.code = 6 ∨ k.code = 9 ∨ k.code = 10) := by
  cases link <;> cases k <;> simp [MsgKind.mayArrive, MsgKind.code]

theorem MsgKind.portFieldAllowed_iff (k : MsgKind) (link : Dest) (field : Nat) : k.portFieldAllowed link field = true ↔
    ¬ (((link ≠ .u ∨ k.code ≠ 1) ∧ field ≠ 0) ∨
      (link = .u ∧ k.code = 1 ∧ (field = 0 ∨ (8 < field ∧ field ≠ 15)))) := by
  cases link with
  | port p => cases k <;> simp [MsgKind.portFieldAllowed, MsgKind.code]
  | u =>
    cases k with
    | data => simp [MsgKind.portFieldAllowed, MsgKind.code]; omega
    | _ => simp [MsgKind.portFieldAllowed, MsgKind.code]

end Kinds

/-! ### The judgement of a body (R88, R89) -/

section Judgement

variable {k : MsgKind} {link : Dest} {b0 b1 channel target len : Byte} {payload : List Byte}

theorem judgeBody_of_unknown (h : MsgKind.ofCode (b0.toNat / 16) = none) :
    judgeBody link (b0 :: b1 :: channel :: target :: len :: payload) = .malformed := by
  rw [judgeBody, h]

theorem judgeBody_of_kind (h : MsgKind.ofCode (b0.toNat / 16) = some k) :
    judgeBody link (b0 :: b1 :: channel :: target :: len :: payload) =
      if len.toNat ≤ 48 ∧ payload.length = len.toNat ∧ (∀ n ∈ k.fixedLength, len.toNat = n) ∧
          k.mayArrive link = true ∧ k.portFieldAllowed link (b1.toNat / 16) = true then
        .good k ⟨b0.getLsbD 3, b0.getLsbD 2, b0.getLsbD 1, b1.toNat / 16, channel, target, payload⟩
      else .malformed := by
  rw [judgeBody, h]

/-- R88, R89: exactly these bodies are malformed or refused. -/
theorem judgeBody_malformed_iff : judgeBody link (b0 :: b1 :: channel :: target :: len :: payload) = .malformed ↔
    b0.toNat / 16 = 0 ∨ b0.toNat / 16 = 7 ∨ 10 < b0.toNat / 16 ∨ 48 < len.toNat ∨ payload.length ≠ len.toNat ∨
      (b0.toNat / 16 = 2 ∧ len.toNat ≠ 2) ∨ ((b0.toNat / 16 = 4 ∨ b0.toNat / 16 = 5) ∧ len.toNat ≠ 0) ∨
      (link = .u ∧ b0.toNat / 16 = 2) ∨ (link ≠ .u ∧ b0.toNat / 16 = 8) ∨ b0.toNat / 16 = 3 ∨ b0.toNat / 16 = 6 ∨
      b0.toNat / 16 = 9 ∨ b0.toNat / 16 = 10 ∨
      ((link ≠ .u ∨ b0.toNat / 16 ≠ 1) ∧ b1.toNat / 16 ≠ 0) ∨
      (link = .u ∧ b0.toNat / 16 = 1 ∧ (b1.toNat / 16 = 0 ∨ (8 < b1.toNat / 16 ∧ b1.toNat / 16 ≠ 15))) := by
  cases hk : MsgKind.ofCode (b0.toNat / 16) with
  | none =>
    have hcode := (MsgKind.ofCode_eq_none_iff _).mp hk
    rw [judgeBody_of_unknown hk]
    tauto
  | some k =>
    have hknown : ¬ (b0.toNat / 16 = 0 ∨ b0.toNat / 16 = 7 ∨ 10 < b0.toNat / 16) := fun h => by
      rw [(MsgKind.ofCode_eq_none_iff _).mpr h] at hk
      cases hk
    have hcode := MsgKind.code_of_ofCode hk
    rw [judgeBody_of_kind hk, ite_eq_right_iff, MsgKind.fixedLength_iff, MsgKind.mayArrive_iff,
      MsgKind.portFieldAllowed_iff, ← hcode, ← not_lt]
    simp only [not_or] at hknown
    simp only [hknown.1, hknown.2.1, hknown.2.2, reduceCtorEq, imp_false, false_or, not_and_or, not_not, ne_eq,
      or_assoc]

theorem judgeBody_good (h : judgeBody link (b0 :: b1 :: channel :: target :: len :: payload) ≠ .malformed) :
    ∃ k : MsgKind, k.code = b0.toNat / 16 ∧ judgeBody link (b0 :: b1 :: channel :: target :: len :: payload) =
      .good k ⟨b0.getLsbD 3, b0.getLsbD 2, b0.getLsbD 1, b1.toNat / 16, channel, target, payload⟩ := by
  cases hk : MsgKind.ofCode (b0.toNat / 16) with
  | none => exact absurd (judgeBody_of_unknown hk) h
  | some k =>
    refine ⟨k, (MsgKind.code_of_ofCode hk).symm, ?_⟩
    rw [judgeBody_of_kind hk] at h ⊢
    exact if_pos (by_contra fun hn => h (if_neg hn))

/-- R153: the first byte of a header holds the kind and the flags. -/
theorem header_flags (k : MsgKind) (timed urgent late : Bool) :
    let b := byte (k.code * 16 + bit timed 8 + bit urgent 4 + bit late 2)
    b.toNat / 16 = k.code ∧ b.getLsbD 3 = timed ∧ b.getLsbD 2 = urgent ∧ b.getLsbD 1 = late := by
  cases k <;> revert timed urgent late <;> decide

theorem header_port {n : Nat} (h : n ≤ 15) : (byte (n * 16)).toNat / 16 = n := by
  rw [byte_toNat]
  omega

/-- Settles O37: each field of the header is read back from its byte. -/
theorem wireIsJudgedGood : Obligations.WireIsJudgedGood := by
  intro k link m hlength hport harrives hfield hfixed
  obtain ⟨hkind, htimed, hurgent, hlate⟩ := header_flags k m.timed m.urgent m.late
  have hlen : (byte m.payload.length).toNat = m.payload.length := by
    rw [byte_toNat]
    omega
  have hbody : (messageBytes k m).length = m.payload.length + 5 := rfl
  rw [wire, judgeFrame_checked (by omega) (by omega), messageBytes,
    judgeBody_of_kind (hkind ▸ MsgKind.ofCode_code k), hlen, header_port hport, htimed, hurgent, hlate,
    if_pos ⟨hlength, rfl, hfixed, harrives, hfield⟩]

end Judgement

/-! ### What a reception does (R53, R88, R92) -/

section Selection

variable {s : State}

/-- R99: a message that begins is at most taken from the lane. -/
theorem State.begin_mgmt (d : Dest) (x : TxSource) (s : State) :
    (s.begin d x).mgmt = { s.mgmt with lane := (s.begin d x).mgmt.lane } := by
  unfold State.begin
  cases x with
  | flow => dsimp only; split <;> rfl
  | mark => dsimp only; split <;> rfl
  | grant =>
    cases d with
    | u => rfl
    | port p => dsimp only; split <;> rfl
  | lane => dsimp only; split <;> rfl
  | urgent => dsimp only; split <;> rfl
  | bulk => dsimp only; split <;> rfl

theorem State.select_mgmt (d : Dest) (s : State) : (s.select d).mgmt = { s.mgmt with lane := (s.select d).mgmt.lane } := by
  unfold State.select
  split
  · exact State.begin_mgmt d _ s
  · rfl

/-- R98, R99: transmit selection takes from the management unit nothing but messages of the lane. -/
theorem State.selectAll_mgmt (s : State) : s.selectAll.mgmt = { s.mgmt with lane := s.selectAll.mgmt.lane } := by
  have hfold : ∀ (l : List Dest) (y : State), (l.foldl (fun s d => s.select d) y).mgmt =
      { y.mgmt with lane := (l.foldl (fun s d => s.select d) y).mgmt.lane } := by
    intro l
    induction l with
    | nil => exact fun _ => rfl
    | cons d l ih =>
      intro y
      rw [List.foldl_cons, ih, State.select_mgmt]
  exact hfold _ s

@[simp] theorem State.selectAll_input (s : State) : s.selectAll.mgmt.input = s.mgmt.input := by
  rw [State.selectAll_mgmt]

@[simp] theorem State.selectAll_inHand (s : State) : s.selectAll.mgmt.inHand = s.mgmt.inHand := by
  rw [State.selectAll_mgmt]

@[simp] theorem State.selectAll_operational (s : State) : s.selectAll.mgmt.operational = s.mgmt.operational := by
  rw [State.selectAll_mgmt]

end Selection

section Reception

variable {s : State} {link : Dest} {bytes : List Byte} {v : Verdict} {m : Message} {k : MsgKind} {p : Port}

theorem State.Settled.countEndpoint (h : s.Settled) (d : Dest) (f : EndpointCounters → EndpointCounters) :
    (s.countEndpoint d f).Settled :=
  h.of_frame (State.countEndpoint_frame d f s) (by decide) (by decide) (by decide) (by decide)

theorem State.frameReception_of_down (h : s.linkState link = .down) :
    s.frameReception link bytes = s.demandAtLeaving link (judgeFrame link bytes) := if_pos h

theorem State.frameReception_of_up (h : s.linkState link ≠ .down) :
    s.frameReception link bytes = s.receive link (judgeFrame link bytes) := if_neg h

/-- R92: no other frame is judged on a link that is DOWN. -/
theorem State.demandAtLeaving_of_other (h : (s.links.get link).downAt ≠ some s.now ∨ ∀ m, v ≠ .good .demand m) :
    s.demandAtLeaving link v = s := by
  unfold State.demandAtLeaving
  split
  · next m p =>
    rcases h with hearlier | hother
    · exact if_neg (by simp [State.downNow, hearlier])
    · exact absurd rfl (hother m)
  · rfl

theorem State.strayStart_of_down (h : s.linkState link = .down) : s.strayStart link = s := if_pos h

theorem State.strayStart_of_up (h : s.linkState link ≠ .down) :
    s.strayStart link = s.countEndpoint link EndpointCounters.addMalformed := if_neg h

theorem quietEvent_of_running {f : State → State} {t : State} (h : s.resetPin = false) (ht : f s = t) :
    quietEvent f s = .next t := by
  simp [quietEvent, h, ht]

/-- Settles O38, class by class. -/
theorem badFramesAreOnlyCounted : Obligations.BadFramesAreOnlyCounted := by
  refine ⟨fun link bytes body hi lo => ⟨fun h => judgeFrame_of_length (.inl h), fun h => judgeFrame_of_length (.inr h),
    fun hbytes hlow hhigh hcheck => ?_⟩,
    fun link b0 b1 channel target len payload body kind field hbody hkind hfield => ?_,
    fun s link bytes hpin hs => ⟨fun hdown => ⟨?_, fun hother => ?_⟩, fun p m hlink hdown hopen hnow hgood => ?_,
      fun hup hbad => ?_, fun hup hbad => ?_, fun hup => ?_⟩⟩
  · have hlength : bytes.length = body.length + 2 := by simp [hbytes]
    rw [hbytes, judgeFrame_append (by omega) (by omega), if_neg fun h => hcheck (append_eq_of_be16 h)]
  · subst hbody hkind hfield
    by_cases hlong : 48 < payload.length
    · have hmalformed : judgeFrame link (b0 :: b1 :: channel :: target :: len :: payload ++
          be16 (crc (b0 :: b1 :: channel :: target :: len :: payload)).toNat) = .malformed :=
        judgeFrame_of_length (.inr (by simp [be16]; omega))
      have hlen : 48 < len.toNat ∨ payload.length ≠ len.toNat := by omega
      refine ⟨iff_of_true hmalformed ?_, fun h => absurd hmalformed h⟩
      tauto
    · rw [judgeFrame_checked (by simp) (by simp; omega)]
      exact ⟨judgeBody_malformed_iff, judgeBody_good⟩
  · exact quietEvent_of_running (f := State.strayStart link) hpin (State.strayStart_of_down hdown)
  · refine (event_of_running (f := State.frameReception link bytes) hpin ?_).trans
      (congrArg Host.Outcome.next (State.selectAll_of_settled s hs))
    rw [State.frameReception_of_down hdown, State.demandAtLeaving_of_other hother]
  · subst hlink
    refine (event_of_running (f := State.frameReception (.port p) bytes) hpin ?_).trans
      (congrArg Host.Outcome.next (State.selectAll_of_settled _ ((hs.countEndpoint _ _).countEndpoint _ _)))
    have hstate : (s.links.get (.port p)).state = .down := hdown
    have hleaving : s.downNow (.port p) = true := by simp [State.downNow, hnow, hstate]
    rw [State.frameReception_of_down hdown, hgood, State.demandAtLeaving_of_now p m s hleaving,
      State.demand_of_unpowered (s := s.countEndpoint _ _) hopen]
  · refine (event_of_running (f := State.frameReception link bytes) hpin ?_).trans
      (congrArg Host.Outcome.next (State.selectAll_of_settled _ (hs.countEndpoint _ _)))
    rw [State.frameReception_of_up hup, hbad, State.receive]
  · refine (event_of_running (f := State.frameReception link bytes) hpin ?_).trans
      (congrArg Host.Outcome.next (State.selectAll_of_settled _ (hs.countEndpoint _ _)))
    rw [State.frameReception_of_up hup, hbad, State.receive]
  · exact quietEvent_of_running (f := State.strayStart link) hpin (State.strayStart_of_up hup)

/-! ### Good frames (R89, R91, R96, R143) -/

theorem State.requestArrives_of_room {r : Request} (h : s.mgmt.input.length < 4) :
    s.requestArrives r = s.modMgmt fun m => { m with input := m.input ++ [r] } := if_pos h

theorem State.requestArrives_of_full {r : Request} (h : 4 ≤ s.mgmt.input.length) : s.requestArrives r =
    State.raiseHub .mgmtOverrun { s with counters := { s.counters with overruns := s.counters.overruns + 1 } } :=
  if_neg (Nat.not_lt.mpr h)

theorem State.wake_frame (link : Dest) (s : State) : (s.wake link).SameBut [.links] s := by
  unfold State.wake
  split
  · exact State.linkUp_frame link s
  · exact .refl _ s

/-- Settles O39, kind by kind. -/
theorem goodFramesAreHandedOn : Obligations.GoodFramesAreHandedOn := by
  intro s u link bytes k m hpin hup hgood hu
  have hwoken : u = (s.countEndpoint link EndpointCounters.addGood).wake link := hu
  have hexec : ∀ t, u.handOn link k m = t → exec (.frameReception link bytes) s = .next t.selectAll := fun t ht => by
    refine event_of_running (f := State.frameReception link bytes) hpin ?_
    rw [State.frameReception_of_up hup, hgood, State.receive, ← hwoken, ht]
  have hframe : u.SameBut [.links] (s.countEndpoint link EndpointCounters.addGood) := hwoken ▸ State.wake_frame _ _
  have hmgmt : u.mgmt = s.mgmt := hframe .mgmt (by decide)
  refine ⟨?_, ?_, ?_, ?_, ?_, ?_⟩
  · rintro rfl
    exact hexec _ (by cases link <;> rfl)
  · rintro rfl
    exact hexec _ (by cases link <;> rfl)
  · rintro rfl
    exact hexec _ (by cases link <;> rfl)
  · rintro p rfl rfl
    exact hexec _ rfl
  · rintro rfl rfl hroom
    exact hexec _ (State.requestArrives_of_room (by rw [hmgmt]; exact hroom))
  · rintro rfl rfl hfull
    refine ⟨_, hexec _ (State.requestArrives_of_full (by rw [hmgmt]; exact hfull)), ?_⟩
    let v : State := { u with counters := { u.counters with overruns := u.counters.overruns + 1 } }
    have hvcounted : v.SameBut [.counters] u := by
      intro x hx; cases x <;> first | exact absurd (by decide) hx | rfl
    have hraise := State.raiseHub_frame .mgmtOverrun v
    have hcounters : (v.raiseHub .mgmtOverrun).selectAll.counters = v.counters :=
      (State.selectAll_counters _).trans (hraise .counters (by decide))
    have hcounted : u.counters = (s.countEndpoint .u EndpointCounters.addGood).counters := hframe .counters (by decide)
    refine ⟨?_, ?_, ?_, ?_, ?_⟩
    · rw [State.selectAll_input, hraise .mgmt (by decide)]
      exact congrArg Mgmt.input hmgmt
    · rw [hcounters, show v.counters.overruns = u.counters.overruns + 1 from rfl, hcounted]
      rfl
    · rw [hcounters, show v.counters.endpoint = u.counters.endpoint from rfl, hcounted, State.countEndpoint,
        PerDest.get_set_self]
      rfl
    · rw [State.selectAll_events]
      exact State.raise_set _ _
    · exact (State.selectAll_frame _).comp (hraise.comp (hvcounted.comp (hframe.comp
        ((State.countEndpoint_frame .u _ s).weaken (by decide)) (by decide)) (by decide))
        (by decide)) (by decide)

end Reception
end Sys2Proof.Machine

namespace Sys2Proof.Machine

open Sys2Proof

/-! ### What the pool holds (R112, R113) -/

section Pool

variable {s : State} {i slot : Nat} {d : Dest}

theorem State.freeSlot_eq_none (h : s.freeRecords = 0) : s.freeSlot = none := by
  rw [State.freeSlot, List.findIdx?_eq_none_iff]
  intro r hr
  have hnone := List.countP_eq_zero.mp h r hr
  exact Bool.eq_false_iff.mpr hnone

theorem State.freeSlot_isSome (h : 0 < s.freeRecords) : ∃ slot, s.freeSlot = some slot := by
  obtain ⟨r, hr, hnone⟩ := List.countP_pos_iff.mp h
  cases hslot : s.freeSlot with
  | some slot => exact ⟨slot, rfl⟩
  | none =>
    rw [State.freeSlot, List.findIdx?_eq_none_iff] at hslot
    rw [hslot r hr] at hnone
    cases hnone

/-- One slot of the records is written. -/
def State.withRecord (i : Nat) (x : Option Record) (s : State) : State := { s with records := s.records.set i x }

theorem State.withRecord_frame (i : Nat) (x : Option Record) (s : State) : (s.withRecord i x).SameBut [.records] s := by
  intro y hy; cases y <;> first | exact absurd (by decide) hy | rfl

theorem State.withRecord_record (hi : i < s.records.length) (x : Option Record) (j : Nat) :
    (s.withRecord i x).record j = if i = j then x else s.record j := by
  rw [State.withRecord, State.record_set]
  simp [hi]

theorem State.withRecord_withRecord (i : Nat) (x y : Option Record) (s : State) :
    (s.withRecord i x).withRecord i y = s.withRecord i y := by
  rw [State.withRecord, State.withRecord, List.set_set]
  rfl

theorem State.getElem_of_record (hi : i < s.records.length) : s.records[i] = s.record i := by
  rw [State.record, List.getElem?_eq_getElem hi, Option.join_some]

theorem State.withRecord_self (s : State) (i : Nat) : (s.withRecord i (s.record i)).records = s.records := by
  by_cases hi : i < s.records.length
  · rw [State.withRecord, ← State.getElem_of_record hi]
    exact List.set_getElem_self hi
  · exact List.set_eq_of_length_le (Nat.le_of_not_lt hi)

theorem State.withRecord_heldCells (hi : i < s.records.length) (x : Option Record) :
    (s.withRecord i x).heldCells + slotCells (s.record i) = s.heldCells + slotCells x := by
  have hsum := sum_slotCells_set hi x
  rw [State.getElem_of_record hi] at hsum
  exact hsum

theorem State.withRecord_freeRecords (hi : i < s.records.length) (x : Option Record) :
    (s.withRecord i x).freeRecords + (if (s.record i).isNone then 1 else 0) =
      s.freeRecords + if x.isNone then 1 else 0 := by
  have hcount : (s.records.set i x).countP Option.isNone = _ := List.countP_set hi
  have hpos : (if s.records[i].isNone then 1 else 0) ≤ s.records.countP Option.isNone := by
    split
    · next h => exact List.countP_pos_iff.mpr ⟨_, List.getElem_mem hi, h⟩
    · exact Nat.zero_le _
  rw [State.getElem_of_record hi] at hcount hpos
  rw [State.freeRecords, State.withRecord, hcount, State.freeRecords]
  omega

theorem State.addRef_eq {r : Record} (h : s.record i = some r) :
    s.addRef i = s.withRecord i (some { r with refs := r.refs + 1 }) := by
  rw [State.addRef, h]
  rfl

theorem State.freeIfUnused_of_used {r : Record} (h : s.record i = some r) (hr : r.refs ≠ 0) : s.freeIfUnused i = s := by
  rw [State.freeIfUnused, h]
  exact if_neg hr

theorem State.freeIfUnused_of_unused {r : Record} (h : s.record i = some r) (hr : r.refs = 0) :
    s.freeIfUnused i = (s.withRecord i none).judgeFree := by
  rw [State.freeIfUnused, h]
  exact if_pos hr

theorem State.enterHeld_mark (s : State) : (s.enterHeld.events.marks (.hub .poolHold)).set = true := by
  rw [State.enterHeld, State.raiseHub]
  exact State.raise_set _ _

end Pool

/-! ### Placements (R109, R110, R115, R137, R138) -/

section Placing

variable {s : State} {m : Message} {x : Decision} {d : Dest} {slot : Nat} {e : QEntry} {c : QueueClass} {ds : List Dest}

theorem State.placement_timed (h : m.timed = true) : s.placement m x d = .framed m.target x.late := if_pos h

theorem State.placement_plain (hm : m.timed = false) (hx : x.align = false) : s.placement m x d = .queued x.cls := by
  rw [State.placement, if_neg (by simp [hm]), if_neg (by simp [hx])]

theorem State.placement_aligned (hm : m.timed = false) (hx : x.align = true) :
    s.placement m x d = .framed (s.alignedTarget d) x.late := by
  rw [State.placement, if_neg (by simp [hm]), if_pos hx]

/-- The queue of a class. -/
def Queues.ofClass (q : Queues) : QueueClass → List QEntry
  | .urgent => q.urgent
  | .bulk => q.bulk

/-- An entry joins the queue of a class. -/
def Queues.join (c : QueueClass) (e : QEntry) (q : Queues) : Queues :=
  match c with
  | .urgent => { q with urgent := q.urgent ++ [e] }
  | .bulk => { q with bulk := q.bulk ++ [e] }

theorem State.joinQueue_of_room (h : ((s.queues.get d).ofClass c).length < 8) :
    s.joinQueue d c e = (s.modQueues d (Queues.join c e)).addRef e.slot := by
  cases c with
  | urgent => exact if_pos h
  | bulk => exact if_pos h

theorem State.joinQueue_of_full (h : 8 ≤ ((s.queues.get d).ofClass c).length) :
    s.joinQueue d c e = s.countEndpoint d EndpointCounters.addQueueFull := by
  cases c with
  | urgent => exact if_neg (Nat.not_lt.mpr h)
  | bulk => exact if_neg (Nat.not_lt.mpr h)

theorem State.isLate_iff {target : Byte} : s.isLate d target = true ↔
    128 ≤ (target - s.timing.counter).toNat ∨
      ((target - s.timing.counter).toNat = 0 ∧ (s.phases.get d).released = true) := by
  simp [State.isLate]

theorem State.place_of_late {target : Byte} {late : LateAction} (h : s.isLate d target = true) :
    s.place slot d (.framed target late) = s.placeLate d slot late := if_pos h

theorem State.place_of_coming {target : Byte} {late : LateAction} (h : s.isLate d target = false) :
    s.place slot d (.framed target late) = s.joinTimed d ⟨slot, target, late⟩ := if_neg (by simp [h])

theorem State.countEndpoint_get (d : Dest) (f : EndpointCounters → EndpointCounters) (s : State) (e : Dest) :
    (s.countEndpoint d f).counters.endpoint.get e =
      if e = d then f (s.counters.endpoint.get e) else s.counters.endpoint.get e := by
  rw [State.countEndpoint, PerDest.get_set]
  split
  · next h => rw [h]
  · rfl

/-- R114: one count at each of several destinations. -/
theorem State.foldl_countEndpoint {f : EndpointCounters → EndpointCounters} (hds : ds.Nodup) (d : Dest) (s : State) :
    (ds.foldl (fun s d => s.countEndpoint d f) s).counters.endpoint.get d =
      if d ∈ ds then f (s.counters.endpoint.get d) else s.counters.endpoint.get d := by
  induction ds generalizing s with
  | nil => simp
  | cons e ds ih =>
    obtain ⟨he, hds⟩ := List.nodup_cons.mp hds
    rw [List.foldl_cons, ih hds, State.countEndpoint_get]
    by_cases hd : d = e
    · subst hd
      simp [he]
    · simp [hd]

theorem State.foldl_countEndpoint_frame (f : EndpointCounters → EndpointCounters) (ds : List Dest) (s : State) :
    (ds.foldl (fun s d => s.countEndpoint d f) s).SameBut [.counters] s :=
  State.SameBut.foldl (fun s d => State.countEndpoint_frame d f s) ds s

/-- R115, R116: where there is room everywhere, each queue is joined and each joining is a reference. -/
theorem State.foldl_joinQueue_of_room {r : Record} (hds : ds.Nodup)
    (hroom : ∀ d ∈ ds, ((s.queues.get d).ofClass c).length < 8) (hr : s.record slot = some r) :
    (ds.foldl (fun s d => s.joinQueue d c ⟨slot, false⟩) s).SameBut [.queues, .records] s ∧
      (ds.foldl (fun s d => s.joinQueue d c ⟨slot, false⟩) s).records =
        (s.withRecord slot (some { r with refs := r.refs + ds.length })).records ∧
      ∀ d, (ds.foldl (fun s d => s.joinQueue d c ⟨slot, false⟩) s).queues.get d =
        if d ∈ ds then (s.queues.get d).join c ⟨slot, false⟩ else s.queues.get d := by
  induction ds generalizing s r with
  | nil =>
    refine ⟨.refl _ s, ?_, fun d => by simp⟩
    have hself := s.withRecord_self slot
    rw [hr] at hself
    exact hself.symm
  | cons e ds ih =>
    obtain ⟨he, hds⟩ := List.nodup_cons.mp hds
    let y := s.modQueues e (Queues.join c ⟨slot, false⟩)
    have hyr : y.record slot = some r := hr
    have hz : s.joinQueue e c ⟨slot, false⟩ = y.withRecord slot (some { r with refs := r.refs + 1 }) := by
      rw [State.joinQueue_of_room (hroom e (List.mem_cons_self ..))]
      exact State.addRef_eq hyr
    have hyq : ∀ d, (y.withRecord slot (some { r with refs := r.refs + 1 })).queues.get d =
        if d = e then (s.queues.get d).join c ⟨slot, false⟩ else s.queues.get d := fun d => by
      rw [State.withRecord_frame _ _ _ .queues (by decide), State.modQueues_queues, PerDest.get_set]
      split
      · next h => rw [h]
      · rfl
    have hzr : (y.withRecord slot (some { r with refs := r.refs + 1 })).record slot =
        some { r with refs := r.refs + 1 } := by
      rw [State.withRecord_record (State.lt_of_record hyr), if_pos rfl]
    obtain ⟨hframe, hrecords, hqueues⟩ := ih (s := y.withRecord slot (some { r with refs := r.refs + 1 }))
      (r := { r with refs := r.refs + 1 }) hds
      (fun d hd => by
        have hde : d ≠ e := fun h => he (h ▸ hd)
        rw [hyq, if_neg hde]
        exact hroom d (List.mem_cons_of_mem _ hd)) hzr
    rw [List.foldl_cons, hz]
    refine ⟨hframe.comp (m := [.queues, .records]) ((State.withRecord_frame _ _ _).comp
      ((State.modQueues_frame _ _ s).weaken (n := [.queues, .records]) (by decide)) (by decide)) (by decide), ?_, fun d => ?_⟩
    · rw [hrecords, State.withRecord_withRecord, List.length_cons]
      show (s.withRecord slot _).records = (s.withRecord slot _).records
      rw [Nat.add_assoc, Nat.add_comm 1]
    · rw [hqueues, hyq]
      by_cases hd : d = e
      · subst hd
        simp [he]
      · simp [hd]

/-- R115: where every queue is full, each refuses and counts. -/
theorem State.foldl_joinQueue_of_full (hfull : ∀ d ∈ ds, 8 ≤ ((s.queues.get d).ofClass c).length) :
    ds.foldl (fun s d => s.joinQueue d c ⟨slot, false⟩) s =
      ds.foldl (fun s d => s.countEndpoint d EndpointCounters.addQueueFull) s := by
  induction ds generalizing s with
  | nil => rfl
  | cons e ds ih =>
    rw [List.foldl_cons, List.foldl_cons, State.joinQueue_of_full (hfull e (List.mem_cons_self ..))]
    exact ih fun d hd => hfull d (List.mem_cons_of_mem _ hd)

end Placing

/-! ### The hand-off (R114, R120) -/

section HandOff

variable {s t : State} {ingress : Dest} {m : Message} {x : Decision} {slot : Nat}

/-- R114: the destinations whose link is DOWN. -/
def State.downDests (s : State) (x : Decision) : List Dest := x.dests.filter fun d => decide (s.linkState d = .down)

/-- R114: the destinations that a placement is made at. -/
def State.liveDests (s : State) (x : Decision) : List Dest := x.dests.filter fun d => decide (s.linkState d ≠ .down)

theorem State.handOff_eq (ingress : Dest) (m : Message) (x : Decision) (s : State) :
    s.handOff ingress m x = (s.countDown (s.downDests x)).takeAndPlace ingress m x (s.liveDests x) := rfl

theorem State.countDown_parts (ds : List Dest) (s : State) : (s.countDown ds).SameBut [.counters] s :=
  State.foldl_countEndpoint_frame _ ds s

theorem State.countDown_freeSlot (ds : List Dest) (s : State) : (s.countDown ds).freeSlot = s.freeSlot := by
  rw [State.freeSlot, State.countDown_parts ds s .records (by decide)]
  rfl

theorem State.countDown_freeCells (ds : List Dest) (s : State) : (s.countDown ds).freeCells = s.freeCells :=
  State.freeCells_congr (State.countDown_parts ds s .records (by decide))

theorem State.mem_liveDests {d : Dest} : d ∈ s.liveDests x ↔ d ∈ x.dests ∧ s.linkState d ≠ .down := by
  simp [State.liveDests]

theorem State.liveDests_nodup (h : x.dests.Nodup) (s : State) : (s.liveDests x).Nodup := h.filter _

theorem State.handOff_of_down (h : ∀ d ∈ x.dests, s.linkState d = .down) :
    s.handOff ingress m x = s.countDown x.dests := by
  have hlive : s.liveDests x = [] := List.filter_eq_nil_iff.mpr fun d hd => by simp [h d hd]
  have hdown : s.downDests x = x.dests := List.filter_eq_self.mpr fun d hd => by simp [h d hd]
  rw [State.handOff_eq, hlive, hdown]
  exact if_pos rfl

/-- R114: without a free record, or with too few cells, nothing is taken. -/
theorem State.handOff_of_none (h : s.liveDests x ≠ [])
    (hnone : s.freeRecords = 0 ∨ s.freeCells < cellsFor m.payload.length) :
    s.handOff ingress m x = (s.countDown (s.downDests x)).noBuffer ingress := by
  rw [State.handOff_eq, State.takeAndPlace, if_neg h, State.countDown_freeSlot, State.countDown_freeCells]
  split
  · rfl
  · next slot hslot =>
    rcases hnone with hrecords | hcells
    · rw [State.freeSlot_eq_none hrecords] at hslot
      cases hslot
    · exact if_pos hcells

/-- R114: a record and its cells are taken. -/
theorem State.handOff_of_room (h : s.liveDests x ≠ []) (hslot : s.freeSlot = some slot)
    (hcells : cellsFor m.payload.length ≤ s.freeCells) : s.handOff ingress m x =
      ((s.countDown (s.downDests x)).take slot ingress m).placeAll slot m x (s.liveDests x) := by
  rw [State.handOff_eq, State.takeAndPlace, if_neg h, State.countDown_freeSlot, State.countDown_freeCells, hslot]
  exact if_neg (Nat.not_lt.mpr hcells)

/-- R109: an untimed message that no entry aligns joins the queue of its class everywhere. -/
theorem State.placeAll_plain (hm : m.timed = false) (hx : x.align = false) (ds : List Dest) :
    s.placeAll slot m x ds = (ds.foldl (fun s d => s.joinQueue d x.cls ⟨slot, false⟩) s).freeIfUnused slot := by
  have hplace : (fun (s : State) d => s.place slot d (s.placement m x d)) =
      fun s d => s.joinQueue d x.cls ⟨slot, false⟩ := by
    funext y d
    rw [State.placement_plain hm hx]
    rfl
  rw [State.placeAll, hplace]

theorem State.take_frame (slot : Nat) (ingress : Dest) (m : Message) (s : State) :
    (s.take slot ingress m).SameBut [.records, .links, .held, .events] s :=
  (State.judgeTake_frame _).comp ((State.withRecord_frame _ _ s).weaken (by decide)) (by decide)

theorem State.take_records (slot : Nat) (ingress : Dest) (m : Message) (s : State) :
    (s.take slot ingress m).records = (s.withRecord slot (some ⟨m, ingress, 0⟩)).records :=
  State.judgeTake_frame _ .records (by decide)

/-- R120: a take that enters HELD reports it. -/
theorem State.judgeTake_mark (h : s.held = false) (ht : s.judgeTake.held = true) :
    (s.judgeTake.events.marks (.hub .poolHold)).set = true := by
  rw [State.judgeTake_held, h] at ht
  rw [State.judgeTake, if_pos ⟨h, by simpa using ht⟩]
  exact s.enterHeld_mark

theorem placement_noBuffer (hlive : ∃ d ∈ x.dests, s.linkState d ≠ .down)
    (hnone : s.freeRecords = 0 ∨ s.freeCells < cellsFor m.payload.length) :
    ((s.handOff ingress m x).counters.endpoint.get ingress).noBuffer =
      (s.counters.endpoint.get ingress).noBuffer + 1 ∧
    (s.handOff ingress m x).records = s.records ∧ (s.handOff ingress m x).queues = s.queues ∧
    (s.handOff ingress m x).held = true ∧
    (s.held = false → ((s.handOff ingress m x).events.marks (.hub .poolHold)).set = true) := by
  obtain ⟨d, hd, hup⟩ := hlive
  have hne : s.liveDests x ≠ [] := List.ne_nil_of_mem (State.mem_liveDests.mpr ⟨hd, hup⟩)
  let y := s.countDown (s.downDests x)
  let z := y.countEndpoint ingress EndpointCounters.addNoBuffer
  have hy : y.SameBut [.counters] s := State.countDown_parts _ s
  have hz : z.SameBut [.counters] s := (State.countEndpoint_frame _ _ _).comp hy (by decide)
  have heq : s.handOff ingress m x = if z.held then z else z.enterHeld := State.handOff_of_none hne hnone
  have hframe : (s.handOff ingress m x).SameBut [.links, .held, .events] z := by
    rw [heq]
    split
    · exact .refl _ z
    · exact (State.enterHeld_frame z).weaken (by decide)
  have hcount : ∀ (ds : List Dest) (y : State), ((y.countDown ds).counters.endpoint.get ingress).noBuffer =
      (y.counters.endpoint.get ingress).noBuffer := by
    intro ds
    induction ds with
    | nil => exact fun _ => rfl
    | cons e ds ih =>
      intro y
      refine (ih _).trans ?_
      rw [State.countEndpoint_get]
      split
      · rfl
      · rfl
  refine ⟨?_, ?_, ?_, ?_, fun hheld => ?_⟩
  · have hz : z.counters.endpoint.get ingress = _ := (State.countEndpoint_get ingress _ y ingress).trans (if_pos rfl)
    rw [hframe .counters (by decide), hz, ← hcount (s.downDests x) s]
    rfl
  · rw [hframe .records (by decide), hz .records (by decide)]
  · rw [hframe .queues (by decide), hz .queues (by decide)]
  · rw [heq]
    split
    · next h => exact h
    · exact State.enterHeld_held z
  · rw [heq, if_neg (by rw [hz .held (by decide), hheld]; decide)]
    exact z.enterHeld_mark

/-- R112, R114, R120: what a hand-off with room at every destination takes. -/
theorem placement_taken (hne : s.liveDests x ≠ []) (hdests : x.dests.Nodup) (hrecords : 0 < s.freeRecords)
    (hcells : cellsFor m.payload.length ≤ s.freeCells) (hm : m.timed = false) (hx : x.align = false)
    (hroom : ∀ d ∈ s.liveDests x, ((s.queues.get d).ofClass x.cls).length < 8) :
    ∃ slot, s.record slot = none ∧ slot < s.records.length ∧
      (s.handOff ingress m x).records =
        (s.withRecord slot (some ⟨m, ingress, (s.liveDests x).length⟩)).records ∧
      (∀ d, (s.handOff ingress m x).queues.get d =
        if d ∈ s.liveDests x then (s.queues.get d).join x.cls ⟨slot, false⟩ else s.queues.get d) ∧
      (s.handOff ingress m x).held =
        (s.held || decide ((s.handOff ingress m x).freeCells ≤ s.tables.holdLevel)) ∧
      (s.held = false → (s.handOff ingress m x).held = true →
        ((s.handOff ingress m x).events.marks (.hub .poolHold)).set = true) := by
  obtain ⟨slot, hslot⟩ := State.freeSlot_isSome hrecords
  obtain ⟨hfree, hlt⟩ := State.record_of_findIdx hslot
  let y := s.countDown (s.downDests x)
  have hy : y.SameBut [.counters] s := State.countDown_parts _ s
  have hyrecords : y.records = s.records := hy .records (by decide)
  let filled := y.withRecord slot (some ⟨m, ingress, 0⟩)
  let v := y.take slot ingress m
  have hv := State.take_frame slot ingress m y
  have hylt : slot < y.records.length := by rw [hyrecords]; exact hlt
  have hrecord : v.record slot = some ⟨m, ingress, 0⟩ := by
    rw [State.record_congr (State.take_records slot ingress m y), State.withRecord_record hylt, if_pos rfl]
  obtain ⟨hframe, hrec, hqueues⟩ := State.foldl_joinQueue_of_room (c := x.cls) (s.liveDests_nodup hdests)
    (fun d hd => by rw [hv .queues (by decide), hy .queues (by decide)]; exact hroom d hd) hrecord
  set w := (s.liveDests x).foldl (fun s d => s.joinQueue d x.cls ⟨slot, false⟩) v with hw
  have hwrecords : w.records = (s.withRecord slot (some ⟨m, ingress, (s.liveDests x).length⟩)).records := by
    rw [hrec, State.withRecord, State.take_records, State.withRecord, List.set_set, hyrecords, Nat.zero_add]
    rfl
  have hwrecord : w.record slot = some ⟨m, ingress, (s.liveDests x).length⟩ := by
    rw [State.record_congr hwrecords, State.withRecord_record hlt, if_pos rfl]
  have heq : s.handOff ingress m x = w := by
    rw [State.handOff_of_room hne hslot hcells, State.placeAll_plain hm hx]
    exact State.freeIfUnused_of_used hwrecord (by simpa using hne)
  have hcellsEq : w.freeCells = filled.freeCells := by
    have hwheld := State.withRecord_heldCells hlt (some ⟨m, ingress, (s.liveDests x).length⟩)
    have hfheld := State.withRecord_heldCells hylt (some ⟨m, ingress, 0⟩)
    have hyheld : y.heldCells = s.heldCells := by rw [State.heldCells_eq, State.heldCells_eq, hyrecords]
    rw [State.record_congr hyrecords, hyheld] at hfheld
    have hslots : slotCells (some ⟨m, ingress, (s.liveDests x).length⟩) = slotCells (some ⟨m, ingress, 0⟩) := rfl
    have hww : w.heldCells = (s.withRecord slot (some ⟨m, ingress, (s.liveDests x).length⟩)).heldCells := by
      rw [State.heldCells_eq, hwrecords]
      rfl
    have hff : filled.heldCells = (y.withRecord slot (some ⟨m, ingress, 0⟩)).heldCells := rfl
    rw [State.freeCells, State.freeCells]
    omega
  have hheld : w.held = (s.held || decide (w.freeCells ≤ s.tables.holdLevel)) := by
    rw [hframe .held (by decide), hcellsEq]
    refine (State.judgeTake_held filled).trans ?_
    rw [State.withRecord_frame _ _ y .held (by decide), State.withRecord_frame _ _ y .tables (by decide),
      hy .held (by decide), hy .tables (by decide)]
  rw [heq]
  refine ⟨slot, hfree, hlt, hwrecords, fun d => ?_, hheld, fun hclear hentered => ?_⟩
  · rw [hqueues, hv .queues (by decide), hy .queues (by decide)]
  · rw [hframe .held (by decide)] at hentered
    rw [hframe .events (by decide)]
    have hheld : y.held = s.held := hy .held (by decide)
    exact State.judgeTake_mark (s := filled) (hheld.trans hclear) hentered

/-- R115, R116: where every queue is full the record is free again. -/
theorem placement_refused (hne : s.liveDests x ≠ []) (hdests : x.dests.Nodup) (hrecords : 0 < s.freeRecords)
    (hcells : cellsFor m.payload.length ≤ s.freeCells) (hm : m.timed = false) (hx : x.align = false)
    (hfull : ∀ d ∈ s.liveDests x, 8 ≤ ((s.queues.get d).ofClass x.cls).length) :
    (s.handOff ingress m x).records = s.records ∧ (s.handOff ingress m x).queues = s.queues ∧
      ∀ d ∈ s.liveDests x, ((s.handOff ingress m x).counters.endpoint.get d).queueFull =
        (s.counters.endpoint.get d).queueFull + 1 := by
  obtain ⟨slot, hslot⟩ := State.freeSlot_isSome hrecords
  obtain ⟨hfree, hlt⟩ := State.record_of_findIdx hslot
  let y := s.countDown (s.downDests x)
  have hy : y.SameBut [.counters] s := State.countDown_parts _ s
  have hyrecords : y.records = s.records := hy .records (by decide)
  let v := y.take slot ingress m
  have hv := State.take_frame slot ingress m y
  let w := (s.liveDests x).foldl (fun s d => s.countEndpoint d EndpointCounters.addQueueFull) v
  have hw : w.SameBut [.counters] v := State.foldl_countEndpoint_frame _ _ v
  have hwrecords : w.records = (s.withRecord slot (some ⟨m, ingress, 0⟩)).records := by
    rw [hw .records (by decide), State.take_records, State.withRecord, hyrecords]
    rfl
  have hwrecord : w.record slot = some ⟨m, ingress, 0⟩ := by
    rw [State.record_congr hwrecords, State.withRecord_record hlt, if_pos rfl]
  have heq : s.handOff ingress m x = (w.withRecord slot none).judgeFree := by
    rw [State.handOff_of_room hne hslot hcells, State.placeAll_plain hm hx, State.foldl_joinQueue_of_full fun d hd => by
      rw [hv .queues (by decide), hy .queues (by decide)]; exact hfull d hd]
    exact State.freeIfUnused_of_unused hwrecord rfl
  have hjudge := State.judgeFree_frame (w.withRecord slot none)
  have hset := State.withRecord_frame slot none w
  rw [heq]
  refine ⟨?_, ?_, fun d hd => ?_⟩
  · rw [hjudge .records (by decide), State.withRecord, hwrecords, State.withRecord, List.set_set]
    have hself := s.withRecord_self slot
    rw [hfree] at hself
    exact hself
  · rw [hjudge .queues (by decide), hset .queues (by decide), hw .queues (by decide), hv .queues (by decide),
      hy .queues (by decide)]
  · have hnot : d ∉ s.downDests x := fun h => by
      have hdown := of_decide_eq_true (List.mem_filter.mp h).2
      exact (State.mem_liveDests.mp hd).2 hdown
    have hcount : y.counters.endpoint.get d = s.counters.endpoint.get d :=
      (State.foldl_countEndpoint (hdests.filter _) d s).trans (if_neg hnot)
    have hwcount : w.counters.endpoint.get d = _ :=
      (State.foldl_countEndpoint (s.liveDests_nodup hdests) d v).trans (if_pos hd)
    rw [hjudge .counters (by decide), hset .counters (by decide), hwcount, hv .counters (by decide), hcount]
    rfl

theorem placement_cells (hcells : cellsFor m.payload.length ≤ s.freeCells) (hfree : s.record slot = none)
    (hlt : slot < s.records.length) (n : Nat) (ht : t.records = (s.withRecord slot (some ⟨m, ingress, n⟩)).records) :
    t.freeRecords + 1 = s.freeRecords ∧ t.freeCells + cellsFor m.payload.length = s.freeCells := by
  have hheld := State.withRecord_heldCells hlt (some ⟨m, ingress, n⟩)
  have hcount := State.withRecord_freeRecords hlt (some ⟨m, ingress, n⟩)
  have htheld : t.heldCells = (s.withRecord slot (some ⟨m, ingress, n⟩)).heldCells := by
    rw [State.heldCells_eq, ht]
    rfl
  have htcount : t.freeRecords = (s.withRecord slot (some ⟨m, ingress, n⟩)).freeRecords := by
    rw [State.freeRecords, ht]
    rfl
  have hslot : slotCells (some ⟨m, ingress, n⟩) = cellsFor m.payload.length := rfl
  have hzero : slotCells none = 0 := rfl
  rw [hfree] at hheld hcount
  simp only [Option.isNone_none, if_true, Option.isNone_some, Bool.false_eq_true, if_false] at hcount
  refine ⟨by omega, ?_⟩
  rw [State.freeCells] at hcells ⊢
  rw [State.freeCells]
  omega

/-- Settles O41. -/
theorem placement : Obligations.Placement := by
  refine ⟨fun s m x d => ⟨fun h => State.placement_timed h, fun hm hx => State.placement_plain hm hx,
    fun hm hx hd => ?_, fun hm hx hd => ?_⟩, fun s slot d target late dist hdist => ?_,
    fun s ingress m x => ⟨fun hdown hnodup => ?_, fun hlive hnone => placement_noBuffer hlive hnone⟩,
    fun s t ingress m x ds ht hds hne hnodup hrecords hcells hm hx => ?_⟩
  · rw [State.placement_aligned hm hx, State.alignedTarget, if_neg (by simp [hd])]
  · rw [State.placement_aligned hm hx, State.alignedTarget, if_pos hd]
  · subst hdist
    refine ⟨fun h => State.joinQueue_of_room (c := .bulk) h, fun h => State.joinQueue_of_full (c := .bulk) h,
      fun h => State.joinQueue_of_room (c := .urgent) h, fun h => State.joinQueue_of_full (c := .urgent) h,
      fun hcoming => ?_, fun hlate => ?_⟩
    · have hnot : s.isLate d target = false := Bool.eq_false_iff.mpr fun h => by
        have hl := State.isLate_iff.mp h
        rcases hcoming with hc | ⟨hc, hr⟩
        · omega
        · rcases hl with hl | ⟨-, hl⟩
          · omega
          · rw [hr] at hl
            cases hl
      exact ⟨fun h => (State.place_of_coming hnot).trans (if_pos h),
        fun h => (State.place_of_coming hnot).trans (if_neg (Nat.not_lt.mpr h))⟩
    · have hl := State.isLate_iff.mpr hlate
      exact ⟨State.place_of_late hl,
        fun h => (State.place_of_late hl).trans (State.joinQueue_of_room (c := .urgent) (e := ⟨slot, true⟩) h),
        fun h => (State.place_of_late hl).trans (State.joinQueue_of_full (c := .urgent) (e := ⟨slot, true⟩) h)⟩
  · rw [State.handOff_of_down hdown]
    exact ⟨State.countDown_parts _ s, fun d => State.foldl_countEndpoint hnodup d s⟩
  · subst ht hds
    refine ⟨fun hroom => ?_, fun hfull => ?_⟩
    · obtain ⟨slot, hfree, hlt, hrec, hqueues, hheld, hmark⟩ := placement_taken (ingress := ingress) hne hnodup hrecords
        hcells hm hx fun d hd => by
          cases x.cls with
          | urgent => exact (hroom d hd).1
          | bulk => exact (hroom d hd).2
      obtain ⟨hcount, hcell⟩ := placement_cells hcells hfree hlt _ hrec
      refine ⟨⟨slot, hfree, ?_, fun i hi => ?_, fun d => ?_⟩, hcount, hcell, hheld, hmark⟩
      · rw [State.record_congr hrec, State.withRecord_record hlt, if_pos rfl]
        rfl
      · rw [State.record_congr hrec, State.withRecord_record hlt, if_neg fun h => hi h.symm]
      · rw [hqueues]
        rfl
    · refine placement_refused hne hnodup hrecords hcells hm hx fun d hd => ?_
      cases x.cls with
      | urgent => exact (hfull d hd).1
      | bulk => exact (hfull d hd).2

end HandOff
end Sys2Proof.Machine

namespace Sys2Proof.Machine

open Sys2Proof

/-! ### The release of a reference (R116, R117) -/

section Release

variable {s : State} {i : Nat} {r : Record}

theorem State.releaseRef_eq (h : s.record i = some r) :
    s.releaseRef i = (s.withRecord i (some { r with refs := r.refs - 1 })).freeIfUnused i := by
  rw [State.releaseRef, h]
  rfl

/-- R116: a record with other references stays. -/
theorem State.releaseRef_of_shared (h : s.record i = some r) (hr : 2 ≤ r.refs) :
    s.releaseRef i = s.withRecord i (some { r with refs := r.refs - 1 }) := by
  have hrecord := State.withRecord_record (State.lt_of_record h) (some { r with refs := r.refs - 1 }) i
  rw [if_pos rfl] at hrecord
  rw [State.releaseRef_eq h, State.freeIfUnused_of_used hrecord (by dsimp only; omega)]

/-- R116, R117: the last reference frees the record. -/
theorem State.releaseRef_of_last (h : s.record i = some r) (hr : r.refs = 1) :
    s.releaseRef i = (s.withRecord i none).judgeFree := by
  have hrecord := State.withRecord_record (State.lt_of_record h) (some { r with refs := r.refs - 1 }) i
  rw [if_pos rfl] at hrecord
  rw [State.releaseRef_eq h, State.freeIfUnused_of_unused hrecord (by dsimp only; omega), State.withRecord_withRecord]

theorem transmission_release (h : s.record i = some r) :
    (2 ≤ r.refs → (s.releaseRef i).record i = some { r with refs := r.refs - 1 } ∧
      (s.releaseRef i).freeCells = s.freeCells ∧ (s.releaseRef i).held = s.held) ∧
    (r.refs = 1 → (s.releaseRef i).record i = none ∧
      (s.releaseRef i).freeRecords = s.freeRecords + 1 ∧
      (s.heldCells ≤ 128 → (s.releaseRef i).freeCells = s.freeCells + cellsFor r.msg.payload.length)) ∧
    (∀ j, j ≠ i → (s.releaseRef i).record j = s.record j) := by
  have hlt := State.lt_of_record h
  have hcells : slotCells (some r) = cellsFor r.msg.payload.length := rfl
  refine ⟨fun hr => ?_, fun hr => ?_, fun j hj => ?_⟩
  · have hheld := State.withRecord_heldCells hlt (some { r with refs := r.refs - 1 })
    have hsame : slotCells (some { r with refs := r.refs - 1 }) = slotCells (some r) := rfl
    rw [h, hsame] at hheld
    rw [State.releaseRef_of_shared h hr, State.withRecord_record hlt, if_pos rfl, State.freeCells, State.freeCells]
    exact ⟨rfl, by omega, rfl⟩
  · have hheld := State.withRecord_heldCells hlt none
    have hcount := State.withRecord_freeRecords hlt none
    have hzero : slotCells none = 0 := rfl
    have hrecords : ((s.withRecord i none).judgeFree).records = (s.withRecord i none).records :=
      State.judgeFree_frame _ .records (by decide)
    have hfree : ((s.withRecord i none).judgeFree).freeRecords = (s.withRecord i none).freeRecords := by
      rw [State.freeRecords, hrecords]
      rfl
    rw [h] at hheld hcount
    simp only [Option.isNone_some, Bool.false_eq_true, if_false, Option.isNone_none, if_true] at hcount
    rw [State.releaseRef_of_last h hr, State.record_congr hrecords, State.withRecord_record hlt, if_pos rfl,
      State.freeCells_congr hrecords, hfree]
    refine ⟨rfl, by omega, fun hfits => ?_⟩
    have htotal : Config.cells = 128 := rfl
    rw [State.freeCells, State.freeCells, htotal]
    omega
  · rw [State.releaseRef_record, if_neg fun hij => hj hij.symm]

end Release

/-! ### The end of a transmission (R100, R151, R157) -/

section Completion

variable {s u : State} {link : Dest} {k : TxKind} {bytes : List Byte}

/-- R157: the items that a report carried and that are still set are reported. -/
theorem State.reportComplete_marks (r : Report) (s : State) (i : Item) :
    (s.reportComplete r).events.marks i =
      if r.carries i = true ∧ (s.events.marks i).set = true then { s.events.marks i with reported := true }
      else s.events.marks i := by
  rw [State.reportComplete, Events.marks_mapMarks]
  simp only [Bool.and_eq_true]

/-- R151: no other message ends a FULL RESET. -/
theorem TxKind.endsFullReset_of_other {code : Byte} {payload : List Byte} {r : Option Report} {h : InHand}
    (hother : h ≠ .fullReset ∨ code ≠ 49 ∨ payload ≠ [0]) : (TxKind.response code payload r).endsFullReset h = false := by
  unfold TxKind.endsFullReset
  split
  · next hk =>
    cases hk
    refine Bool.eq_false_iff.mpr fun hends => ?_
    obtain ⟨hcode, hpayload⟩ := Bool.and_eq_true_iff.mp hends
    rcases hother with hh | hc | hp
    · exact hh rfl
    · exact hc (of_decide_eq_true hcode)
    · exact hp (of_decide_eq_true hpayload)
  · rfl

theorem State.completed_response {code : Byte} {payload : List Byte} {r : Option Report}
    (hother : s.mgmt.inHand ≠ .fullReset ∨ code ≠ 49 ∨ payload ≠ [0]) :
    s.completed (.response code payload r) = (r.map fun r => s.reportComplete r).getD s := by
  have hends : ∀ r, ¬ (TxKind.response code payload r).endsFullReset s.mgmt.inHand = true := fun r => by
    rw [TxKind.endsFullReset_of_other hother]
    decide
  cases r with
  | none => exact if_neg (hends none)
  | some r => exact if_neg (hends (some r))

/-- Settles O42. -/
theorem transmission : Obligations.Transmission := by
  refine ⟨fun s i r h => transmission_release h, fun s u link k bytes hpin htx hu => ?_⟩
  have hexec : ∀ t, u.completed k = t → exec (.transmissionComplete link) s = .next t.selectAll := fun t ht => by
    refine event_of_running (f := State.transmissionComplete link) hpin ?_
    rw [State.transmissionComplete, htx, ← ht, hu]
    rfl
  have hmgmt : u.mgmt = s.mgmt := by rw [hu]; rfl
  have hevents : u.events = s.events := by rw [hu]; rfl
  refine ⟨?_, ?_, fun r hk => ?_, ?_, ?_⟩
  · rintro slot rfl
    exact hexec _ rfl
  · rintro (rfl | rfl | rfl | rfl)
    · exact hexec _ rfl
    · exact hexec _ rfl
    · exact hexec _ rfl
    · exact hexec _ rfl
  · have hcompleted : u.completed k = u.reportComplete r := by
      rcases hk with rfl | ⟨code, payload, rfl, hother⟩
      · rfl
      · exact State.completed_response (by rw [hmgmt]; exact hother)
    refine ⟨_, hexec _ hcompleted, State.reportComplete_frame r u, fun i => ?_⟩
    rw [State.reportComplete_marks, hevents]
  · rintro code payload rfl hother
    exact hexec _ (State.completed_response (by rw [hmgmt]; exact hother))
  · rintro rfl hhand
    refine hexec _ ?_
    rw [State.completed, hmgmt, hhand]
    rfl

end Completion

/-! ### A link that selection leaves (R98, R99) -/

section Untouched

variable {s t u : State} {d : Dest}

theorem State.SameOffers.refl (s : State) (d : Dest) : s.SameOffers s d := ⟨rfl, rfl, rfl, fun _ => rfl⟩

theorem State.SameOffers.trans (h : t.SameOffers s d) (k : u.SameOffers t d) : u.SameOffers s d :=
  ⟨k.link.trans h.link, k.queues.trans h.queues, k.grant.trans h.grant, fun hd => (k.lane hd).trans (h.lane hd)⟩

theorem State.SameOffers.firstOffer (h : t.SameOffers s d) : t.firstOffer d = s.firstOffer d := by
  rw [State.firstOffer, funext h.offers, State.firstOffer]

/-- R98: nothing is offered on a link that is DOWN. -/
theorem State.firstOffer_of_down (h : s.linkState d = .down) : s.firstOffer d = none := by
  refine List.find?_eq_none.mpr fun src _ => ?_
  cases src <;> simp [State.offers, h]

/-- R99: selection leaves a link on which nothing is offered. -/
theorem State.selectAll_sameOffers (h : s.firstOffer d = none) : s.selectAll.SameOffers s d := by
  have hfold : ∀ (l : List Dest) (y : State), y.SameOffers s d → (l.foldl (fun s d => s.select d) y).SameOffers s d := by
    intro l
    induction l with
    | nil => exact fun _ hy => hy
    | cons e l ih =>
      intro y hy
      refine ih _ ?_
      by_cases he : d = e
      · subst he
        beta_reduce
        rw [State.select_of_no_offer y d (hy.firstOffer.trans h)]
        exact hy
      · exact hy.trans (State.select_sameOffers he y)
  exact hfold _ s (.refl s d)

end Untouched

/-! ### The line of U (R94, R95) -/

section Upstream

variable {s : State}

/-- R95: what U loses as it goes DOWN, before a FULL RESET in hand takes effect. -/
def State.uCut (s : State) : State :=
  ((s.countEndpoint .u (EndpointCounters.addLinkDown s.laneLosses)).modMgmt Mgmt.dropLane).flushLink .u

/-- R95, R158: a NOTICE in flight is lost. -/
def State.uLost (s : State) : State := if s.noticeInFlight then s.uCut.noticeLost else s.uCut

theorem State.uDown_eq (s : State) : s.uDown = if s.mgmt.inHand = .fullReset then s.uLost.hubReset else s.uLost := rfl

/-- What the passage of U to DOWN may change. -/
def Part.uCut : List Part := [.links, .queues, .records, .held, .mgmt, .events, .counters]

theorem State.uLost_after (s : State) : s.uLost.SameBut [.events] s.uCut := by
  unfold State.uLost
  split
  · exact State.noticeLost_frame _
  · exact .refl _ _

theorem State.uLost_frame (s : State) : s.uLost.SameBut Part.uCut s := by
  have hcount := (State.countEndpoint_frame .u (EndpointCounters.addLinkDown s.laneLosses) s).weaken (n := Part.uCut)
    (by decide)
  exact s.uLost_after.comp ((State.flushLink_frame .u _).comp ((State.modMgmt_frame Mgmt.dropLane _).comp hcount
    (by decide)) (by decide)) (by decide)

/-- R95: the lane and what stands at U are counted. -/
theorem State.uLost_linkDown (s : State) : (s.uLost.counters.endpoint.get .u).linkDown =
    (s.counters.endpoint.get .u).linkDown + BitVec.ofNat 32 (s.laneLosses + (s.refsAt .u).length) := by
  have hcount := State.flushLink_endpoint .u .u
    ((s.countEndpoint .u (EndpointCounters.addLinkDown s.laneLosses)).modMgmt Mgmt.dropLane)
  rw [if_pos rfl] at hcount
  rw [s.uLost_after .counters (by decide), State.uCut, hcount, BitVec.ofNat_add, ← BitVec.add_assoc]
  exact congrArg (fun c => (EndpointCounters.addLinkDown _ c).linkDown)
    ((State.countEndpoint_get .u _ s .u).trans (if_pos rfl))

theorem State.uLost_mgmt (s : State) : s.uLost.mgmt = s.mgmt.dropLane :=
  (s.uLost_after .mgmt (by decide)).trans (State.flushLink_frame .u _ .mgmt (by decide))

theorem State.uLost_link (s : State) : s.uLost.links.get .u = Link.reset := by
  rw [s.uLost_after .links (by decide)]
  exact State.flushLink_link .u _

theorem State.uLost_queues (s : State) : s.uLost.queues.get .u = Queues.reset := by
  rw [s.uLost_after .queues (by decide)]
  exact (State.flushLink_queues .u .u _).trans (if_pos rfl)

theorem Mgmt.dropLane_inHand {m : Mgmt} (h : m.inHand ≠ .fullReset) : m.dropLane.inHand = .nothing := by
  unfold Mgmt.dropLane
  dsimp only
  split
  · next heq => exact absurd heq h
  · rfl

/-- R94, R120: a link that comes UP. -/
theorem State.linkUp_link (d : Dest) (s : State) : (s.linkUp d).links.get d =
    { s.links.get d with state := .up, flowSlot := if s.held then some .hold else (s.links.get d).flowSlot } := by
  have hup : (s.modLink d fun l => { l with state := .up }).linkState d = .up := by
    rw [State.linkState, State.modLink, PerDest.get_set_self]
  unfold State.linkUp
  dsimp only
  split
  · next h =>
    have hheld : s.held = true := h
    rw [State.postFlow, if_pos hup, hheld, State.modLink, State.modLink, PerDest.get_set_self, PerDest.get_set_self]
    rfl
  · next h =>
    have hheld : s.held = false := Bool.eq_false_iff.mpr h
    rw [hheld, State.modLink, PerDest.get_set_self]
    rfl

theorem State.linkUp_link_of_ne {d e : Dest} (h : e ≠ d) (s : State) : (s.linkUp d).links.get e = s.links.get e := by
  have hmod : ∀ (f : Link → Link) (y : State), (y.modLink d f).links.get e = y.links.get e :=
    fun f y => PerDest.get_set_of_ne _ _ _ _ h
  unfold State.linkUp
  dsimp only
  split
  · rw [State.postFlow]
    split
    · rw [hmod, hmod]
    · rw [hmod]
  · rw [hmod]

/-- Settles O43. -/
theorem upstreamLine : Obligations.UpstreamLine := by
  refine fun s hpin => ⟨fun hup hhand => ?_, fun hup hhand hecut => ?_, fun hdown => ?_⟩
  · have hnot : s.linkState .u ≠ .down := by rw [hup]; decide
    have hdown : s.uDown = s.uLost := by rw [State.uDown_eq, if_neg hhand]
    have hoffers : s.uLost.selectAll.SameOffers s.uLost .u :=
      State.selectAll_sameOffers (State.firstOffer_of_down (congrArg Link.state s.uLost_link))
    refine ⟨_, event_of_running (f := fun s => if s.linkState .u = .down then s else s.uDown) hpin
      ((if_neg hnot).trans hdown), hoffers.link.trans s.uLost_link, hoffers.queues.trans s.uLost_queues, ?_, ?_, ?_, ?_,
      fun hflight => ?_, (State.selectAll_frame _).comp (s.uLost_frame.weaken (by decide)) (by decide)⟩
    · rw [hoffers.lane rfl, s.uLost_mgmt]
      rfl
    · rw [State.selectAll_input, s.uLost_mgmt]
      rfl
    · rw [State.selectAll_inHand, s.uLost_mgmt]
      exact Mgmt.dropLane_inHand hhand
    · rw [State.selectAll_counters]
      exact s.uLost_linkDown
    · rw [State.selectAll_events, State.uLost, if_pos hflight]
      rfl
  · have hnot : s.linkState .u ≠ .down := by rw [hup]; decide
    have hreset : s.uDown = State.afterReset s.uLost.pending s.uLost.now s.uLost.draws s.uLost.resetPin s.uLost.ecutPin := by
      rw [State.uDown_eq, if_pos hhand, State.hubReset]
      refine if_neg fun h => ?_
      rw [s.uLost_frame .ecutPin (by decide), hecut] at h
      exact Bool.false_ne_true h.2
    refine ⟨_, (event_of_running (f := fun s => if s.linkState .u = .down then s else s.uDown) hpin
      ((if_neg hnot).trans hreset)).trans (congrArg Host.Outcome.next (State.selectAll_of_settled _
        (State.afterReset_settled _ _ _ _ _))), rfl, rfl, rfl, rfl⟩
  · exact ⟨_, event_of_running (f := fun s => if s.linkState .u = .down then s.linkUp .u else s) hpin (if_pos hdown),
      State.linkUp_link .u s, fun p => State.linkUp_link_of_ne (by simp) s, State.linkUp_frame .u s⟩

end Upstream
end Sys2Proof.Machine

namespace Sys2Proof.Machine

open Sys2Proof

/-! ### Fields of single bits (R153) -/

section Bits

/-- The number whose bits, the least significant first, are those of a list. -/
def weigh : List Bool → Nat
  | [] => 0
  | b :: l => b.toNat + 2 * weigh l

theorem weigh_lt (l : List Bool) : weigh l < 2 ^ l.length := by
  induction l with
  | nil => exact Nat.one_pos
  | cons b l ih =>
    have hb := Bool.toNat_lt b
    rw [weigh, List.length_cons, Nat.pow_succ]
    omega

theorem weigh_testBit (l : List Bool) (i : Nat) : (weigh l).testBit i = l.getD i false := by
  induction l generalizing i with
  | nil => simp [weigh]
  | cons b l ih =>
    cases i with
    | zero => cases b <;> simp [weigh, Nat.testBit_zero]
    | succ i =>
      have hhalf : (b.toNat + 2 * weigh l) / 2 = weigh l := by
        have hb := Bool.toNat_lt b
        omega
      rw [weigh, Nat.testBit_succ, hhalf, ih, List.getD_cons_succ]

theorem bit_eq (b : Bool) (n : Nat) : bit b n = b.toNat * n := by cases b <;> simp [bit]

variable {α : Type} {f : α → Bool} {g : α → Nat} {l : List α}

/-- Weights that are the powers of two in order. -/
theorem sum_bit_eq {k : Nat} (hg : l.map g = List.range' k l.length) :
    (l.map fun a => bit (f a) (2 ^ g a)).sum = 2 ^ k * weigh (l.map f) := by
  induction l generalizing k with
  | nil => simp [weigh]
  | cons a l ih =>
    simp only [List.map_cons, List.length_cons, List.range'_succ, List.cons.injEq] at hg
    obtain ⟨ha, hl⟩ := hg
    rw [List.map_cons, List.sum_cons, ih hl, ha, List.map_cons, weigh, bit_eq]
    ring

theorem sum_bit_lt (hg : l.map g = List.range' 0 l.length) :
    (l.map fun a => bit (f a) (2 ^ g a)).sum < 2 ^ l.length := by
  have hlt := weigh_lt (l.map f)
  rw [List.length_map] at hlt
  rw [sum_bit_eq hg, Nat.pow_zero, Nat.one_mul]
  exact hlt

theorem sum_bit_testBit (hg : l.map g = List.range' 0 l.length) {a : α} (ha : a ∈ l) :
    ((l.map fun a => bit (f a) (2 ^ g a)).sum).testBit (g a) = f a := by
  obtain ⟨i, hi, rfl⟩ := List.mem_iff_getElem.mp ha
  have hgi : g l[i] = i := by
    have hat : (l.map g)[i]'(by simpa using hi) = (List.range' 0 l.length)[i]'(by simpa using hi) := by simp only [hg]
    simpa using hat
  rw [sum_bit_eq hg, Nat.pow_zero, Nat.one_mul, weigh_testBit, hgi]
  simp [hi]

theorem hubWord_lt (x : PerHub Bool) : hubWord x < 32768 := sum_bit_lt (by decide)

theorem hubWord_testBit (x : PerHub Bool) (h : HubItem) : (hubWord x).testBit h.number = x.get h :=
  sum_bit_testBit (by decide) h.mem_all

theorem markByte_lt (x : PerPort Bool) : markByte x < 256 := sum_bit_lt (by decide)

theorem markByte_testBit (x : PerPort Bool) (p : Port) : (markByte x).testBit (p.number - 1) = x.get p :=
  sum_bit_testBit (by decide) p.mem_all

end Bits

/-! ### Numbers in a payload (R153, R154) -/

section Fields

variable {p q : List Byte}

theorem byteAt_append_left {i : Nat} (h : i < p.length) : byteAt (p ++ q) i = byteAt p i := by
  rw [byteAt, byteAt, List.getD_append _ _ _ _ h]

theorem byteAt_append_right {i : Nat} (h : p.length ≤ i) : byteAt (p ++ q) i = byteAt q (i - p.length) := by
  rw [byteAt, byteAt, List.getD_append_right _ _ _ _ h]

theorem wordAt_append_left {i : Nat} (h : i + 1 < p.length) : wordAt (p ++ q) i = wordAt p i := by
  rw [wordAt, wordAt, byteAt_append_left (by omega), byteAt_append_left h]

theorem wordAt_append_right {i : Nat} (h : p.length ≤ i) : wordAt (p ++ q) i = wordAt q (i - p.length) := by
  rw [wordAt, wordAt, byteAt_append_right h, byteAt_append_right (by omega), Nat.sub_add_comm h]

theorem wordAt_be16 (n : Nat) (q : List Byte) : wordAt (be16 n ++ q) 0 = n % 65536 := by
  show (byte (n / 256)).toNat * 256 + (byte n).toNat = n % 65536
  rw [byte_toNat, byte_toNat]
  omega

end Fields

/-! ### The payload of a NOTICE (R159) -/

section Notice

variable {s : State}

theorem foldl_max_le {α : Type} {f : α → Bool} {g : α → Nat} (l : List α) (n : Nat) :
    let m := l.foldl (fun n a => if f a then max n (g a) else n) n
    n ≤ m ∧ (∀ a ∈ l, f a = true → g a ≤ m) ∧ (m = n ∨ ∃ a ∈ l, f a = true ∧ g a = m) := by
  induction l generalizing n with
  | nil => simp
  | cons a l ih =>
    obtain ⟨hle, hall, hreached⟩ := ih (if f a then max n (g a) else n)
    refine ⟨?_, fun b hb hfb => ?_, ?_⟩
    · refine le_trans ?_ hle
      split
      · exact le_max_left ..
      · exact le_rfl
    · rcases List.mem_cons.mp hb with rfl | hb
      · refine le_trans ?_ hle
        rw [if_pos hfb]
        exact le_max_right ..
      · exact hall b hb hfb
    · rcases hreached with heq | ⟨b, hb, hfb, hgb⟩
      · by_cases hfa : f a = true
        · rw [if_pos hfa] at heq
          rcases max_choice n (g a) with hmax | hmax
          · exact .inl ((List.foldl_cons ..).trans (by rw [if_pos hfa]; exact heq.trans hmax))
          · refine .inr ⟨a, List.mem_cons_self .., hfa, ?_⟩
            rw [List.foldl_cons, if_pos hfa]
            exact hmax.symm.trans heq.symm
        · rw [if_neg hfa] at heq
          refine .inl ?_
          rw [List.foldl_cons, if_neg hfa]
          exact heq
      · exact .inr ⟨b, List.mem_cons_of_mem _ hb, hfb, hgb⟩

/-- R159: the highest level of the set items that are enabled. -/
theorem State.highestLevel_spec (s : State) :
    (∀ i, (s.events.marks i).set = true → (s.tables.events.of i).enable = true →
      (s.tables.events.of i).level ≤ s.highestLevel) ∧
    (s.highestLevel = 0 ∨ ∃ i, (s.events.marks i).set = true ∧ (s.tables.events.of i).enable = true ∧
      (s.tables.events.of i).level = s.highestLevel) := by
  obtain ⟨-, hall, hreached⟩ := foldl_max_le (f := fun i => (s.events.marks i).set && (s.tables.events.of i).enable)
    (g := fun i => (s.tables.events.of i).level) Item.all 0
  refine ⟨fun i hset henable => hall i i.mem_all (by simp [hset, henable]), hreached.imp id ?_⟩
  rintro ⟨i, -, hi, hlevel⟩
  obtain ⟨hset, henable⟩ := Bool.and_eq_true_iff.mp hi
  exact ⟨i, hset, henable, hlevel⟩

theorem Tables.InRange.level (h : s.tables.InRange) (i : Item) : (s.tables.events.of i).level ≤ 3 := by
  obtain ⟨-, -, -, -, -, -, -, -, -, -, hhub, hmarks⟩ := h
  cases i with
  | hub i => exact hhub i
  | mark p => exact hmarks

theorem State.highestLevel_le (h : s.tables.InRange) : s.highestLevel ≤ 3 := by
  rcases s.highestLevel_spec.2 with hzero | ⟨i, -, -, hi⟩
  · omega
  · rw [← hi]
    exact h.level i

theorem Events.report_carries (e : Events) (i : Item) : e.report.carries i = (e.marks i).set := by
  cases i with
  | hub h => exact PerHub.get_ofFn _ h
  | mark p => exact PerPort.get_ofFn _ p

/-- R159: the fields of a NOTICE's payload. -/
theorem State.noticePayload_fields (s : State) :
    wordAt s.noticePayload 0 = hubWord s.events.report.hub ∧
      wordAt s.noticePayload 2 = hubWord (PerHub.ofFn fun h => (s.events.hub.get h).reoccurred) ∧
      byteAt s.noticePayload 4 = markByte s.events.report.ports ∧ byteAt s.noticePayload 5 = s.highestLevel % 256 := by
  have hset := hubWord_lt s.events.report.hub
  have hagain := hubWord_lt (PerHub.ofFn fun h => (s.events.hub.get h).reoccurred)
  have hmarks := markByte_lt s.events.report.ports
  refine ⟨?_, ?_, ?_, byte_toNat _⟩
  · rw [State.noticePayload, List.append_assoc, wordAt_be16]
    omega
  · rw [State.noticePayload, List.append_assoc, wordAt_append_right (by simp [be16])]
    refine (wordAt_be16 _ _).trans ?_
    omega
  · refine (byte_toNat _).trans ?_
    omega

/-- R159: what the payload of a NOTICE says of the items as they stand. -/
theorem State.noticePayload_spec (s : State) :
    s.noticePayload.length = 6 ∧ wordAt s.noticePayload 0 < 32768 ∧ wordAt s.noticePayload 2 < 32768 ∧
      (∀ h : HubItem, (wordAt s.noticePayload 0).testBit h.number = (s.events.marks (.hub h)).set ∧
        (wordAt s.noticePayload 2).testBit h.number = (s.events.marks (.hub h)).reoccurred) ∧
      (∀ p : Port, (byteAt s.noticePayload 4).testBit (p.number - 1) = (s.events.marks (.mark p)).set) ∧
      (s.tables.InRange →
        (∀ i, (s.events.marks i).set = true → (s.tables.events.of i).enable = true →
          (s.tables.events.of i).level ≤ byteAt s.noticePayload 5) ∧
        (byteAt s.noticePayload 5 = 0 ∨ ∃ i, (s.events.marks i).set = true ∧
          (s.tables.events.of i).enable = true ∧ (s.tables.events.of i).level = byteAt s.noticePayload 5)) := by
  obtain ⟨hset, hagain, hmarks, hlevel⟩ := s.noticePayload_fields
  rw [hset, hagain, hmarks, hlevel]
  refine ⟨rfl, hubWord_lt _, hubWord_lt _, fun h => ⟨?_, ?_⟩, fun p => ?_, fun hrange => ?_⟩
  · rw [hubWord_testBit]
    exact s.events.report_carries (.hub h)
  · rw [hubWord_testBit]
    exact PerHub.get_ofFn _ h
  · rw [markByte_testBit]
    exact s.events.report_carries (.mark p)
  · have hle := State.highestLevel_le hrange
    rw [Nat.mod_eq_of_lt (by omega)]
    exact s.highestLevel_spec

end Notice

/-! ### Transmit selection (R97 to R99) -/

section Selection

variable {s : State} {d : Dest} {l : Link}

/-- R90: a message of the hub's own. -/
theorem originated_eq (k : MsgKind) (channel : Byte) (payload : List Byte) :
    originated k channel payload = wire k ⟨false, false, false, 0, channel, 0, payload⟩ := rfl

theorem State.modLink_modLink (d : Dest) (f g : Link → Link) (s : State) :
    (s.modLink d f).modLink d g = s.modLink d fun l => g (f l) := by
  cases d with
  | u => rfl
  | port p => cases p <;> rfl

theorem State.modLink_of_link (hl : s.links.get d = l) (f : Link → Link) :
    s.modLink d f = { s with links := s.links.set d (f l) } := by
  rw [← hl]
  rfl

/-- R98, R99: nothing is begun on a busy link, on one that is DOWN, or without an offer. -/
theorem State.select_of_nothing (hl : s.links.get d = l)
    (h : l.tx.isSome = true ∨ l.state = .down ∨ (l.state = .wait ∧ l.markSlot = none ∧ s.grantSlot d = none) ∨
      (l.state = .up ∧ l.flowSlot = none ∧ l.markSlot = none ∧ s.grantSlot d = none ∧ (d ≠ .u ∨ s.mgmt.lane = []) ∧
        (l.receivedHold = true ∨ ((s.queues.get d).urgent = [] ∧ (s.queues.get d).bulk = [])))) :
    s.select d = s := by
  subst hl
  have hnone : (∀ src, s.offers d src = false) → s.select d = s := fun ho =>
    s.select_of_no_offer d (List.find?_eq_none.mpr fun src _ => by rw [ho]; decide)
  rcases h with hbusy | hdown | ⟨hwait, hmark, hgrant⟩ | ⟨hup, hflow, hmark, hgrant, hlane, hdata⟩
  · exact s.select_of_busy d hbusy
  · exact s.select_of_no_offer d (State.firstOffer_of_down hdown)
  · refine hnone fun src => ?_
    cases src <;> simp [State.offers, State.linkState, hwait, hmark, hgrant]
  · refine hnone fun src => ?_
    have hlane : (decide (d = .u) && !s.mgmt.lane.isEmpty) = false := by
      rcases hlane with hd | hempty
      · simp [hd]
      · simp [hempty]
    rcases hdata with hheld | ⟨hurgent, hbulk⟩
    · cases src <;> simp [State.offers, State.linkState, hflow, hmark, hgrant, hlane, hheld]
    · cases src <;> simp [State.offers, State.linkState, hflow, hmark, hgrant, hlane, hurgent, hbulk]

/-- R99: the first offer follows from those before it. -/
theorem State.firstOffer_of_offers (before : List TxSource) {src : TxSource} {after : List TxSource}
    (hall : TxSource.all = before ++ src :: after) (hbefore : ∀ x ∈ before, s.offers d x = false)
    (h : s.offers d src = true) : s.firstOffer d = some src := by
  rw [State.firstOffer, hall, List.find?_append, List.find?_eq_none.mpr fun x hx => by simp [hbefore x hx],
    List.find?_cons_of_pos h]
  rfl

/-- R99: the flow slot comes first. -/
theorem State.select_flow {k : FlowKind} (hl : s.links.get d = l) (hidle : l.tx = none) (hflow : l.flowSlot = some k)
    (hup : l.state = .up) : s.select d = { s with links := s.links.set d { l with
      flowSlot := none
      tx := some ⟨.flow k, wire (match (generalizing := false) k with | .hold => .hold | .resume => .resume)
        ⟨false, false, false, 0, 0, 0, []⟩⟩ } } := by
  have hoffer : s.firstOffer d = some .flow := State.firstOffer_of_offers [] rfl (by simp)
    (by simp [State.offers, State.linkState, hl, hflow, hup])
  rw [s.select_of_offer d .flow (by rw [hl]; exact hidle) hoffer, State.begin]
  simp only [hl, hflow]
  rw [State.transmit, State.modLink_modLink, State.modLink_of_link hl]
  cases k <;> rfl

/-- R98, R99: then the MARK slot. -/
theorem State.select_mark {m : MarkMsg} (hl : s.links.get d = l) (hidle : l.tx = none)
    (hflow : l.flowSlot = none ∨ l.state ≠ .up) (hmark : l.markSlot = some m) (hlink : l.state ≠ .down) :
    s.select d = { s with links := s.links.set d { l with
      markSlot := none
      tx := some ⟨.mark, wire .mark ⟨false, false, false, 0, 0, 0, [m.counter, match m.sync with
        | .unlocked => 0 | .acquiring => 1 | .locked => 2 | .holdover => 3]⟩⟩ } } := by
  have hnoflow : s.offers d .flow = false := by
    rcases hflow with h | h <;> simp [State.offers, State.linkState, hl, h]
  have hoffer : s.firstOffer d = some .mark := State.firstOffer_of_offers [.flow] rfl (by simp [hnoflow])
    (by simp [State.offers, State.linkState, hl, hmark, hlink])
  have hbytes : m.bytes = [m.counter, match m.sync with
      | .unlocked => 0 | .acquiring => 1 | .locked => 2 | .holdover => 3] := by
    rw [MarkMsg.bytes]
    cases m.sync <;> rfl
  rw [s.select_of_offer d .mark (by rw [hl]; exact hidle) hoffer, State.begin]
  simp only [hl, hmark]
  rw [State.transmit, State.modLink_modLink, State.modLink_of_link hl, originated_eq, hbytes]

/-- R99: then a port's GRANT slot. -/
theorem State.select_grant {p : Port} {g : GrantMsg} (hl : s.links.get (.port p) = l) (hidle : l.tx = none)
    (hflow : l.flowSlot = none ∨ l.state ≠ .up) (hmark : l.markSlot = none) (hg : s.grantSlots.get p = some g)
    (hlink : l.state ≠ .down) : s.select (.port p) = { s with
      grantSlots := s.grantSlots.set p none
      links := s.links.set (.port p) { l with
        tx := some ⟨.grant, wire .grant ⟨false, false, false, 0, 0, 0, be16 g.grant ++ [match g.status with
          | .on => 1 | .limit => 2 | .pending => 3 | .refused => 4, byte g.tolerance]⟩⟩ } } := by
  have hnoflow : s.offers (.port p) .flow = false := by
    rcases hflow with h | h <;> simp [State.offers, State.linkState, hl, h]
  have hnomark : s.offers (.port p) .mark = false := by simp [State.offers, hl, hmark]
  have hoffer : s.firstOffer (.port p) = some .grant := State.firstOffer_of_offers [.flow, .mark] rfl
    (by simp [hnoflow, hnomark]) (by simp [State.offers, State.grantSlot, State.linkState, hl, hg, hlink])
  have hbytes : g.bytes = be16 g.grant ++ [match g.status with
      | .on => 1 | .limit => 2 | .pending => 3 | .refused => 4, byte g.tolerance] := by
    rw [GrantMsg.bytes]
    cases g.status <;> rfl
  rw [s.select_of_offer (.port p) .grant (by rw [hl]; exact hidle) hoffer, State.begin]
  simp only [hg]
  rw [State.transmit, State.modLink_of_link (s := s.modGrantSlot p none) hl, originated_eq, hbytes]
  rfl

/-- R99: then U's lane. -/
theorem State.select_lane (hl : s.links.get .u = l) (hidle : l.tx = none) (hflow : l.flowSlot = none)
    (hmark : l.markSlot = none) (hup : l.state = .up) (hlane : s.mgmt.lane ≠ []) : s.select .u = s.begin .u .lane := by
  refine s.select_of_offer .u .lane (by rw [hl]; exact hidle) (State.firstOffer_of_offers [.flow, .mark, .grant] rfl ?_ ?_)
  · simp [State.offers, State.grantSlot, hl, hflow, hmark]
  · simp [State.offers, State.linkState, hl, hup, hlane]

/-- R99: nothing that comes before the queues is offered. -/
theorem State.offers_before_data (hl : s.links.get d = l) (hflow : l.flowSlot = none) (hmark : l.markSlot = none)
    (hgrant : s.grantSlot d = none) (hlane : d ≠ .u ∨ s.mgmt.lane = []) :
    ∀ x ∈ [TxSource.flow, .mark, .grant, .lane], s.offers d x = false := by
  have hnolane : s.offers d .lane = false := by
    rcases hlane with h | h <;> simp [State.offers, h]
  simp [State.offers, hl, hflow, hmark, hgrant] at hnolane ⊢
  exact hnolane

theorem State.begin_data {e : QEntry} {r : Record} {urgent : Bool} (hl : s.links.get d = l)
    (hr : s.record e.slot = some r) (q : Queues) :
    (s.modQueues d fun _ => q).transmitData d e urgent = { s with
      queues := s.queues.set d q
      links := s.links.set d { l with tx := some ⟨.data e.slot, wire .data { r.msg with
        urgent := urgent, late := e.late
        portField := match r.ingress with | .u => 0 | .port p => p.number }⟩ } } := by
  have hrecord : (s.modQueues d fun _ => q).record e.slot = some r := hr
  have hport : r.ingress.number = match r.ingress with | .u => 0 | .port p => p.number := by
    cases r.ingress <;> rfl
  rw [State.transmitData, hrecord, State.transmit, State.modLink_of_link (s := s.modQueues d fun _ => q) hl, ← hport]
  rfl

/-- R96, R99: then the urgent queue. -/
theorem State.select_urgent {e : QEntry} {rest : List QEntry} {r : Record} (hl : s.links.get d = l) (hidle : l.tx = none)
    (hbefore : ∀ x ∈ [TxSource.flow, .mark, .grant, .lane], s.offers d x = false) (hup : l.state = .up)
    (hheld : l.receivedHold = false) (hqueue : (s.queues.get d).urgent = e :: rest) (hr : s.record e.slot = some r) :
    s.select d = { s with
      queues := s.queues.set d { s.queues.get d with urgent := rest }
      links := s.links.set d { l with tx := some ⟨.data e.slot, wire .data { r.msg with
        urgent := true, late := e.late
        portField := match r.ingress with | .u => 0 | .port p => p.number }⟩ } } := by
  have hoffer : s.firstOffer d = some .urgent := State.firstOffer_of_offers [.flow, .mark, .grant, .lane] rfl hbefore
    (by simp [State.offers, State.linkState, hl, hqueue, hup, hheld])
  rw [s.select_of_offer d .urgent (by rw [hl]; exact hidle) hoffer, State.begin]
  simp only [hqueue]
  exact State.begin_data hl hr { s.queues.get d with urgent := rest }

/-- R96, R99: the bulk queue comes last. -/
theorem State.select_bulk {e : QEntry} {rest : List QEntry} {r : Record} (hl : s.links.get d = l) (hidle : l.tx = none)
    (hbefore : ∀ x ∈ [TxSource.flow, .mark, .grant, .lane], s.offers d x = false) (hup : l.state = .up)
    (hheld : l.receivedHold = false) (hurgent : (s.queues.get d).urgent = []) (hqueue : (s.queues.get d).bulk = e :: rest)
    (hr : s.record e.slot = some r) : s.select d = { s with
      queues := s.queues.set d { s.queues.get d with bulk := rest }
      links := s.links.set d { l with tx := some ⟨.data e.slot, wire .data { r.msg with
        urgent := false, late := e.late
        portField := match r.ingress with | .u => 0 | .port p => p.number }⟩ } } := by
  have hnourgent : s.offers d .urgent = false := by simp [State.offers, hurgent]
  have hoffer : s.firstOffer d = some .bulk := State.firstOffer_of_offers [.flow, .mark, .grant, .lane, .urgent] rfl
    (fun x hx => (List.mem_append.mp hx).elim (hbefore x) fun h => by
      obtain rfl := List.mem_singleton.mp h
      exact hnourgent)
    (by simp [State.offers, State.linkState, hl, hqueue, hup, hheld])
  rw [s.select_of_offer d .bulk (by rw [hl]; exact hidle) hoffer, State.begin]
  simp only [hqueue]
  exact State.begin_data hl hr { s.queues.get d with bulk := rest }

/-- R87: the check's two bytes, high byte first. -/
theorem be16_toNat (x : BitVec 16) : be16 x.toNat = [x.extractLsb' 8 8, x.extractLsb' 0 8] := by
  have hhigh : byte (x.toNat / 256) = x.extractLsb' 8 8 := BitVec.eq_of_toNat_eq (by
    rw [byte_toNat, BitVec.extractLsb'_toNat, Nat.shiftRight_eq_div_pow])
  have hlow : byte x.toNat = x.extractLsb' 0 8 := BitVec.eq_of_toNat_eq (by
    rw [byte_toNat, BitVec.extractLsb'_toNat, Nat.shiftRight_zero])
  rw [be16, hhigh, hlow]

/-- Settles O44, source by source. -/
theorem selectionOrder : Obligations.SelectionOrder := by
  refine ⟨fun _ => rfl, fun k m body hbody => ?_, fun s d l hl => ⟨State.select_of_nothing hl,
    fun k hidle hflow hup => State.select_flow hl hidle hflow hup,
    fun m hidle hflow hmark hlink => State.select_mark hl hidle hflow hmark hlink,
    fun p g hidle hflow hmark hd hg hlink => ?_, fun hidle hflow hmark hd hup => ⟨fun code payload report rest hlane => ?_,
      fun rest hlane => ?_⟩, fun hidle hflow hmark hgrant hlane hup hheld =>
      ⟨fun e rest r hqueue hr => ?_, fun e rest r hurgent hqueue hr => ?_⟩⟩⟩
  · have hmessage : messageBytes k m = body := hbody.symm
    rw [wire, hmessage, be16_toNat]
  · subst hd
    exact State.select_grant hl hidle hflow hmark hg hlink
  · subst hd
    rw [State.select_lane hl hidle hflow hmark hup (by simp [hlane]), State.begin]
    simp only [hlane]
    rw [State.transmit, State.modLink_of_link (s := s.modMgmt fun m => { m with lane := rest }) hl, originated_eq]
    rfl
  · subst hd
    refine ⟨s.events.report, s.noticePayload, ?_, s.events.report_carries, s.noticePayload_spec⟩
    rw [State.select_lane hl hidle hflow hmark hup (by simp [hlane]), State.begin]
    simp only [hlane]
    rw [State.transmit, State.modLink_of_link (s := s.modMgmt fun m => { m with lane := rest }) hl, originated_eq]
    rfl
  · exact State.select_urgent hl hidle (State.offers_before_data hl hflow hmark hgrant hlane) hup hheld hqueue hr
  · exact State.select_bulk hl hidle (State.offers_before_data hl hflow hmark hgrant hlane) hup hheld hurgent hqueue hr

end Selection
end Sys2Proof.Machine

namespace Sys2Proof.Machine

open Sys2Proof

/-! ### What stands at a destination, and a release of it (R135, R136) -/

/-- What the frame timing reads and changes at one destination. -/
structure Stand where
  phase : Phase
  queues : Queues
  mark : Option MarkMsg
  link : LinkState

def State.stand (s : State) (d : Dest) : Stand :=
  ⟨s.phases.get d, s.queues.get d, (s.links.get d).markSlot, s.linkState d⟩

section Stand

variable {s t u : State} {d : Dest}

/-- Entries leave the timed list for the urgent queue as far as it has room. -/
def Queues.enqueue (es : List TimedEntry) (q : Queues) : Queues :=
  { q with urgent := q.urgent ++ (es.map fun e => (⟨e.slot, false⟩ : QEntry)).take (8 - q.urgent.length) }

theorem Queues.enqueue_nil (q : Queues) : q.enqueue [] = q := by simp [Queues.enqueue]

theorem Queues.enqueue_cons_of_room {q : Queues} (h : q.urgent.length < 8) (e : TimedEntry) (es : List TimedEntry) :
    q.enqueue (e :: es) = Queues.enqueue es { q with urgent := q.urgent ++ [⟨e.slot, false⟩] } := by
  obtain ⟨n, hn⟩ : ∃ n, 8 - q.urgent.length = n + 1 := ⟨7 - q.urgent.length, by omega⟩
  have hrest : 8 - (q.urgent ++ [(⟨e.slot, false⟩ : QEntry)]).length = n := by
    rw [List.length_append, List.length_singleton]
    omega
  rw [Queues.enqueue, Queues.enqueue, hrest, hn, List.map_cons, List.take_succ_cons, List.append_assoc,
    List.singleton_append]

theorem Queues.enqueue_of_full {q : Queues} (h : 8 ≤ q.urgent.length) (es : List TimedEntry) : q.enqueue es = q := by
  rw [Queues.enqueue, Nat.sub_eq_zero_of_le h, List.take_zero, List.append_nil]

/-- Two releases move what one move of both would. -/
theorem Queues.enqueue_enqueue (q : Queues) (es fs : List TimedEntry) : (q.enqueue es).enqueue fs = q.enqueue (es ++ fs) := by
  have hroom : 8 - (q.enqueue es).urgent.length = 8 - q.urgent.length - (es.map fun e => (⟨e.slot, false⟩ : QEntry)).length := by
    rw [Queues.enqueue, List.length_append, List.length_take]
    omega
  rw [Queues.enqueue, hroom, Queues.enqueue, Queues.enqueue, List.map_append, List.take_append, List.append_assoc]

/-- R121: what a freeing posts is no MARK. -/
theorem State.releaseRef_stand (i : Nat) (s : State) (d : Dest) : (s.releaseRef i).stand d = s.stand d := by
  have hflow : ∀ (k : FlowKind) (e : Dest) (y : State), ((y.postFlow k e).links.get d).markSlot = (y.links.get d).markSlot := by
    intro k e y
    unfold State.postFlow
    split
    · rw [State.modLink_links, PerDest.get_set]
      split
      · next h => rw [h]
      · rfl
    · rfl
  have hall : ∀ (l : List Dest) (k : FlowKind) (y : State),
      ((l.foldl (fun s d => s.postFlow k d) y).links.get d).markSlot = (y.links.get d).markSlot := by
    intro l k
    induction l with
    | nil => exact fun _ => rfl
    | cons e l ih => exact fun y => (ih _).trans (hflow k e y)
  have hjudge : ∀ y : State, (y.judgeFree.links.get d).markSlot = (y.links.get d).markSlot := by
    intro y
    unfold State.judgeFree
    split
    · exact hall Dest.all .resume { y with held := false }
    · rfl
  have hmark : ((s.releaseRef i).links.get d).markSlot = (s.links.get d).markSlot := by
    unfold State.releaseRef
    split
    · rfl
    · unfold State.freeIfUnused
      split
      · rfl
      · split
        · exact hjudge _
        · rfl
  have hframe := s.releaseRef_frame i
  rw [State.stand, hmark, (s.releaseRef_lines i d).2, hframe .phases (by decide), hframe .queues (by decide)]
  rfl

theorem State.modQueues_stand (d : Dest) (f : Queues → Queues) (s : State) (e : Dest) :
    (s.modQueues d f).stand e = if e = d then { s.stand e with queues := f (s.queues.get e) } else s.stand e := by
  rw [State.stand, State.modQueues_queues, PerDest.get_set]
  split
  · next h => subst h; rfl
  · rfl

theorem State.modPhase_stand (d : Dest) (f : Phase → Phase) (s : State) (e : Dest) :
    (s.modPhase d f).stand e = if e = d then { s.stand e with phase := f (s.phases.get e) } else s.stand e := by
  have hphase : (s.modPhase d f).phases.get e = if e = d then f (s.phases.get d) else s.phases.get e :=
    PerDest.get_set _ _ _ _
  rw [State.stand, hphase]
  split
  · next h => subst h; rfl
  · rfl

theorem State.releaseEntry_stand (s : State) (e : TimedEntry) (x : Dest) : (s.releaseEntry d e).stand x =
    if x = d then { s.stand x with queues := (s.queues.get x).enqueue [e] } else s.stand x := by
  unfold State.releaseEntry
  split
  · next h =>
    rw [State.modQueues_stand]
    split
    · next hx =>
      subst hx
      rw [Queues.enqueue_cons_of_room h, Queues.enqueue_nil]
    · rfl
  · next h =>
    rw [State.releaseRef_stand]
    split
    · next hx =>
      subst hx
      rw [Queues.enqueue_of_full (Nat.not_lt.mp h)]
      rfl
    · rfl

/-- R135: the entries that a release moves. -/
theorem State.releaseEntries_stand (es : List TimedEntry) (s : State) (x : Dest) :
    (es.foldl (State.releaseEntry d) s).stand x =
      if x = d then { s.stand x with queues := (s.queues.get x).enqueue es } else s.stand x := by
  induction es generalizing s with
  | nil =>
    rw [Queues.enqueue_nil]
    split <;> rfl
  | cons e es ih =>
    have hentry := State.releaseEntry_stand (d := d) s e x
    have hqueues : (s.releaseEntry d e).queues.get x = ((s.releaseEntry d e).stand x).queues := rfl
    rw [List.foldl_cons, ih, hqueues, hentry]
    split
    · rw [Queues.enqueue_enqueue, List.singleton_append]
    · rfl

/-- The entries for a frame leave the timed list (R135). -/
def Queues.release (frame : Byte) (q : Queues) : Queues :=
  Queues.enqueue (q.timed.filter fun e => decide (e.target = frame))
    { q with timed := q.timed.filter fun e => decide (e.target ≠ frame) }

theorem State.releaseTimed_stand (s : State) (x : Dest) : (s.releaseTimed d).stand x =
    if x = d then { s.stand x with queues := (s.queues.get x).release s.timing.counter } else s.stand x := by
  rw [State.releaseTimed, State.releaseEntries_stand, State.modQueues_stand, State.modQueues_queues, PerDest.get_set]
  split
  · next h => subst h; rfl
  · rfl

/-- R136: the mark interval has elapsed. -/
def Phase.due (interval : Nat) (x : Phase) : Bool := decide (interval ≠ 0) && decide (interval ≤ x.markCount)

/-- R135, R136: the release of a destination in a frame. -/
def Stand.release (frame : Byte) (sync : Sync) (interval : Nat) (x : Stand) : Stand :=
  { phase := { x.phase with
      released := true, markCount := if x.phase.due interval then 0 else x.phase.markCount }
    queues := x.queues.release frame
    mark := if x.phase.due interval = true ∧ x.link ≠ .down then some ⟨frame, sync⟩ else x.mark
    link := x.link }

theorem State.postMark_stand (m : MarkMsg) (s : State) (x : Dest) : (s.postMark m d).stand x =
    if x = d ∧ s.linkState d ≠ .down then { s.stand x with mark := some m } else s.stand x := by
  have hlines := (s.postMark_lines m d x).2
  have hframe := s.postMark_frame m d
  have hmark : ((s.postMark m d).links.get x).markSlot =
      if x = d ∧ s.linkState d ≠ .down then some m else (s.links.get x).markSlot := by
    unfold State.postMark
    split
    · next h => simp [h]
    · next h =>
      rw [State.modLink_links, PerDest.get_set]
      split
      · next hx => simp [hx, h]
      · next hx => simp [hx]
  rw [State.stand, hmark, hlines, hframe .phases (by decide), hframe .queues (by decide)]
  split
  · rfl
  · rfl

theorem State.releaseMark_stand (s : State) (x : Dest) : (s.releaseMark d).stand x =
    if x = d ∧ (s.phases.get d).due (s.tables.timing.markInterval.get d) = true then
      { s.stand x with
        phase := { s.phases.get x with markCount := 0 }
        mark := if s.linkState x ≠ .down then some ⟨s.timing.counter, s.timing.sync⟩ else (s.links.get x).markSlot }
    else s.stand x := by
  have hdue : s.markDue d = (s.phases.get d).due (s.tables.timing.markInterval.get d) := rfl
  rw [← hdue]
  unfold State.releaseMark
  by_cases hx : x = d
  · subst hx
    by_cases hmark : s.markDue x = true
    · rw [if_pos hmark, if_pos ⟨rfl, hmark⟩, State.modPhase_stand, if_pos rfl, State.postMark_stand,
        State.postMark_frame _ x s .phases (by decide)]
      by_cases hdown : s.linkState x ≠ .down
      · rw [if_pos ⟨rfl, hdown⟩, if_pos hdown]
      · rw [if_neg fun h => hdown h.2, if_neg hdown]
        rfl
    · rw [if_neg hmark, if_neg fun h => hmark h.2]
  · rw [if_neg (c := x = d ∧ _) fun h => hx h.1]
    by_cases hmark : s.markDue d = true
    · rw [if_pos hmark, State.modPhase_stand, if_neg hx, State.postMark_stand, if_neg fun h => hx h.1]
    · rw [if_neg hmark]

/-- R135, R136: a release changes one destination alone. -/
theorem State.releaseDest_stand (s : State) (x : Dest) : (s.releaseDest d).stand x =
    if x = d then (s.stand x).release s.timing.counter s.timing.sync (s.tables.timing.markInterval.get x) else s.stand x := by
  have hmark := State.releaseMark_stand (d := d) s x
  have hframe := s.releaseMark_frame d
  have hqueues : (s.releaseMark d).queues = s.queues := hframe .queues (by decide)
  have htiming : (s.releaseMark d).timing = s.timing := hframe .timing (by decide)
  have htimed := State.releaseTimed_stand (d := d) (s.releaseMark d) x
  have hphase : ((s.releaseMark d).releaseTimed d).phases.get x = (((s.releaseMark d).releaseTimed d).stand x).phase := rfl
  rw [State.releaseDest, State.modPhase_stand, hphase, htimed, hqueues, htiming, hmark]
  by_cases hx : x = d
  · subst hx
    simp only [if_true, true_and]
    rw [Stand.release]
    by_cases hdue : (s.phases.get x).due (s.tables.timing.markInterval.get x) = true
    · have hstand : (s.stand x).phase.due (s.tables.timing.markInterval.get x) = true := hdue
      simp only [hdue, if_true, hstand, true_and]
      rfl
    · have hstand : (s.stand x).phase.due (s.tables.timing.markInterval.get x) = false := Bool.eq_false_iff.mpr hdue
      simp only [hdue, if_false, hstand, false_and, Bool.false_eq_true]
      rfl
  · simp only [hx, if_false, false_and]

/-- R127: one release in a frame. -/
def Stand.releaseOnce (frame : Byte) (sync : Sync) (interval : Nat) (x : Stand) : Stand :=
  if x.phase.released then x else x.release frame sync interval

theorem State.releaseUnreleased_stand (s : State) (x : Dest) : (s.releaseUnreleased d).stand x =
    if x = d then (s.stand x).releaseOnce s.timing.counter s.timing.sync (s.tables.timing.markInterval.get x)
    else s.stand x := by
  cases h : (s.phases.get d).released with
  | true =>
    rw [s.releaseUnreleased_of_released d h]
    split
    · next hx =>
      subst hx
      exact (if_pos h).symm
    · rfl
  | false =>
    rw [s.releaseUnreleased_of_unreleased d h, State.releaseDest_stand]
    split
    · next hx =>
      subst hx
      refine (if_neg ?_).symm
      have hphase : (s.stand x).phase.released = false := h
      rw [hphase]
      decide
    · rfl

/-- Settles O46. -/
theorem phaseRelease : Obligations.PhaseRelease := by
  intro s u d hu
  subst hu
  refine ⟨fun hpin => event_of_running (f := fun s => s.releaseUnreleased d) hpin rfl,
    s.releaseUnreleased_of_released d, fun hfree => ?_⟩
  have hstand : ∀ x, (s.releaseUnreleased d).stand x =
      if x = d then (s.stand x).release s.timing.counter s.timing.sync (s.tables.timing.markInterval.get x)
      else s.stand x := fun x => by
    rw [s.releaseUnreleased_of_unreleased d hfree, State.releaseDest_stand]
  have hself := (hstand d).trans (if_pos rfl)
  have hphase : (s.releaseUnreleased d).phases.get d = _ := congrArg Stand.phase hself
  have hqueues : (s.releaseUnreleased d).queues.get d = _ := congrArg Stand.queues hself
  have hmark : ((s.releaseUnreleased d).links.get d).markSlot = _ := congrArg Stand.mark hself
  rw [hphase, hqueues, hmark]
  refine ⟨rfl, rfl, rfl, rfl, fun hzero hcount => ?_, fun hnot => ?_, fun x hx => ?_,
    (s.releaseUnreleased_frame d).weaken (by decide)⟩
  · have hdue : (s.stand d).phase.due (s.tables.timing.markInterval.get d) = true := by
      rw [Phase.due, decide_eq_true hzero, Bool.true_and]
      exact decide_eq_true hcount
    exact ⟨if_pos hdue, fun hup => if_pos ⟨hdue, hup⟩⟩
  · refine if_neg fun hdue => ?_
    simp only [Phase.due, Bool.and_eq_true, decide_eq_true_eq] at hdue
    rcases hnot with hzero | hless
    · exact hdue.1 hzero
    · exact Nat.not_lt.mpr hdue.2 hless
  · have hother := (hstand x).trans (if_neg hx)
    exact ⟨congrArg Stand.phase hother, congrArg Stand.queues hother⟩

end Stand

/-! ### A frame boundary (R127, R134) -/

section Boundary

variable {s t : State} {d : Dest}

/-- Each destination in turn, where a step at one leaves the others and what the steps read. -/
theorem State.foldl_stand {f : State → Dest → State} {g : Dest → Stand → Stand} {P : State → Prop}
    (hP : ∀ y d, P y → P (f y d)) (hf : ∀ y d x, P y → (f y d).stand x = if x = d then g x (y.stand x) else y.stand x)
    {l : List Dest} (hl : l.Nodup) {s : State} (hs : P s) (x : Dest) :
    (l.foldl f s).stand x = if x ∈ l then g x (s.stand x) else s.stand x := by
  induction l generalizing s with
  | nil => simp
  | cons d l ih =>
    obtain ⟨hd, hl⟩ := List.nodup_cons.mp hl
    rw [List.foldl_cons, ih hl (hP s d hs), hf s d x hs]
    by_cases hx : x = d
    · subst hx
      simp [hd]
    · simp [hx]

theorem Dest.all_nodup : Dest.all.Nodup := by decide

/-- R127: the catch-up releases. -/
def State.caughtUp (s : State) : State := Dest.all.foldl State.releaseUnreleased s

/-- What a release may change. -/
def Part.release : List Part := [.links, .queues, .counters, .records, .held, .phases]

theorem State.caughtUp_frame (s : State) : s.caughtUp.SameBut Part.release s :=
  State.SameBut.foldl (fun y d => State.releaseUnreleased_frame d y) _ s

theorem State.caughtUp_stand (s : State) (d : Dest) : s.caughtUp.stand d =
    (s.stand d).releaseOnce s.timing.counter s.timing.sync (s.tables.timing.markInterval.get d) := by
  refine (State.foldl_stand (P := fun y => y.timing = s.timing ∧ y.tables = s.tables)
    (g := fun d => Stand.releaseOnce s.timing.counter s.timing.sync (s.tables.timing.markInterval.get d))
    (fun y d hy => ?_) (fun y d x hy => ?_) Dest.all_nodup ⟨rfl, rfl⟩ d).trans (if_pos d.mem_all)
  · have hframe := y.releaseUnreleased_frame d
    exact ⟨(hframe .timing (by decide)).trans hy.1, (hframe .tables (by decide)).trans hy.2⟩
  · rw [State.releaseUnreleased_stand, hy.1, hy.2]

/-- R127: the releases at the boundary itself. -/
def State.releasedAt (t : Nat) (s : State) : State := Dest.all.foldl (State.releaseAtBoundary t) s

theorem State.releaseAtBoundary_frame (t : Nat) (s : State) (d : Dest) :
    (s.releaseAtBoundary t d).SameBut Part.release s := by
  unfold State.releaseAtBoundary
  split
  · exact s.releaseUnreleased_frame d
  · exact .refl _ s

theorem State.releasedAt_frame (t : Nat) (s : State) : (s.releasedAt t).SameBut Part.release s :=
  State.SameBut.foldl (fun y d => y.releaseAtBoundary_frame t d) _ s

theorem State.releasedAt_stand (t : Nat) (s : State) (d : Dest) : (s.releasedAt t).stand d =
    if (s.phases.get d).releaseAt = t then
      (s.stand d).releaseOnce s.timing.counter s.timing.sync (s.tables.timing.markInterval.get d)
    else s.stand d := by
  refine (State.foldl_stand (P := fun y => y.timing = s.timing ∧ y.tables = s.tables)
    (g := fun d x => if x.phase.releaseAt = t then
      x.releaseOnce s.timing.counter s.timing.sync (s.tables.timing.markInterval.get d) else x)
    (fun y d hy => ?_) (fun y d x hy => ?_) Dest.all_nodup ⟨rfl, rfl⟩ d).trans (if_pos d.mem_all)
  · have hframe := y.releaseAtBoundary_frame t d
    exact ⟨(hframe .timing (by decide)).trans hy.1, (hframe .tables (by decide)).trans hy.2⟩
  · unfold State.releaseAtBoundary
    by_cases hx : x = d
    · subst hx
      have hphase : (y.stand x).phase.releaseAt = (y.phases.get x).releaseAt := rfl
      rw [if_pos rfl, hphase]
      split
      · rw [State.releaseUnreleased_stand, if_pos rfl, hy.1, hy.2]
      · rfl
    · rw [if_neg hx]
      split
      · rw [State.releaseUnreleased_stand, if_neg hx]
      · rfl

/-- The state before the selector judges its pending change. -/
def State.frameBegun (t : Nat) (s : State) : State := (s.caughtUp.beginFrame t).releasedAt t

theorem State.boundaryAt_eq (t : Nat) (s : State) : s.boundaryAt t = (s.frameBegun t).judgeChange := by
  rw [State.boundaryAt, State.frameBegun, State.releasedAt, State.caughtUp]

theorem State.frameBegun_frame (t : Nat) (s : State) :
    (s.frameBegun t).SameBut [.links, .queues, .records, .held, .phases, .timing, .counters] s :=
  (State.releasedAt_frame t _).comp ((State.beginFrame_frame t _).comp (s.caughtUp_frame.weaken (by decide)) (by decide))
    (by decide)

theorem State.frameBegun_timing (t : Nat) (s : State) : (s.frameBegun t).timing = { s.timing with
    counter := s.timing.counter + 1, lastBoundary := t, nextBoundary := t + s.timing.period
    shadowWritten := false } := by
  have htiming : s.caughtUp.timing = s.timing := s.caughtUp_frame .timing (by decide)
  rw [State.frameBegun, State.releasedAt_frame t _ .timing (by decide), State.beginFrame, htiming]

theorem State.beginFrame_stand (t : Nat) (s : State) (d : Dest) : (s.beginFrame t).stand d =
    { s.stand d with phase := (s.phases.get d).newFrame s.timing.shadowWritten t s.timing.period } := by
  rw [State.stand, State.beginFrame, PerDest.get_ofFn]
  rfl

/-- R127: what becomes of a destination at a boundary. -/
theorem State.frameBegun_stand (t : Nat) (s : State) (d : Dest) {x y : Stand}
    (hx : x = (s.stand d).releaseOnce s.timing.counter s.timing.sync (s.tables.timing.markInterval.get d))
    (hy : y = { x with phase := x.phase.newFrame s.timing.shadowWritten t s.timing.period }) :
    (s.frameBegun t).stand d = if y.phase.releaseAt = t then
      y.release (s.timing.counter + 1) s.timing.sync (s.tables.timing.markInterval.get d) else y := by
  have htiming : s.caughtUp.timing = s.timing := s.caughtUp_frame .timing (by decide)
  have hbegun : (s.caughtUp.beginFrame t).stand d = y := by
    have hphase : s.caughtUp.phases.get d = (s.caughtUp.stand d).phase := rfl
    rw [State.beginFrame_stand, hphase, State.caughtUp_stand, htiming, hy, hx]
  have hbegunTiming : (s.caughtUp.beginFrame t).timing = { s.timing with
      lastBoundary := t, nextBoundary := t + s.timing.period, counter := s.timing.counter + 1
      shadowWritten := false } := by
    rw [State.beginFrame, htiming]
  have htables : (s.caughtUp.beginFrame t).tables = s.tables :=
    (State.beginFrame_frame t _ .tables (by decide)).trans (s.caughtUp_frame .tables (by decide))
  have hphase : (s.caughtUp.beginFrame t).phases.get d = ((s.caughtUp.beginFrame t).stand d).phase := rfl
  have hunreleased : y.phase.released = false := by rw [hy]; rfl
  rw [State.frameBegun, State.releasedAt_stand, hphase, hbegun, hbegunTiming, htables, Stand.releaseOnce, hunreleased]
  rfl

theorem Phase.due_iff {interval : Nat} {x : Phase} : x.due interval = true ↔ interval ≠ 0 ∧ interval ≤ x.markCount := by
  simp [Phase.due]

/-- R135, R136: what a release in a frame leaves. -/
theorem Stand.release_phase {frame : Byte} {sync : Sync} {interval : Nat} (x : Stand) :
    (x.release frame sync interval).phase = { x.phase with
      released := true, markCount := if interval ≠ 0 ∧ interval ≤ x.phase.markCount then 0 else x.phase.markCount } := by
  simp only [Stand.release, Phase.due_iff]

theorem Stand.release_mark {frame : Byte} {sync : Sync} {interval : Nat} (x : Stand) :
    (x.release frame sync interval).mark = if x.link = .down then x.mark
      else if interval ≠ 0 ∧ interval ≤ x.phase.markCount then some ⟨frame, sync⟩ else x.mark := by
  rw [Stand.release]
  by_cases hdown : x.link = .down
  · simp [hdown]
  · simp only [hdown, not_false_eq_true, and_true, if_false, ne_eq, Phase.due_iff]

/-- R127: the catch-up release of a destination, before the new frame. -/
theorem Stand.releaseOnce_fields {frame : Byte} {sync : Sync} {interval : Nat} (x : Stand) :
    (x.releaseOnce frame sync interval).phase = { x.phase with
      released := true
      markCount := if x.phase.released = false ∧ interval ≠ 0 ∧ interval ≤ x.phase.markCount then 0
        else x.phase.markCount } ∧
    (x.releaseOnce frame sync interval).queues = (if x.phase.released then x.queues else x.queues.release frame) ∧
    (x.releaseOnce frame sync interval).mark = (if x.link = .down then x.mark
      else if x.phase.released = false ∧ interval ≠ 0 ∧ interval ≤ x.phase.markCount then some ⟨frame, sync⟩
      else x.mark) ∧
    (x.releaseOnce frame sync interval).link = x.link := by
  unfold Stand.releaseOnce
  cases hr : x.phase.released with
  | true =>
    refine ⟨?_, rfl, by simp, rfl⟩
    simp only [if_true, Bool.true_eq_false, false_and, if_false]
    rw [← hr]
  | false =>
    simp only [Bool.false_eq_true, if_false, true_and]
    exact ⟨x.release_phase, rfl, x.release_mark, rfl⟩

/-- R135: a release of two frames, one after the other. -/
theorem Queues.release_release {f g : Byte} (hfg : g ≠ f) (q : Queues) :
    (q.release f).release g =
      { q with
        timed := q.timed.filter fun e => !(decide (e.target = f) || decide (e.target = g))
        urgent := q.urgent ++ (((q.timed.filter fun e => decide (e.target = f)) ++
          q.timed.filter fun e => decide (e.target = g)).map fun e => (⟨e.slot, false⟩ : QEntry)).take
            (8 - q.urgent.length) } := by
  have hlast : (q.timed.filter fun e => decide (e.target ≠ f)).filter (fun e => decide (e.target = g)) =
      q.timed.filter fun e => decide (e.target = g) := by
    rw [List.filter_filter]
    refine List.filter_congr fun e _ => ?_
    by_cases he : e.target = g
    · simp [he, hfg]
    · simp [he]
  have hrest : (q.timed.filter fun e => decide (e.target ≠ f)).filter (fun e => decide (e.target ≠ g)) =
      q.timed.filter fun e => !(decide (e.target = f) || decide (e.target = g)) := by
    rw [List.filter_filter]
    refine List.filter_congr fun e _ => ?_
    simp [Bool.and_comm]
  have hjoin := Queues.enqueue_enqueue { q with timed := q.timed.filter fun e => decide (e.target ≠ f) }
    (q.timed.filter fun e => decide (e.target = f)) (q.timed.filter fun e => decide (e.target = g))
  have hurgent := congrArg Queues.urgent hjoin
  unfold Queues.release
  simp only [Queues.enqueue] at hurgent ⊢
  rw [hlast, hrest, hurgent]

/-- R127, R134 to R136: the same, field by field. -/
theorem frameBegun_fields (t : Nat) (s : State) (d : Dest) {active interval before : Nat} {now : Bool}
    (hactive : active = (if s.timing.shadowWritten then (s.phases.get d).shadow else (s.phases.get d).active))
    (hinterval : interval = s.tables.timing.markInterval.get d) (hnow : now = decide (min active (s.timing.period - 1) = 0))
    (hbefore : before = min ((if (s.phases.get d).released = false ∧ interval ≠ 0 ∧ interval ≤ (s.phases.get d).markCount
      then 0 else (s.phases.get d).markCount) + 1) 15) :
    (s.frameBegun t).phases.get d =
      { active := active, shadow := (s.phases.get d).shadow, released := now
        releaseAt := t + min active (s.timing.period - 1)
        markCount := if now = true ∧ interval ≠ 0 ∧ interval ≤ before then 0 else before } ∧
    ((s.frameBegun t).links.get d).markSlot =
      (if s.linkState d = .down then (s.links.get d).markSlot
      else if now = true ∧ interval ≠ 0 ∧ interval ≤ before then some ⟨s.timing.counter + 1, s.timing.sync⟩
      else if (s.phases.get d).released = false ∧ interval ≠ 0 ∧ interval ≤ (s.phases.get d).markCount then
        some ⟨s.timing.counter, s.timing.sync⟩
      else (s.links.get d).markSlot) ∧
    (s.frameBegun t).linkState d = s.linkState d ∧
    ((s.frameBegun t).queues.get d).timed = (s.queues.get d).timed.filter (fun e =>
      !((decide (e.target = s.timing.counter) && !(s.phases.get d).released) ||
        (decide (e.target = s.timing.counter + 1) && now))) ∧
    ((s.frameBegun t).queues.get d).urgent = (s.queues.get d).urgent ++
      ((((if (s.phases.get d).released then []
          else (s.queues.get d).timed.filter fun e => decide (e.target = s.timing.counter)) ++
        (if now then (s.queues.get d).timed.filter fun e => decide (e.target = s.timing.counter + 1)
          else [])).map fun e => (⟨e.slot, false⟩ : QEntry)).take (8 - (s.queues.get d).urgent.length)) ∧
    ((s.frameBegun t).queues.get d).bulk = (s.queues.get d).bulk := by
  obtain ⟨hphase, hqueues, hmark, hlink⟩ := Stand.releaseOnce_fields (frame := s.timing.counter) (sync := s.timing.sync)
    (interval := interval) (s.stand d)
  let x := (s.stand d).releaseOnce s.timing.counter s.timing.sync interval
  let y : Stand := { x with phase := x.phase.newFrame s.timing.shadowWritten t s.timing.period }
  have hstand := State.frameBegun_stand t s d (x := x) (y := y) (by rw [← hinterval]) rfl
  rw [← hinterval] at hstand
  have hy : y.phase = ⟨active, (s.phases.get d).shadow, false, t + min active (s.timing.period - 1), before⟩ := by
    show x.phase.newFrame s.timing.shadowWritten t s.timing.period = _
    rw [hphase, hactive, hbefore]
    rfl
  have hnowIff : y.phase.releaseAt = t ↔ now = true := by
    rw [hy, hnow, decide_eq_true_eq]
    exact Nat.add_eq_left
  simp only [hnowIff] at hstand
  have hfields : (s.frameBegun t).phases.get d = ((s.frameBegun t).stand d).phase ∧
      ((s.frameBegun t).links.get d).markSlot = ((s.frameBegun t).stand d).mark ∧
      (s.frameBegun t).linkState d = ((s.frameBegun t).stand d).link ∧
      (s.frameBegun t).queues.get d = ((s.frameBegun t).stand d).queues := ⟨rfl, rfl, rfl, rfl⟩
  obtain ⟨h1, h2, h3, h4⟩ := hfields
  rw [h1, h2, h3, h4, hstand]
  have hymark : y.mark = x.mark := rfl
  have hyqueues : y.queues = x.queues := rfl
  have hylink : y.link = s.linkState d := hlink
  have hnext : s.timing.counter + 1 ≠ s.timing.counter := by
    intro h
    simp at h
  have hmarkOnce : x.mark = if s.linkState d = .down then (s.links.get d).markSlot
      else if (s.phases.get d).released = false ∧ interval ≠ 0 ∧ interval ≤ (s.phases.get d).markCount then
        some ⟨s.timing.counter, s.timing.sync⟩
      else (s.links.get d).markSlot := hmark
  have hqueuesOnce : x.queues = if (s.phases.get d).released then s.queues.get d
      else (s.queues.get d).release s.timing.counter := hqueues
  cases now with
  | false =>
    simp only [Bool.false_eq_true, if_false, false_and, Bool.and_false, Bool.or_false, List.append_nil]
    refine ⟨hy, hymark.trans hmarkOnce, hylink, ?_⟩
    rw [hyqueues, hqueuesOnce]
    cases hr : (s.phases.get d).released with
    | true =>
      refine ⟨?_, ?_, rfl⟩
      · simp
      · simp
    | false =>
      refine ⟨?_, rfl, rfl⟩
      refine List.filter_congr fun e _ => ?_
      simp
  | true =>
    simp only [if_true, true_and, Bool.and_true]
    refine ⟨?_, ?_, hylink, ?_⟩
    · rw [Stand.release_phase, hy]
    · rw [Stand.release_mark, hylink, hymark, hmarkOnce, hy]
      split
      · rfl
      · rfl
    · have hrelease : (y.release (s.timing.counter + 1) s.timing.sync interval).queues =
          y.queues.release (s.timing.counter + 1) := rfl
      rw [hrelease, hyqueues, hqueuesOnce]
      cases hr : (s.phases.get d).released with
      | true =>
        refine ⟨?_, rfl, rfl⟩
        refine List.filter_congr fun e _ => ?_
        simp
      | false =>
        simp only [Bool.false_eq_true, if_false]
        rw [Queues.release_release hnext]
        refine ⟨?_, rfl, rfl⟩
        refine List.filter_congr fun e _ => ?_
        simp

theorem State.SameBut.without {m : List Part} (h : t.SameBut m s) {x : Part} (hx : t.SameAt s x) :
    t.SameBut (m.filter fun y => decide (y ≠ x)) s := fun y hy => by
  by_cases hyx : y = x
  · exact hyx ▸ hx
  · exact h y fun hmem => hy (List.mem_filter.mpr ⟨hmem, decide_eq_true hyx⟩)

theorem State.judgeChange_granted (s : State) : s.judgeChange.granted = s.granted := by
  have hraise : ∀ (i : HubItem) (y : State), (y.raiseHub i).granted = y.granted :=
    fun i y => State.raiseHub_frame i y .granted (by decide)
  unfold State.judgeChange
  split
  · rfl
  · split
    · rfl
    · unfold State.changeDue
      dsimp only
      split
      · split
        · split
          · rfl
          · exact State.beginChangeover_granted _ _
        · rfl
      · exact hraise _ _

theorem State.judgeChange_parts (s : State) : s.judgeChange.SameBut [.sel, .budget, .admission, .grantSlots, .ports, .links,
    .queues, .records, .held, .events, .counters, .mgmt] s :=
  ((State.judgeChange_frame s).without (x := .granted) s.judgeChange_granted).weaken (by decide)

/-- What a boundary may change; the granted list is not in it. -/
theorem State.boundaryAt_parts (t : Nat) (s : State) : (s.boundaryAt t).SameBut [.sel, .budget, .admission, .grantSlots,
    .ports, .links, .queues, .records, .held, .phases, .timing, .mgmt, .events, .counters] s := by
  rw [s.boundaryAt_eq]
  exact (State.judgeChange_parts _).comp ((s.frameBegun_frame t).weaken (by decide)) (by decide)

theorem State.boundaryAt_timing (t : Nat) (s : State) : (s.boundaryAt t).timing = { s.timing with
    counter := s.timing.counter + 1, lastBoundary := t, nextBoundary := t + s.timing.period
    shadowWritten := false } := by
  rw [s.boundaryAt_eq, State.judgeChange_parts _ .timing (by decide), s.frameBegun_timing]

theorem State.boundaryAt_phases (t : Nat) (s : State) : (s.boundaryAt t).phases = (s.frameBegun t).phases := by
  rw [s.boundaryAt_eq]
  exact State.judgeChange_parts _ .phases (by decide)

/-- Settles O45. -/
theorem frameBoundary : Obligations.FrameBoundary := by
  refine ⟨fun s hpin => event_of_running (f := fun s => s.boundaryAt s.timing.nextBoundary) hpin rfl,
    fun t s u w v hu hw hv => ?_, fun s hpin => ?_⟩
  · have hcaught : u = s.caughtUp := hu
    have hbegin : w = s.caughtUp.beginFrame t := by rw [hw, hcaught]; rfl
    have hstep : (fun (x : State) d => if (x.phases.get d).releaseAt = t then x.releaseUnreleased d else x) =
        State.releaseAtBoundary t := rfl
    have hbegun : v = s.frameBegun t := by rw [hv, hstep, hbegin, State.frameBegun, State.releasedAt]
    rw [hbegun]
    exact ⟨s.boundaryAt_eq t, s.frameBegun_timing t, s.frameBegun_frame t, fun d active interval before now hactive hinterval hnow hbefore =>
      frameBegun_fields t s d hactive hinterval hnow hbefore⟩
  · let time := s.timing.nextBoundary
    have hexec : exec .frameBoundary s = .next (s.boundaryAt time).selectAll :=
      event_of_running (f := fun s => s.boundaryAt s.timing.nextBoundary) hpin rfl
    refine ⟨_, hexec, (State.selectAll_timing _).trans (s.boundaryAt_timing time), fun d => ?_,
      (State.selectAll_frame _).comp (s.boundaryAt_parts time) (by decide)⟩
    obtain ⟨hphase, -⟩ := frameBegun_fields time s d rfl rfl rfl rfl
    rw [State.selectAll_phases, s.boundaryAt_phases, hphase]
    refine ⟨rfl, rfl, rfl, rfl, fun hreleased hzero => ?_⟩
    simp [hreleased, hzero]

end Boundary
end Sys2Proof.Machine

namespace Sys2Proof.Machine

open Sys2Proof

/-! ### The losses of lock that stand counted (R164) -/

section Losses

variable {s : State}

/-- R92: a link that goes DOWN counts at its endpoint alone. -/
theorem State.portLinkDown_syncLosses (p : Port) (s : State) :
    (s.portLinkDown p).counters.syncLosses = s.counters.syncLosses := by
  have hflush : ∀ (d : Dest) (y : State), (y.flushLink d).counters.syncLosses = y.counters.syncLosses := fun d y => by
    have hcounters : (y.flushLink d).counters =
        (y.countEndpoint d (EndpointCounters.addLinkDown (y.refsAt d).length)).counters :=
      State.releaseRefs_frame _ _ .counters (by decide)
    rw [hcounters]
    rfl
  unfold State.portLinkDown
  split
  · rfl
  · exact hflush (.port p) (s.modGrantSlot p none)

theorem State.beginChangeover_syncLosses (target : Source) (s : State) :
    (s.beginChangeover target).counters.syncLosses = s.counters.syncLosses := by
  have hpause : ∀ (p : Port) (y : State), (y.pause p).counters.syncLosses = y.counters.syncLosses := by
    intro p y
    rw [State.pause_eq]
    split
    · exact (State.portLinkDown_syncLosses p _).trans (congrArg Counters.syncLosses
        (State.pauseUnit_frame p y .counters (by decide)))
    · rfl
  have hall : ∀ (l : List Port) (y : State), (l.foldl (fun s p => s.pause p) y).counters.syncLosses = y.counters.syncLosses := by
    intro l
    induction l with
    | nil => exact fun _ => rfl
    | cons p l ih => exact fun y => (ih _).trans (hpause p y)
  exact hall Port.all (s.setOut target)

theorem State.judgeChange_syncLosses (s : State) : s.judgeChange.counters.syncLosses = s.counters.syncLosses := by
  unfold State.judgeChange
  split
  · rfl
  · split
    · rfl
    · unfold State.changeDue
      dsimp only
      split
      · split
        · split
          · rfl
          · exact State.beginChangeover_syncLosses _ _
        · rfl
      · exact congrArg Counters.syncLosses (State.raiseHub_frame .sourceRefused _ .counters (by decide))

theorem State.releaseUnreleased_syncLosses (d : Dest) (s : State) :
    (s.releaseUnreleased d).counters.syncLosses = s.counters.syncLosses := by
  have hentry : ∀ (y : State) (e : TimedEntry), (y.releaseEntry d e).counters.syncLosses = y.counters.syncLosses := by
    intro y e
    unfold State.releaseEntry
    split
    · rfl
    · have hcounters : ((y.countEndpoint d EndpointCounters.addQueueFull).releaseRef e.slot).counters =
          (y.countEndpoint d EndpointCounters.addQueueFull).counters := State.releaseRef_frame _ _ .counters (by decide)
      rw [hcounters]
      rfl
  have hall : ∀ (l : List TimedEntry) (y : State),
      (l.foldl (State.releaseEntry d) y).counters.syncLosses = y.counters.syncLosses := by
    intro l
    induction l with
    | nil => exact fun _ => rfl
    | cons e l ih => exact fun y => (ih _).trans (hentry y e)
  unfold State.releaseUnreleased
  split
  · rfl
  · exact (hall _ _).trans (congrArg Counters.syncLosses (State.releaseMark_frame d s .counters (by decide)))

/-- R127: a boundary loses no lock. -/
theorem State.boundaryAt_syncLosses (t : Nat) (s : State) :
    (s.boundaryAt t).counters.syncLosses = s.counters.syncLosses := by
  have hcaught : ∀ (l : List Dest) (y : State), (l.foldl State.releaseUnreleased y).counters.syncLosses =
      y.counters.syncLosses := by
    intro l
    induction l with
    | nil => exact fun _ => rfl
    | cons d l ih => exact fun y => (ih _).trans (State.releaseUnreleased_syncLosses d y)
  have hreleased : ∀ (l : List Dest) (y : State), (l.foldl (State.releaseAtBoundary t) y).counters.syncLosses =
      y.counters.syncLosses := by
    intro l
    induction l with
    | nil => exact fun _ => rfl
    | cons d l ih =>
      refine fun y => (ih _).trans ?_
      unfold State.releaseAtBoundary
      split
      · exact State.releaseUnreleased_syncLosses d y
      · rfl
  rw [s.boundaryAt_eq, State.judgeChange_syncLosses, State.frameBegun, State.releasedAt, hreleased, State.caughtUp]
  exact (congrArg Counters.syncLosses (State.beginFrame_frame t _ .counters (by decide))).trans (hcaught _ s)

end Losses

/-! ### FSYNC (R128 to R131) -/

section Edge

variable {s : State} {last tp tol : Nat}

theorem distance_le_iff {a b n : Nat} : distance a b ≤ n ↔ a ≤ b + n ∧ b ≤ a + n := by
  unfold distance
  omega

theorem TimingRecord.inLockWindow_iff {r : TimingRecord} {n : Nat} :
    r.inLockWindow n = true ↔ r.windowMin ≤ n ∧ n ≤ r.windowMax := by
  simp [TimingRecord.inLockWindow]

theorem State.measured_of_edge (h : s.timing.lastEdge = some last) : s.measured = s.now - last := by
  rw [State.measured, h, Option.getD_some]

/-- R131: a window whose start is still to come does not open. -/
theorem State.openWindow_of_early (hwindow : s.timing.window = some ⟨tp, none⟩)
    (hearly : s.now + s.tables.timing.tolerance < tp) : s.openWindow = s := by
  refine s.openWindow_of_fixed ?_
  rw [hwindow, Option.map_some, Window.openAt, if_neg fun h => Nat.not_le.mpr hearly h.2]

theorem State.periodConsistent_iff (hlast : s.timing.lastEdge = some last) : s.periodConsistent = true ↔
    (s.tables.timing.windowMin ≤ s.now - last ∧ s.now - last ≤ s.tables.timing.windowMax) ∧
      ∀ q ∈ s.timing.prevPeriod, s.now - last ≤ q + s.tables.timing.tolerance ∧
        q ≤ s.now - last + s.tables.timing.tolerance := by
  rw [State.periodConsistent, State.measured_of_edge hlast, Bool.and_eq_true, TimingRecord.inLockWindow_iff]
  refine and_congr_right fun _ => ?_
  cases s.timing.prevPeriod with
  | none => simp
  | some q => simp [distance_le_iff]

theorem State.fsyncEdge_of_unlocked (h : s.timing.sync = .unlocked) : s.fsyncEdge = s.openWindow.beginAcquiring := by
  have hsync : s.openWindow.timing.sync = .unlocked := h
  rw [State.fsyncEdge, hsync]

theorem State.fsyncEdge_of_acquiring (h : s.timing.sync = .acquiring) : s.fsyncEdge = s.openWindow.acquireEdge := by
  have hsync : s.openWindow.timing.sync = .acquiring := h
  rw [State.fsyncEdge, hsync]

theorem State.fsyncEdge_of_early (hsync : s.timing.sync = .locked ∨ s.timing.sync = .holdover)
    (hwindow : s.timing.window = some ⟨tp, none⟩) (hearly : s.now + s.tables.timing.tolerance < tp) :
    s.fsyncEdge = if s.timing.sync = .locked then s.beginAcquiring.syncLost else s.beginAcquiring := by
  have hnone : s.timing.window.filter (Window.isOpen s.now) = none := by rw [hwindow]; rfl
  rw [State.fsyncEdge, State.openWindow_of_early hwindow hearly]
  rcases hsync with h | h
  · rw [h, if_pos rfl, hnone]
  · rw [h, if_neg (by decide), hnone]

/-- R131: the open window takes the edge. -/
theorem State.fsyncEdge_of_open (hsync : s.timing.sync = .locked ∨ s.timing.sync = .holdover)
    (hwindow : s.timing.window = some ⟨tp, some tol⟩) (hopen : s.now ≤ tp + tol) :
    s.fsyncEdge = if s.timing.sync = .holdover then s.relock ⟨tp, some tol⟩ else s.confirmEdge ⟨tp, some tol⟩ := by
  have hsome : s.timing.window.filter (Window.isOpen s.now) = some ⟨tp, some tol⟩ := by
    rw [hwindow, Option.filter_some, if_pos]
    simpa [Window.isOpen] using hopen
  rw [State.fsyncEdge, s.openWindow_of_open tp tol hwindow]
  rcases hsync with h | h
  · rw [h, if_neg (by decide), hsome]
  · rw [h, if_pos rfl, hsome]

/-- R131: the measured period agrees with the period in use. -/
def State.agrees (s : State) (last : Nat) : Bool :=
  decide (s.now - last ≤ s.timing.period + s.tables.timing.tolerance ∧
    s.timing.period ≤ s.now - last + s.tables.timing.tolerance ∧
    s.tables.timing.windowMin ≤ s.now - last ∧ s.now - last ≤ s.tables.timing.windowMax)

theorem State.acceptPeriod_eq (hlast : s.timing.lastEdge = some last) : s.acceptPeriod = { s with timing := { s.timing with
    period := if s.agrees last then s.now - last else s.timing.period
    accepted := s.timing.accepted || s.agrees last } } := by
  have hcond : (distance s.measured s.timing.period ≤ s.tables.timing.tolerance ∧
      s.tables.timing.inLockWindow s.measured = true) ↔ s.agrees last = true := by
    rw [State.measured_of_edge hlast, distance_le_iff, TimingRecord.inLockWindow_iff, State.agrees, decide_eq_true_eq,
      and_assoc]
  unfold State.acceptPeriod
  by_cases h : s.agrees last = true
  · rw [if_pos (hcond.mpr h), h, State.measured_of_edge hlast, Bool.or_true]
    rfl
  · rw [if_neg fun hc => h (hcond.mp hc), Bool.eq_false_iff.mpr h, Bool.or_false]
    rfl

/-- R130, R131: the timer is anchored to the edge. -/
theorem State.anchor_eq (s : State) : s.anchor = { s with timing := { s.timing with
    nextBoundary := s.now + s.timing.period, lastEdge := some s.now, window := some ⟨s.now + s.timing.period, none⟩ } } :=
  rfl

theorem State.boundaryAt_now (t : Nat) (s : State) : (s.boundaryAt t).now = s.now :=
  s.boundaryAt_parts t .now (by decide)

theorem State.boundaryAt_period (t : Nat) (s : State) : (s.boundaryAt t).timing.period = s.timing.period := by
  rw [s.boundaryAt_timing]

/-- R130: the whole of the state after the fourth consistent period. -/
theorem State.fsyncEdge_of_fourth {period : Nat} {w v : State} (hsync : s.timing.sync = .acquiring)
    (hlast : s.timing.lastEdge = some last) (hperiod : period = s.now - last) (hgood : s.periodConsistent = true)
    (hfourth : s.timing.consistent = 3)
    (hw : w = { s with timing := { s.timing with
      sync := .locked, period := period, accepted := true, prevPeriod := some period, consistent := 4
      window := s.openWindow.timing.window } })
    (hv : v = if s.now - s.timing.lastBoundary < s.tables.timing.tolerance then w else w.boundaryAt s.now) :
    s.fsyncEdge = State.raise (.hub .syncLocked) { v with timing := { v.timing with
      nextBoundary := s.now + period, lastEdge := some s.now, window := some ⟨s.now + period, none⟩ } } := by
  have hgood' : s.openWindow.periodConsistent = true := hgood
  have hcount : 4 ≤ s.openWindow.timing.consistent + 1 := by
    have : s.openWindow.timing.consistent = s.timing.consistent := rfl
    omega
  have hmeasured : s.openWindow.measured = period := (State.measured_of_edge hlast).trans hperiod.symm
  have hlocked : s.fsyncEdge = (v.anchor).raiseHub .syncLocked := by
    rw [State.fsyncEdge_of_acquiring hsync, State.acquireEdge, if_pos hgood', if_pos hcount, hmeasured, hv, hw]
    rfl
  have hnow : v.now = s.now := by
    rw [hv]
    split
    · rw [hw]
    · rw [State.boundaryAt_now, hw]
  have htime : v.timing.period = period := by
    rw [hv]
    split
    · rw [hw]
    · rw [State.boundaryAt_period, hw]
  rw [hlocked, State.anchor_eq, hnow, htime, State.raiseHub]

/-- R131, R133: the whole of the state after an edge in the open window. -/
theorem State.fsyncEdge_of_confirmed {period : Nat} {w v x : State}
    (hsync : s.timing.sync = .locked ∨ s.timing.sync = .holdover) (hwindow : s.timing.window = some ⟨tp, some tol⟩)
    (hopen : s.now ≤ tp + tol) (hlast : s.timing.lastEdge = some last)
    (hperiod : period = if s.agrees last then s.now - last else s.timing.period)
    (hw : w = { s with timing := { s.timing with
      sync := .locked, holdover := if s.timing.sync = .holdover then 0 else s.timing.holdover
      period := period, accepted := s.timing.accepted || s.agrees last } })
    (hv : v = if s.timing.nextBoundary = tp then w.boundaryAt s.now else w)
    (hx : x = { v with timing := { v.timing with
      nextBoundary := s.now + period, lastEdge := some s.now, window := some ⟨s.now + period, none⟩ } }) :
    s.fsyncEdge = if s.timing.sync = .holdover then State.raise (.hub .syncLocked) x else x := by
  have hnow : v.now = s.now := by
    rw [hv]
    split
    · rw [State.boundaryAt_now, hw]
    · rw [hw]
  have htime : v.timing.period = period := by
    rw [hv]
    split
    · rw [State.boundaryAt_period, hw]
    · rw [hw]
  have hanchored : v.anchor = x := by rw [State.anchor_eq, hx, hnow, htime]
  have hconfirm : ∀ y : State, y.acceptPeriod = w → y.now = s.now → y.confirmEdge ⟨tp, some tol⟩ = x := by
    intro y hy hynow
    have hnext : w.timing.nextBoundary = s.timing.nextBoundary := by rw [hw]
    rw [← hanchored, hv, State.confirmEdge, hy, hynow]
    simp only [hnext]
  rw [State.fsyncEdge_of_open hsync hwindow hopen]
  rcases hsync with hlocked | hheld
  · have hnot : ¬ s.timing.sync = .holdover := by rw [hlocked]; decide
    rw [if_neg hnot, if_neg hnot]
    refine hconfirm s ?_ rfl
    rw [State.acceptPeriod_eq hlast, hw, if_neg hnot, ← hlocked, hperiod]
  · rw [if_pos hheld, if_pos hheld, State.relock]
    refine congrArg (State.raiseHub .syncLocked) (hconfirm _ ?_ rfl)
    have hlast' : (s.modTiming fun t => { t with sync := .locked, holdover := 0 }).timing.lastEdge = some last := hlast
    rw [State.acceptPeriod_eq hlast', hw, if_pos hheld, hperiod]
    rfl

theorem State.syncLost_parts (s : State) : s.syncLost.SameBut [.events, .counters] s :=
  (State.raiseHub_frame .syncLost { s with counters := { s.counters with syncLosses := s.counters.syncLosses + 1 } }).comp
    (m := [.events]) (n := [.events, .counters])
    (by intro x hx; cases x <;> first | exact absurd (by decide) hx | rfl) (by decide)

theorem State.syncLost_losses (s : State) : s.syncLost.counters.syncLosses = s.counters.syncLosses + 1 :=
  congrArg Counters.syncLosses (State.raiseHub_frame .syncLost
    { s with counters := { s.counters with syncLosses := s.counters.syncLosses + 1 } } .counters (by decide))

theorem State.syncLost_mark (s : State) : (s.syncLost.events.marks (.hub .syncLost)).set = true := by
  rw [State.syncLost, State.raiseHub]
  exact State.raise_set _ _

/-- What an edge that only changes the timing record may change, with the selection that ends the event. -/
def Part.edge : List Part := [.timing, .grantSlots, .links, .queues, .mgmt]

theorem State.selectAll_after_timing (f : Timing → Timing) (s : State) :
    (s.modTiming f).selectAll.SameBut Part.edge s :=
  (State.selectAll_frame _).comp ((State.modTiming_frame f s).weaken (by decide)) (by decide)

/-- What an edge at which a boundary may happen changes. -/
def Part.anchored : List Part := [.sel, .budget, .admission, .grantSlots, .ports, .links, .queues, .records, .held, .phases,
  .timing, .mgmt, .events, .counters]

/-- R130, R131: what stands after an edge that anchors the timer, whether or not the boundary happens at it. -/
structure State.Anchored (s : State) (period : Nat) (boundary : Prop) (v : State) : Prop where
  frame : v.SameBut Part.anchored s
  sync : v.timing.sync = .locked
  period : v.timing.period = period
  counter : boundary → v.timing.counter = s.timing.counter + 1 ∧ v.timing.lastBoundary = s.now
  same : ¬ boundary → v.timing.counter = s.timing.counter ∧ v.timing.lastBoundary = s.timing.lastBoundary ∧
    v.phases = s.phases
  losses : v.counters.syncLosses = s.counters.syncLosses

theorem State.Anchored.of_boundary {boundary : Prop} [Decidable boundary] {w v : State} {f : Timing → Timing}
    (hw : w = s.modTiming f) (hsync : (f s.timing).sync = .locked) (hcounter : (f s.timing).counter = s.timing.counter)
    (hlast : (f s.timing).lastBoundary = s.timing.lastBoundary)
    (hv : v = if boundary then w.boundaryAt s.now else w) : s.Anchored (f s.timing).period boundary v := by
  have hframe : w.SameBut Part.anchored s := hw ▸ (State.modTiming_frame f s).weaken (by decide)
  have htiming : w.timing = f s.timing := by rw [hw]; rfl
  by_cases hb : boundary
  · rw [if_pos hb] at hv
    have hvt := State.boundaryAt_timing s.now w
    rw [← hv, htiming] at hvt
    refine ⟨hv ▸ (State.boundaryAt_parts _ w).comp hframe (by decide), ?_, ?_, fun _ => ⟨?_, ?_⟩, fun h => absurd hb h, ?_⟩
    · rw [hvt]
      exact hsync
    · rw [hvt]
    · rw [hvt]
      exact congrArg (· + 1) hcounter
    · rw [hvt]
    · rw [hv, State.boundaryAt_syncLosses, hw]
      rfl
  · rw [if_neg hb] at hv
    subst hv
    refine ⟨hframe, ?_, ?_, fun h => absurd h hb, fun _ => ⟨?_, ?_, hw ▸ rfl⟩, hw ▸ rfl⟩
    · rw [htiming]
      exact hsync
    · rw [htiming]
    · rw [htiming]
      exact hcounter
    · rw [htiming]
      exact hlast

/-- R128 to R130: the first part of `FsyncEdge`. -/
theorem fsyncEdge_acquiring (hpin : s.resetPin = false) (period : Nat) :
     (s.timing.sync = .unlocked →
       ∃ t, exec .fsyncEdge s = .next t ∧ t.timing.sync = .acquiring ∧ t.timing.lastEdge = some s.now ∧
         t.timing.consistent = 0 ∧ t.timing.period = s.timing.period ∧
         t.timing.nextBoundary = s.timing.nextBoundary ∧ t.timing.counter = s.timing.counter ∧
         t.SameBut [.timing, .grantSlots, .links, .queues, .mgmt] s) ∧
     (s.timing.sync = .acquiring → s.timing.lastEdge = some last → period = s.now - last →
       s.tables.timing.windowMin ≤ period → period ≤ s.tables.timing.windowMax →
       (∀ q ∈ s.timing.prevPeriod,
         period ≤ q + s.tables.timing.tolerance ∧ q ≤ period + s.tables.timing.tolerance) →
       (s.timing.consistent < 3 →
         ∃ t, exec .fsyncEdge s = .next t ∧ t.timing.sync = .acquiring ∧
           t.timing.consistent = s.timing.consistent + 1 ∧ t.timing.prevPeriod = some period ∧
           t.timing.lastEdge = some s.now ∧ t.timing.period = s.timing.period ∧
           t.timing.nextBoundary = s.timing.nextBoundary ∧
           t.SameBut [.timing, .grantSlots, .links, .queues, .mgmt] s) ∧
       (s.timing.consistent = 3 → ∀ w v : State,
         w = { s with timing := { s.timing with
           sync := .locked, period := period, accepted := true, prevPeriod := some period, consistent := 4
           window := s.openWindow.timing.window } } →
         v = (if s.now - s.timing.lastBoundary < s.tables.timing.tolerance then w else w.boundaryAt s.now) →
         exec .fsyncEdge s = .next (State.selectAll (State.raise (.hub .syncLocked) { v with timing := { v.timing with
           nextBoundary := s.now + period, lastEdge := some s.now, window := some ⟨s.now + period, none⟩ } }))) ∧
       (s.timing.consistent = 3 →
         ∃ t, exec .fsyncEdge s = .next t ∧ t.timing.sync = .locked ∧ t.timing.period = period ∧
           t.timing.nextBoundary = s.now + period ∧ t.timing.lastEdge = some s.now ∧
           t.timing.counter = (if s.now - s.timing.lastBoundary < s.tables.timing.tolerance
             then s.timing.counter else s.timing.counter + 1) ∧
           (t.events.marks (.hub .syncLocked)).set = true ∧
           t.SameBut [.sel, .budget, .admission, .grantSlots, .ports, .links, .queues, .records, .held,
             .phases, .timing, .mgmt, .events, .counters] s)) ∧
     (s.timing.sync = .acquiring → s.timing.lastEdge = some last → period = s.now - last →
       period < s.tables.timing.windowMin ∨ s.tables.timing.windowMax < period ∨
         (∃ q ∈ s.timing.prevPeriod,
           q + s.tables.timing.tolerance < period ∨ period + s.tables.timing.tolerance < q) →
       ∃ t, exec .fsyncEdge s = .next t ∧ t.timing.sync = .acquiring ∧ t.timing.consistent = 0 ∧
         t.timing.prevPeriod = none ∧ t.timing.lastEdge = some s.now ∧
         t.SameBut [.timing, .grantSlots, .links, .queues, .mgmt] s) := by
  have hexec : ∀ t, s.fsyncEdge = t → exec .fsyncEdge s = .next t.selectAll :=
    fun t ht => event_of_running (f := State.fsyncEdge) hpin ht
  have hopened : ∀ f : Timing → Timing, (s.openWindow.modTiming f).selectAll.SameBut Part.edge s := fun f =>
    (State.selectAll_after_timing f s.openWindow).comp ((State.modTiming_frame _ s).weaken (by decide)) (by decide)
  refine ⟨fun hsync => ?_, fun hsync hlast hperiod hmin hmax hprev => ?_, fun hsync hlast hperiod hbad => ?_⟩
  · refine ⟨_, hexec _ (State.fsyncEdge_of_unlocked hsync), ?_⟩
    rw [State.selectAll_timing]
    exact ⟨rfl, rfl, rfl, rfl, rfl, rfl, hopened _⟩
  · have hgood : s.periodConsistent = true := (State.periodConsistent_iff hlast).mpr (hperiod ▸ ⟨⟨hmin, hmax⟩, hprev⟩)
    refine ⟨fun hless => ?_, fun hthree w v hw hv =>
      hexec _ (State.fsyncEdge_of_fourth hsync hlast hperiod hgood hthree hw hv), fun hthree => ?_⟩
    · have hgood' : s.openWindow.periodConsistent = true := hgood
      have hmeasured : s.openWindow.measured = period := (State.measured_of_edge hlast).trans hperiod.symm
      have hcount : ¬ 4 ≤ s.openWindow.timing.consistent + 1 := by
        have : s.openWindow.timing.consistent = s.timing.consistent := rfl
        omega
      have hedge : s.fsyncEdge = s.openWindow.modTiming fun t =>
          { t with lastEdge := some s.now, prevPeriod := some period, consistent := t.consistent + 1 } := by
        rw [State.fsyncEdge_of_acquiring hsync, State.acquireEdge, if_pos hgood', if_neg hcount, hmeasured]
        rfl
      refine ⟨_, hexec _ hedge, ?_⟩
      rw [State.selectAll_timing]
      exact ⟨hsync, rfl, rfl, rfl, rfl, rfl, hopened _⟩
    · let w : State := s.modTiming fun t => { t with
        sync := .locked, period := period, accepted := true, prevPeriod := some period, consistent := 4
        window := s.openWindow.timing.window }
      let v : State := if s.now - s.timing.lastBoundary < s.tables.timing.tolerance then w else w.boundaryAt s.now
      have hanchored : s.Anchored period (¬ s.now - s.timing.lastBoundary < s.tables.timing.tolerance) v :=
        .of_boundary (w := w) rfl rfl rfl rfl (ite_not ..).symm
      let x : State := v.modTiming fun t => { t with
        nextBoundary := s.now + period, lastEdge := some s.now, window := some ⟨s.now + period, none⟩ }
      have hraise := State.raise_frame (.hub .syncLocked) x
      have htiming : (State.raise (.hub .syncLocked) x).selectAll.timing = x.timing :=
        (State.selectAll_timing _).trans (hraise .timing (by decide))
      refine ⟨_, hexec _ (State.fsyncEdge_of_fourth hsync hlast hperiod hgood hthree (w := w) (v := v) rfl rfl), ?_⟩
      refine ⟨(congrArg Timing.sync htiming).trans hanchored.sync, (congrArg Timing.period htiming).trans hanchored.period,
        congrArg Timing.nextBoundary htiming, congrArg Timing.lastEdge htiming,
        (congrArg Timing.counter htiming).trans ?_, ?_, ?_⟩
      · split
        · next h => exact (hanchored.same (not_not.mpr h)).1
        · next h => exact (hanchored.counter h).1
      · rw [State.selectAll_events]
        exact State.raise_set _ _
      · exact (State.selectAll_frame _).comp (hraise.comp ((State.modTiming_frame _ v).comp hanchored.frame (by decide))
          (by decide)) (by decide)
  · have hnot : ¬ s.openWindow.periodConsistent = true := fun h => by
      obtain ⟨⟨hmin, hmax⟩, hprev⟩ := (State.periodConsistent_iff hlast).mp h
      rw [← hperiod] at hmin hmax hprev
      rcases hbad with hlow | hhigh | ⟨q, hq, hq'⟩
      · omega
      · omega
      · have := hprev q hq
        omega
    have hedge : s.fsyncEdge = s.openWindow.beginAcquiring := by
      rw [State.fsyncEdge_of_acquiring hsync, State.acquireEdge, if_neg hnot]
    refine ⟨_, hexec _ hedge, ?_⟩
    rw [State.selectAll_timing]
    exact ⟨rfl, rfl, rfl, rfl, hopened _⟩

/-- R132, R133: an edge that comes before the window. -/
theorem fsyncEdge_early (hpin : s.resetPin = false) (hwindow : s.timing.window = some ⟨tp, none⟩)
    (hearly : s.now + s.tables.timing.tolerance < tp) :
    (s.timing.sync = .locked →
      ∃ t, exec .fsyncEdge s = .next t ∧ t.timing.sync = .acquiring ∧ t.timing.lastEdge = some s.now ∧
        t.timing.nextBoundary = s.timing.nextBoundary ∧
        t.counters.syncLosses = s.counters.syncLosses + 1 ∧
        (t.events.marks (.hub .syncLost)).set = true ∧
        t.SameBut [.timing, .grantSlots, .links, .queues, .mgmt, .events, .counters] s) ∧
    (s.timing.sync = .holdover →
      ∃ t, exec .fsyncEdge s = .next t ∧ t.timing.sync = .acquiring ∧ t.timing.holdover = 0 ∧
        t.SameBut [.timing, .grantSlots, .links, .queues, .mgmt] s) := by
  have hexec : ∀ t, s.fsyncEdge = t → exec .fsyncEdge s = .next t.selectAll :=
    fun t ht => event_of_running (f := State.fsyncEdge) hpin ht
  refine ⟨fun hsync => ?_, fun hsync => ?_⟩
  · have hedge : s.fsyncEdge = s.beginAcquiring.syncLost := by
      rw [State.fsyncEdge_of_early (.inl hsync) hwindow hearly, if_pos hsync]
    have hlost := State.syncLost_parts s.beginAcquiring
    have htiming : s.beginAcquiring.syncLost.timing = s.beginAcquiring.timing := hlost .timing (by decide)
    refine ⟨_, hexec _ hedge, ?_⟩
    rw [State.selectAll_timing, State.selectAll_counters, State.selectAll_events, htiming]
    exact ⟨rfl, rfl, rfl, State.syncLost_losses _, State.syncLost_mark _, (State.selectAll_frame _).comp
      (hlost.comp ((State.modTiming_frame _ s).weaken (by decide)) (by decide))
      (by decide)⟩
  · have hedge : s.fsyncEdge = s.beginAcquiring := by
      rw [State.fsyncEdge_of_early (.inr hsync) hwindow hearly, if_neg (by rw [hsync]; decide)]
    refine ⟨_, hexec _ hedge, ?_⟩
    rw [State.selectAll_timing]
    exact ⟨rfl, rfl, State.selectAll_after_timing _ s⟩

/-- Settles O47. -/
theorem fsyncEdge : Obligations.FsyncEdge := by
  refine ⟨fun s last period hpin => ?_, fun s last tp tol period hpin hsync hwindow hopen hlast hperiod => ?_,
    fun s w v x last tp tol period agrees hpin hsync hwindow hopen hlast hagrees hperiod hw hv hx => ?_⟩
  · obtain ⟨hunlocked, hgood, hbad⟩ := fsyncEdge_acquiring (last := last) hpin period
    exact ⟨hunlocked, hgood, hbad, fun tp hsync hwindow hearly => (fsyncEdge_early hpin hwindow hearly).1 hsync,
      fun tp hsync hwindow hearly => (fsyncEdge_early hpin hwindow hearly).2 hsync⟩
  · let w : State := s.modTiming fun t => { t with
      sync := .locked, holdover := if s.timing.sync = .holdover then 0 else s.timing.holdover
      period := period, accepted := s.timing.accepted || s.agrees last }
    let v : State := if s.timing.nextBoundary = tp then w.boundaryAt s.now else w
    have hanchored : s.Anchored period (s.timing.nextBoundary = tp) v := .of_boundary (w := w) rfl rfl rfl rfl rfl
    let x : State := v.modTiming fun t => { t with
      nextBoundary := s.now + period, lastEdge := some s.now, window := some ⟨s.now + period, none⟩ }
    let y : State := if s.timing.sync = .holdover then State.raise (.hub .syncLocked) x else x
    have hy : y.SameBut [.mgmt, .events] x := by
      show State.SameBut _ (if s.timing.sync = .holdover then State.raise (.hub .syncLocked) x else x) x
      split
      · exact (State.raise_frame (.hub .syncLocked) x).weaken (by decide)
      · exact .refl _ x
    have hconfirmed : s.fsyncEdge = y := by
      refine State.fsyncEdge_of_confirmed hsync hwindow hopen hlast (w := w) (v := v) (x := x) ?_ rfl rfl rfl
      rw [hperiod]
      simp only [State.agrees, decide_eq_true_eq]
    have htiming : y.selectAll.timing = x.timing := (State.selectAll_timing y).trans (hy .timing (by decide))
    have hcounters : y.selectAll.counters = v.counters := (State.selectAll_counters y).trans (hy .counters (by decide))
    have hphases : y.selectAll.phases = v.phases := (State.selectAll_phases y).trans (hy .phases (by decide))
    refine ⟨_, event_of_running (f := State.fsyncEdge) hpin hconfirmed, ?_⟩
    rw [htiming, hcounters, hphases]
    refine ⟨hanchored.sync, hanchored.period, rfl, rfl, rfl, hanchored.counter, hanchored.same, fun hheld => ⟨?_, ?_⟩,
      hanchored.losses, (State.selectAll_frame _).comp (hy.comp ((State.modTiming_frame _ v).comp hanchored.frame
        (by decide)) (by decide)) (by decide)⟩
    · have hzero : w.timing.holdover = 0 := if_pos hheld
      show (if s.timing.nextBoundary = tp then w.boundaryAt s.now else w).timing.holdover = 0
      split
      · rw [State.boundaryAt_timing]
        exact hzero
      · exact hzero
    · rw [State.selectAll_events, show y = State.raise (.hub .syncLocked) x from if_pos hheld]
      exact State.raise_set _ _
  · refine event_of_running (f := State.fsyncEdge) hpin ?_
    subst hagrees
    exact State.fsyncEdge_of_confirmed hsync hwindow hopen hlast hperiod hw hv hx

/-- Settles O48. -/
theorem windowClosesWithNoEdge : Obligations.WindowClosesWithNoEdge := by
  intro s w hpin hwindow
  have hexec : ∀ t, s.windowClose = t → exec .windowCloseNoEdge s = .next t.selectAll :=
    fun t ht => event_of_running (f := State.windowClose) hpin ht
  have hlost : ∀ f : Timing → Timing, s.windowClose = (s.modTiming f).syncLost →
      ∃ t, exec .windowCloseNoEdge s = .next t ∧ t.timing = f s.timing ∧
        t.counters.syncLosses = s.counters.syncLosses + 1 ∧ (t.events.marks (.hub .syncLost)).set = true ∧
        t.SameBut [.timing, .grantSlots, .links, .queues, .mgmt, .events, .counters] s := by
    intro f hf
    refine ⟨_, hexec _ hf, ?_⟩
    have hparts := State.syncLost_parts (s.modTiming f)
    rw [State.selectAll_timing, State.selectAll_counters, State.selectAll_events, hparts .timing (by decide)]
    exact ⟨rfl, State.syncLost_losses _, State.syncLost_mark _, (State.selectAll_frame _).comp
      (hparts.comp ((State.modTiming_frame f s).weaken (by decide)) (by decide)) (by decide)⟩
  refine ⟨fun hsync => ?_, fun hsync hcount => ?_, fun hsync hcount => ?_⟩
  · refine hlost (fun t => { t with sync := .holdover, holdover := 1, window := some ⟨t.nextBoundary, none⟩ }) ?_
    rw [State.windowClose, hwindow, hsync]
  · have hlimit : ¬ Config.holdoverLimit ≤ s.timing.holdover + 1 := by
      rw [Config.holdoverLimit]
      omega
    have hclose : s.windowClose = s.modTiming fun t =>
        { t with holdover := t.holdover + 1, window := some ⟨t.nextBoundary, none⟩ } := by
      rw [State.windowClose, hwindow, hsync]
      exact if_neg hlimit
    exact ⟨_, hexec _ hclose, State.selectAll_timing _, State.selectAll_after_timing _ s⟩
  · refine hlost (fun t => { t with sync := .unlocked, holdover := 0, window := none }) ?_
    have hlimit : Config.holdoverLimit ≤ s.timing.holdover + 1 := by rw [hcount]; decide
    rw [State.windowClose, hwindow, hsync]
    exact if_pos hlimit

end Edge
end Sys2Proof.Machine

namespace Sys2Proof.Machine

open Sys2Proof

/-! ### Requests that are refused or wait (R144, R146) -/

/-- A command that executes a request. -/
def Instr.Serves (row : Instr) : Prop := ∃ act, ∀ s, exec row s = event (State.serve row act) s

theorem Instr.Serves.ite {c : Prop} [Decidable c] {a b : Instr} (ha : Instr.Serves a) (hb : Instr.Serves b) :
    Instr.Serves (if c then a else b) := by
  split
  · exact ha
  · exact hb

/-- R144: the row of a request is a command that executes requests. -/
theorem Request.row_serves (r : Request) : Instr.Serves r.row := by
  have hport : ∀ c d : Prop, [Decidable c] → [Decidable d] →
      Instr.Serves (if c then .portControlDisable else if d then .portControlReset else .portControlEnable) :=
    fun c d _ _ => .ite ⟨_, fun _ => rfl⟩ (.ite ⟨_, fun _ => rfl⟩ ⟨_, fun _ => rfl⟩)
  unfold Request.row
  split
  case h_13 => exact .ite ⟨_, fun _ => rfl⟩ ⟨_, fun _ => rfl⟩
  case h_14 => exact hport _ _
  case h_17 => exact .ite ⟨_, fun _ => rfl⟩ ⟨_, fun _ => rfl⟩
  all_goals exact ⟨_, fun _ => rfl⟩

/-- R146: a code without a length is the row of unknown requests. -/
theorem Request.row_of_unknown {r : Request} (h : requestLength r.code.toNat = none) : r.row = .unknownRequest := by
  unfold requestLength at h
  split at h
  case h_20 => simp [Request.row, *]
  all_goals cases h

section Requests

variable {s : State} {r : Request} {rest : List Request}

/-- R144: the request at the head stays, and the transmitters select. -/
theorem exec_row_of_waiting (hpin : s.resetPin = false) (hinput : s.mgmt.input = r :: rest)
    (hwait : s.mayBegin r = false) : exec r.row s = .next s.selectAll := by
  obtain ⟨act, hact⟩ := r.row_serves
  rw [hact]
  exact event_of_running (f := State.serve r.row act) hpin (State.serve_of_waiting hinput hwait)

/-- R144: an execution in hand, or a full lane, keeps the request waiting. -/
theorem State.mayBegin_of_waiting
    (h : s.mgmt.inHand ≠ .nothing ∨ (4 ≤ s.mgmt.lane.length ∧ s.linkState .u = .up ∧ r.row ≠ .trafficReset)) :
    s.mayBegin r = false := by
  unfold State.mayBegin
  rcases h with hbusy | ⟨hlane, hup, hrow⟩
  · simp [hbusy]
  · simp [hrow, hup, Config.laneSize, Nat.not_lt.mpr hlane]

end Requests

/-- Settles O49. -/
theorem requestsRefusedOrWaiting : Obligations.RequestsRefusedOrWaiting := by
  refine ⟨fun s u r rest he hu => ?_, fun s r rest hpin hinput hwait =>
    exec_row_of_waiting hpin hinput (State.mayBegin_of_waiting hwait)⟩
  subst hu
  refine ⟨fun hcode => ?_, fun n hcode hlength => ?_⟩
  · exact State.serve_of_executes he (Request.row_of_unknown hcode) (by simp [Request.lengthOk, hcode])
  · obtain ⟨act, hact⟩ := r.row_serves
    rw [hact]
    exact State.serve_of_bad_length he rfl (by simp [Request.lengthOk, hcode, hlength])

/-! ### Loads (R147) -/

section Loads

variable {α : Type} {s : State} {r : Request} {rest : List Request} {row : Instr} {parse : List Byte → Except Status α}
  {write : α → State → State}

/-- R147: a refused load answers its status and writes nothing; one that is taken has its effect and answers OK. -/
theorem exec_load (he : s.Executes r rest) (hrow : r.row = row) (hlength : r.lengthOk = true)
    (hexec : exec row s = event (State.serve row (State.load parse write)) s) :
    (∀ e, parse r.payload = .error e →
      exec row s = .next ((s.popped rest).placeResponse r.code [byte e.code] none).selectAll) ∧
    (∀ x, parse r.payload = .ok x →
      exec row s = .next (State.selectAll (State.placeResponse r.code [0] none (write x (s.popped rest))))) := by
  have hload : exec row s = .next (State.load parse write r (s.popped rest)).selectAll :=
    hexec.trans (State.serve_of_executes he hrow hlength)
  refine ⟨fun e hp => ?_, fun x hp => ?_⟩
  all_goals
    rw [hload, State.load, hp]
    rfl

end Loads

/-- A request whose code has one form has the row and the length of its code. -/
theorem Request.lengthOk_of {r : Request} {n : Nat} (hcode : requestLength r.code.toNat = some n)
    (hlength : r.payload.length = n) : r.lengthOk = true := by
  simp [Request.lengthOk, hcode, hlength]

/-- Settles O53. -/
theorem loadPowerTables : Obligations.LoadPowerTables := by
  rintro s u ⟨code, payload⟩ rest he hu
  subst hu
  refine ⟨?_, ?_, ?_, ?_, ?_⟩
  all_goals
    intro hcode hlength
    obtain rfl : code = _ := hcode
    obtain ⟨hbad, hok⟩ := exec_load he rfl (Request.lengthOk_of rfl hlength) rfl
  · exact ⟨hbad, fun x => hok (.line, x), fun x => hok (.batt, x)⟩
  · exact ⟨hbad, hok⟩
  · exact ⟨hbad, hok⟩
  · exact ⟨hbad, fun c x => hok (c, x)⟩
  · exact ⟨hbad, fun p x => hok (p, x)⟩

/-! ### Flow messages to every link (R120, R121) -/

section Flow

variable (s : State) (k : FlowKind)

theorem State.foldl_postFlow_link (l : List Dest) (x : Dest) :
    (l.foldl (fun s d => s.postFlow k d) s).links.get x =
      if x ∈ l ∧ s.linkState x = .up then { s.links.get x with flowSlot := some k } else s.links.get x := by
  induction l generalizing s with
  | nil => simp
  | cons d l ih =>
    have hstate : (s.postFlow k d).linkState x = s.linkState x := by
      rw [State.linkState, State.postFlow_link]
      split <;> rfl
    rw [List.foldl_cons, ih, hstate, State.postFlow_link]
    by_cases hup : s.linkState x = .up
    · by_cases hx : x = d
      · subst hx
        simp [hup]
      · simp [hup, hx]
    · simp [hup, show ¬(x = d ∧ s.linkState d = .up) from fun ⟨h, hd⟩ => hup (h ▸ hd)]

/-- R120, R121: HOLD and RESUME go to the links that are UP. -/
theorem State.postFlowAll_link (x : Dest) :
    (s.postFlowAll k).links.get x =
      if s.linkState x = .up then { s.links.get x with flowSlot := some k } else s.links.get x := by
  rw [State.postFlowAll, State.foldl_postFlow_link]
  simp [Dest.mem_all]

theorem State.postFlowAll_flowSlot {x : Dest} (h : s.linkState x = .up) :
    ((s.postFlowAll k).links.get x).flowSlot = some k := by
  rw [State.postFlowAll_link, if_pos h]

end Flow

/-! ### The loads of the route, timing and traffic tables (R104, R119, R125) -/

section TrafficLoads

variable (s : State)

theorem State.withShadow_frame (shadow : PerDest Nat) : (s.withShadow shadow).SameBut [.phases] s := by
  intro x hx
  cases x <;> first | exact absurd (by decide) hx | rfl

theorem State.loadTiming_frame (x : TimingRecord × PerDest Nat) :
    (s.loadTiming x).SameBut [.tables, .phases, .timing] s := by
  rw [State.loadTiming_eq]
  exact (((State.modTiming_frame _ _).weaken (by decide)).comp (((State.withShadow_frame _ _).weaken (by decide)).comp
    (((State.modTables_frame _ _).weaken (by decide)).comp ((s.openWindow_frame).weaken (by decide)) fun _ h => h)
    fun _ h => h) fun _ h => h)

theorem State.loadTiming_phase (x : TimingRecord × PerDest Nat) (d : Dest) :
    (s.loadTiming x).phases.get d = { s.phases.get d with shadow := x.2.get d } :=
  PerDest.get_ofFn _ d

theorem State.loadTraffic_frame (level : Nat) :
    (s.loadTraffic level).SameBut [.tables, .held, .links, .events] s :=
  ((State.judgeFree_frame _).weaken (by decide)).comp
    (((State.judgeTake_frame _).weaken (by decide)).comp ((s.modTables_frame _).weaken (by decide)) fun _ h => h)
    fun _ h => h

variable {s} {t : State} {level : Nat}

theorem State.resumeLevel_congr (h : t.tables = s.tables) : t.resumeLevel = s.resumeLevel := by
  rw [State.resumeLevel, State.resumeLevel, h]

theorem State.enterHeld_flowSlot {d : Dest} (h : s.linkState d = .up) :
    (s.enterHeld.links.get d).flowSlot = some .hold := by
  have hlinks : s.enterHeld.links = ({ s with held := true }.postFlowAll .hold).links :=
    State.raiseHub_frame _ _ .links (by decide)
  rw [hlinks]
  exact State.postFlowAll_flowSlot _ _ h

theorem State.loadTraffic_tables : (s.loadTraffic level).tables = { s.tables with holdLevel := level } :=
  Eq.trans (State.judgeFree_frame _ .tables (by decide)) (State.judgeTake_frame _ .tables (by decide))

/-- R119, R120: a CLEAR pool at or below the new level enters HELD. -/
theorem State.loadTraffic_of_taken (hheld : s.held = false) (hfree : s.freeCells ≤ level) :
    s.loadTraffic level = (s.modTables fun t => { t with holdLevel := level }).enterHeld := by
  let w : State := s.modTables fun t => { t with holdLevel := level }
  have htake : w.judgeTake = w.enterHeld := if_pos ⟨hheld, hfree⟩
  have hcells : w.enterHeld.freeCells = s.freeCells := State.freeCells_congr (w.enterHeld_frame .records (by decide))
  have hlevel : w.enterHeld.resumeLevel = level + 16 := State.resumeLevel_congr (w.enterHeld_frame .tables (by decide))
  show w.judgeTake.judgeFree = w.enterHeld
  rw [htake]
  exact if_neg fun ⟨_, hresume⟩ => by omega

/-- R119, R121: a HELD pool at or above the resume level of the new level leaves HELD. -/
theorem State.loadTraffic_of_freed (hheld : s.held = true) (hfree : level + 16 ≤ s.freeCells) :
    s.loadTraffic level = (s.modTables fun t => { t with holdLevel := level }).leaveHeld := by
  let w : State := s.modTables fun t => { t with holdLevel := level }
  have htake : w.judgeTake = w := if_neg fun ⟨hclear, _⟩ => by simp [w, State.modTables, hheld] at hclear
  show w.judgeTake.judgeFree = w.leaveHeld
  rw [htake]
  exact if_pos ⟨hheld, hfree⟩

/-- R119: the held state is judged against the new level. -/
theorem State.loadTraffic_held :
    (s.loadTraffic level).held =
      if s.held then decide (s.freeCells < level + 16) else decide (s.freeCells ≤ level) := by
  let w : State := s.modTables fun t => { t with holdLevel := level }
  have hcells : w.judgeTake.freeCells = s.freeCells := State.freeCells_congr (w.judgeTake_frame .records (by decide))
  have hlevel : w.judgeTake.resumeLevel = level + 16 := State.resumeLevel_congr (w.judgeTake_frame .tables (by decide))
  have htake : w.judgeTake.held = (s.held || decide (s.freeCells ≤ level)) := w.judgeTake_held
  show w.judgeTake.judgeFree.held = _
  rw [State.judgeFree_held, htake, hcells, hlevel]
  cases s.held
  · by_cases hfree : s.freeCells ≤ level
    · simp [hfree, show s.freeCells < level + 16 by omega]
    · simp [hfree]
  · simp

end TrafficLoads

/-- Settles O54. -/
theorem loadTrafficTables : Obligations.LoadTrafficTables := by
  rintro s u ⟨code, payload⟩ rest he hu
  subst hu
  refine ⟨?route, ?timing, ?traffic⟩
  all_goals
    intro hcode hlength
    obtain rfl : code = _ := hcode
    obtain ⟨hbad, hok⟩ := exec_load he rfl (Request.lengthOk_of rfl hlength) rfl
  case route => exact ⟨hbad, fun i x => hok (i, x)⟩
  case timing =>
    refine ⟨hbad, fun x shadow hp => ⟨_, hok (x, shadow) hp, rfl, fun d => ?_, rfl, rfl, rfl, rfl, rfl,
      (s.popped rest).loadTiming_frame (x, shadow)⟩⟩
    rw [State.loadTiming_phase]
    exact ⟨rfl, rfl, rfl⟩
  case traffic =>
    have hframe := (s.popped rest).loadTraffic_frame (parseHoldLevel payload)
    refine ⟨_, hok _ rfl, State.loadTraffic_tables, State.loadTraffic_held, fun hheld hfree => ?_, fun hheld hfree => ?_, hframe⟩
    · rw [State.loadTraffic_of_taken (s := s.popped rest) hheld hfree]
      exact ⟨State.enterHeld_mark _, fun d hup => State.enterHeld_flowSlot hup⟩
    · rw [State.loadTraffic_of_freed (s := s.popped rest) hheld hfree]
      exact ⟨State.leaveHeld_frame _ .events (by decide), fun d hup => State.postFlowAll_flowSlot _ _ hup⟩

/-! ### START (R142) -/

/-- Settles O55. -/
theorem startRequest : Obligations.StartRequest := by
  rintro s u ⟨code, payload⟩ rest he hu hcode hlength
  subst hu
  obtain rfl : code = 32 := hcode
  have run : ∀ {t : State}, (s.popped rest).start ⟨32, payload⟩ = t → exec .start s = .next t.selectAll := fun ht =>
    ht ▸ State.serve_of_executes he rfl (Request.lengthOk_of rfl hlength)
  refine ⟨fun hop => run (if_pos hop), fun hop hmissing => run ?_, fun hop hline hbatt hbudget => run ?_⟩
  all_goals refine (if_neg (by simp [State.popped, hop])).trans ?_
  · refine if_neg fun hcomplete => ?_
    simp only [Mgmt.complete, Bool.and_eq_true] at hcomplete
    obtain ⟨⟨hline, hbatt⟩, hbudget⟩ := hcomplete
    rcases hmissing with h | h | h
    · exact absurd (h.symm.trans hline) (by decide)
    · exact absurd (h.symm.trans hbatt) (by decide)
    · exact absurd (h.symm.trans hbudget) (by decide)
  · refine if_pos ?_
    simp [Mgmt.complete, State.popped, hline, hbatt, hbudget]

end Sys2Proof.Machine

namespace Sys2Proof.Machine

open Sys2Proof

/-! ### When the notice becomes pending (R156, R158) -/

section Notices

variable (s : State)

theorem State.noticeWaits_iff : s.noticeWaits = true ↔ .notice ∈ s.mgmt.lane := by
  simp [State.noticeWaits]

theorem EventSetting.notifies_iff (e : EventSetting) : e.notifies = true ↔ e.enable = true ∧ 1 ≤ e.level := by
  simp [EventSetting.notifies]

/-- R158: a state in which the notice is asked for where a condition holds. -/
def State.requestNoticeIf (b : Bool) : State := if b then s.requestNotice else s

theorem State.requestNoticeIf_pending (b : Bool) :
    (s.requestNoticeIf b).events.noticePending = true ↔
      s.events.noticePending = true ∨ (.notice ∉ s.mgmt.lane ∧ b = true) := by
  rw [← State.noticeWaits_iff]
  cases b
  · simp [State.requestNoticeIf]
  · cases hwaits : s.noticeWaits
    · simp [State.requestNoticeIf, State.requestNotice, hwaits]
    · simp [State.requestNoticeIf, State.requestNotice, hwaits]

theorem State.requestNoticeIf_marks (b : Bool) (i : Item) :
    (s.requestNoticeIf b).events.marks i = s.events.marks i := by
  unfold State.requestNoticeIf
  split
  · exact State.requestNotice_marks s i
  · rfl

theorem State.requestNoticeIf_frame (b : Bool) : (s.requestNoticeIf b).SameBut [.events] s := by
  unfold State.requestNoticeIf
  split
  · exact s.requestNotice_frame
  · exact .refl _ s

end Notices

/-! ### Raising an item (R156) -/

section Raise

/-- R156: the marks after a cause. -/
theorem Marks.afterRaise_marks (m : Marks) (o : Bool) :
    (m.afterRaise o).1 = if m.set = false then ⟨true, false, false⟩
      else if m.reported = true ∨ o = true then { m with reoccurred := true } else m := by
  obtain ⟨set, reported, reoccurred⟩ := m
  revert set reported reoccurred o
  decide

/-- R156: a cause asks for a notice when it changes a mark. -/
theorem Marks.afterRaise_asks (m : Marks) (o : Bool) :
    (m.afterRaise o).2 = true ↔
      m.set = false ∨ (m.reoccurred = false ∧ (m.reported = true ∨ o = true)) := by
  obtain ⟨set, reported, reoccurred⟩ := m
  revert set reported reoccurred o
  decide

variable (s : State) (i : Item)

theorem State.raise_eq :
    s.raise i =
      { s with events := s.events.withMarks i ((s.events.marks i).afterRaise (s.outstanding i)).1 }.requestNoticeIf
        (((s.events.marks i).afterRaise (s.outstanding i)).2 && (s.tables.events.of i).notifies) :=
  rfl

theorem Events.withMarks_pending (e : Events) (m : Marks) : (e.withMarks i m).noticePending = e.noticePending := by
  cases i <;> rfl

/-- R156: a raise makes the notice pending where it changes a mark of an item that notifies. -/
theorem State.raise_pending :
    (s.raise i).events.noticePending = true ↔ s.events.noticePending = true ∨ (.notice ∉ s.mgmt.lane ∧
      (s.tables.events.of i).enable = true ∧ 1 ≤ (s.tables.events.of i).level ∧
      ((s.events.marks i).set = false ∨ ((s.events.marks i).reoccurred = false ∧
        ((s.events.marks i).reported = true ∨ s.outstanding i = true)))) := by
  rw [State.raise_eq, State.requestNoticeIf_pending, Events.withMarks_pending, Bool.and_eq_true,
    Marks.afterRaise_asks, EventSetting.notifies_iff]
  tauto

end Raise

/-! ### SET EVENTS and CLEAR EVENTS (R161 to R163) -/

section Settings

variable (s : State)

theorem State.writeEvents_eq (x : EventSettings) :
    s.writeEvents x = (s.modTables fun t => { t with events := x }).requestNoticeIf
      (Item.all.any (s.modTables fun t => { t with events := x }).unreported) :=
  rfl

theorem State.writeEvents_marks (x : EventSettings) (i : Item) :
    (s.writeEvents x).events.marks i = s.events.marks i := by
  rw [State.writeEvents_eq, State.requestNoticeIf_marks]
  rfl

theorem State.writeEvents_tables (x : EventSettings) : (s.writeEvents x).tables = { s.tables with events := x } := by
  rw [State.writeEvents_eq]
  exact State.requestNoticeIf_frame _ _ .tables (by decide)

theorem State.writeEvents_frame (x : EventSettings) : (s.writeEvents x).SameBut [.tables, .events] s := by
  rw [State.writeEvents_eq]
  exact ((State.requestNoticeIf_frame _ _).weaken (by decide)).comp ((s.modTables_frame _).weaken (by decide))
    fun _ h => h

/-- R162: the settings make the notice pending for a set item not yet reported, or that re-occurred. -/
theorem State.writeEvents_pending (x : EventSettings) :
    (s.writeEvents x).events.noticePending = true ↔ s.events.noticePending = true ∨ (.notice ∉ s.mgmt.lane ∧
      ∃ i, (s.events.marks i).set = true ∧ (x.of i).enable = true ∧ 1 ≤ (x.of i).level ∧
        ((s.events.marks i).reoccurred = true ∨ ((s.events.marks i).reported = false ∧ s.outstanding i = false))) := by
  have hitem : ∀ i, (s.modTables fun t => { t with events := x }).unreported i = true ↔
      (s.events.marks i).set = true ∧ (x.of i).enable = true ∧ 1 ≤ (x.of i).level ∧
        ((s.events.marks i).reoccurred = true ∨ ((s.events.marks i).reported = false ∧ s.outstanding i = false)) := by
    intro i
    show ((s.events.marks i).set && (x.of i).notifies &&
      ((s.events.marks i).reoccurred || (!(s.events.marks i).reported && !s.outstanding i))) = true ↔ _
    simp only [Bool.and_eq_true, Bool.or_eq_true, Bool.not_eq_true', EventSetting.notifies_iff, and_assoc]
  rw [State.writeEvents_eq, State.requestNoticeIf_pending, List.any_eq_true]
  simp only [hitem, Item.mem_all, true_and]
  rfl

variable (sel : Item → Bool)

theorem State.clearItems_eq :
    s.clearItems sel =
      { s with events := s.events.mapMarks fun i m => if sel i then m.afterClear else m }.requestNoticeIf
        (Item.all.any fun i => sel i && s.keptByClear i) :=
  rfl

theorem State.clearItems_marks (i : Item) :
    (s.clearItems sel).events.marks i =
      if sel i = true ∧ (s.events.marks i).set = true ∧ (s.events.marks i).reported = true then
        ⟨(s.events.marks i).reoccurred, false, false⟩ else s.events.marks i := by
  rw [State.clearItems_eq, State.requestNoticeIf_marks, Events.marks_mapMarks]
  obtain ⟨set, reported, reoccurred⟩ := s.events.marks i
  cases sel i
  · simp
  · revert set reported reoccurred
    decide

/-- R163: an item kept for its re-occurrence makes the notice pending. -/
theorem State.clearItems_pending :
    (s.clearItems sel).events.noticePending = true ↔ s.events.noticePending = true ∨ (.notice ∉ s.mgmt.lane ∧
      ∃ i, sel i = true ∧ (s.events.marks i).set = true ∧ (s.events.marks i).reported = true ∧
        (s.events.marks i).reoccurred = true ∧ (s.tables.events.of i).enable = true ∧
        1 ≤ (s.tables.events.of i).level) := by
  rw [State.clearItems_eq, State.requestNoticeIf_pending, List.any_eq_true]
  simp only [State.keptByClear, Bool.and_eq_true, EventSetting.notifies_iff, Item.mem_all, true_and, and_assoc]
  rfl

/-- R160: the ATTENTION line. -/
theorem State.attention_iff :
    s.attention = true ↔ ∃ i, (s.events.marks i).set = true ∧
      (s.tables.events.of i).enable = true ∧ (s.tables.events.of i).level = 3 := by
  simp [State.attention, Item.mem_all, and_assoc]

variable {s}

/-- R158: when a pending notice may be placed. -/
theorem State.noticeMayGo_iff :
    s.noticeMayGo = true ↔ s.events.noticePending = true ∧ s.linkState .u = .up ∧ .notice ∉ s.mgmt.lane ∧
      s.mgmt.lane.length < 4 := by
  simp only [State.noticeMayGo, Bool.and_eq_true, Bool.not_eq_true', ← Bool.not_eq_true, State.noticeWaits_iff,
    decide_eq_true_eq, and_assoc]
  rfl

end Settings

/-- Settles O58. -/
theorem eventItems : Obligations.EventItems := by
  refine ⟨fun s i => ⟨?_, fun j hj => ?_, s.raise_frame i, s.raise_pending i⟩, State.attention_iff, ?requests,
    fun s hpin => ⟨fun hpending hup hlane hroom => ?_, fun hnot => ?_⟩⟩
  · rw [State.raise_marks, if_pos rfl, Marks.afterRaise_marks]
  · rw [State.raise_marks, if_neg hj]
  case requests =>
    rintro s u ⟨code, payload⟩ rest he hu
    subst hu
    refine ⟨fun hcode hlength => ?_, fun hcode hlength => ?_⟩
    · obtain rfl : code = 35 := hcode
      obtain ⟨-, hok⟩ := exec_load (row := .setEvents) he rfl (Request.lengthOk_of rfl hlength) rfl
      exact ⟨_, hok _ rfl, State.writeEvents_tables _ _, State.writeEvents_marks _ _, State.writeEvents_pending _ _,
        State.writeEvents_frame _ _⟩
    · obtain rfl : code = 36 := hcode
      have hexec : exec .clearEvents s = .next ((s.popped rest).clearEvents ⟨36, payload⟩).selectAll :=
        State.serve_of_executes he rfl (Request.lengthOk_of rfl hlength)
      exact ⟨(s.popped rest).clearItems (named (wordAt payload 0) (byteAt payload 2)), hexec, State.clearItems_marks _ _,
        State.clearItems_pending _ _, State.clearItems_frame _ _⟩
  · exact event_of_running (f := State.placeNotice) hpin
      (if_pos (State.noticeMayGo_iff.2 ⟨hpending, hup, hlane, hroom⟩))
  · refine event_of_running (f := State.placeNotice) hpin (if_neg fun hgo => ?_)
    obtain ⟨hpending, hup, hlane, hroom⟩ := State.noticeMayGo_iff.1 hgo
    rcases hnot with h | h | h | h
    · rw [h] at hpending; cases hpending
    · exact h hup
    · exact hlane h
    · omega

end Sys2Proof.Machine

namespace Sys2Proof.Machine

open Sys2Proof

/-! ### Lists laid out in blocks of one length -/

section Blocks

variable {α β : Type} {f : α → List β} {n : Nat}

theorem drop_flatMap_of_length (hf : ∀ a, (f a).length = n) (l : List α) (i : Nat) :
    (l.flatMap f).drop (n * i) = (l.drop i).flatMap f := by
  induction i generalizing l with
  | zero => simp
  | succ i ih =>
    cases l with
    | nil => simp
    | cons a l =>
      rw [List.flatMap_cons, Nat.mul_succ, Nat.add_comm, ← List.drop_drop, List.drop_left' (hf a), ih]
      rfl

theorem length_flatMap_of_length (hf : ∀ a, (f a).length = n) (l : List α) :
    (l.flatMap f).length = n * l.length := by
  simp [List.length_flatMap, hf, Nat.mul_comm]

/-- Block i of a list laid out in blocks. -/
theorem take_drop_flatMap (hf : ∀ a, (f a).length = n) {l : List α} {i : Nat} {a : α} (h : l[i]? = some a) :
    ((l.flatMap f).drop (n * i)).take n = f a := by
  obtain ⟨hi, rfl⟩ := List.getElem?_eq_some_iff.1 h
  rw [drop_flatMap_of_length hf, List.drop_eq_getElem_cons hi, List.flatMap_cons]
  exact List.take_left' (hf _)

/-- Element j of block i. -/
theorem getElem?_flatMap_block (hf : ∀ a, (f a).length = n) {l : List α} {i : Nat} {a : α} (h : l[i]? = some a)
    {j : Nat} (hj : j < n) : (l.flatMap f)[n * i + j]? = (f a)[j]? := by
  rw [← take_drop_flatMap hf h, List.getElem?_take_of_lt hj, List.getElem?_drop]

end Blocks

/-! ### The counters in index order (R155) -/

section CounterOrder

theorem Dest.all_number (d : Dest) : Dest.all[d.number]? = some d := by
  rcases d with _ | p
  · rfl
  · cases p <;> rfl

theorem Port.all_number (p : Port) : Port.all[p.number - 1]? = some p := by cases p <;> rfl

/-- R164: the counters of an endpoint in the order of their indices. -/
def EndpointCounters.block (e : EndpointCounters) : List (BitVec 32) :=
  [e.good, e.checkError, e.malformed, e.transmitted, e.queueFull, e.noBuffer, e.linkDown, e.lateDrop]

/-- R164: the counters of a port in the order of their indices. -/
def PortCounters.block (q : PortCounters) : List (BitVec 32) := [q.grants, q.sheds, q.trips]

theorem EndpointCounters.block_length (e : EndpointCounters) : e.block.length = 8 := rfl

theorem PortCounters.block_length (q : PortCounters) : q.block.length = 3 := rfl

variable (c : Counters)

theorem Counters.toList_eq :
    c.toList = c.endpoint.toList.flatMap EndpointCounters.block ++ (c.port.toList.flatMap PortCounters.block
      ++ [c.changeovers, c.sourceFailures, c.syncLosses, c.overruns]) :=
  List.append_assoc _ _ _

theorem Counters.endpoints_length : (c.endpoint.toList.flatMap EndpointCounters.block).length = 72 := rfl

theorem Counters.ports_length : (c.port.toList.flatMap PortCounters.block).length = 24 := rfl

theorem Counters.toList_length : c.toList.length = 100 := rfl

/-- R155: the counters of endpoint e stand at indices 8e onward. -/
theorem Counters.toList_endpoint (d : Dest) {j : Nat} (hj : j < 8) :
    c.toList[8 * d.number + j]? = (c.endpoint.get d).block[j]? := by
  have hd : d.number < 9 := by
    have hall := Dest.all_number d
    exact (List.getElem?_eq_some_iff.1 hall).1
  have hget : c.endpoint.toList[d.number]? = some (c.endpoint.get d) := by
    rw [PerDest.toList, List.getElem?_map, Dest.all_number, Option.map_some]
  rw [c.toList_eq, List.getElem?_append_left (by rw [c.endpoints_length]; omega)]
  exact getElem?_flatMap_block EndpointCounters.block_length hget hj

/-- R155: those of port n stand at 72 + 3 (n - 1) onward. -/
theorem Counters.toList_port (p : Port) {j : Nat} (hj : j < 3) :
    c.toList[72 + (3 * (p.number - 1) + j)]? = (c.port.get p).block[j]? := by
  have hp : p.number - 1 < 8 := by
    have hall := Port.all_number p
    exact (List.getElem?_eq_some_iff.1 hall).1
  have hget : c.port.toList[p.number - 1]? = some (c.port.get p) := by
    rw [PerPort.toList, List.getElem?_map, Port.all_number, Option.map_some]
  rw [c.toList_eq, List.getElem?_append_right (by rw [c.endpoints_length]; omega), c.endpoints_length,
    Nat.add_sub_cancel_left, List.getElem?_append_left (by rw [c.ports_length]; omega)]
  exact getElem?_flatMap_block PortCounters.block_length hget hj

end CounterOrder

/-! ### The responses of a dump (R149, R154, R155) -/

section Dump

variable (c : Counters)

theorem be32_length (v : BitVec 32) : (be32 v.toNat).length = 4 := rfl

theorem dumpPayload_length (k : Nat) : (dumpPayload c k).length = 4 * min 12 (100 - 12 * k) := by
  rw [dumpPayload, length_flatMap_of_length be32_length, List.length_take, List.length_drop, c.toList_length]

/-- R149: the nine responses in their order. -/
theorem dumpPayloads_eq : dumpPayload c 0 :: dumpRest c = (List.range 9).map (dumpPayload c) := by
  rw [List.range_succ_eq_map, List.map_cons, List.map_map]
  rfl

/-- R149: the first n responses carry the first 12 n counters. -/
theorem dumpPayloads_flatten (n : Nat) :
    ((List.range n).map (dumpPayload c)).flatten = (c.toList.take (12 * n)).flatMap fun v => be32 v.toNat := by
  induction n with
  | zero => rfl
  | succ n ih =>
    rw [List.range_succ, List.map_append, List.flatten_append, ih, Nat.mul_succ, List.take_add, List.flatMap_append]
    simp [dumpPayload]

/-- R149: each counter of a response, four bytes in its place. -/
theorem dumpPayload_counter {k j : Nat} {v : BitVec 32} (hj : j < 12) (h : c.toList[12 * k + j]? = some v) :
    ((dumpPayload c k).drop (4 * j)).take 4 = be32 v.toNat :=
  take_drop_flatMap be32_length (by rw [List.getElem?_take_of_lt hj, List.getElem?_drop, h])

end Dump

section DumpEffect

variable {s : State}

theorem EndpointCounters.addLinkDown_addLinkDown (m n : Nat) (e : EndpointCounters) :
    (e.addLinkDown m).addLinkDown n = e.addLinkDown (m + n) := by
  simp [EndpointCounters.addLinkDown, BitVec.add_assoc, BitVec.ofNat_add]

/-- R149: a dump with U UP places its first response and holds the others in hand. -/
theorem State.beginDump_of_up (h : s.linkState .u = .up) (c : Counters) :
    s.beginDump c = { s with mgmt := { s.mgmt with
      lane := s.mgmt.lane ++ [.response 37 (dumpPayload c 0) none], inHand := .dump (dumpRest c) } } := by
  rw [State.beginDump, State.placeResponse, if_pos h, State.dumpOthers]
  exact if_pos h

/-- R149: a dump with U not UP discards nine responses. -/
theorem State.beginDump_of_not_up (h : s.linkState .u ≠ .up) (c : Counters) :
    s.beginDump c = s.countEndpoint .u (EndpointCounters.addLinkDown 9) := by
  rw [State.beginDump, State.placeResponse, if_neg h, State.dumpOthers]
  refine (if_neg h).trans ?_
  exact congrArg (s.countEndpoint .u ·) (funext (EndpointCounters.addLinkDown_addLinkDown 1 8))

/-- R149: a further response. -/
theorem State.dumpNext_of_room {x : List Byte} {left : List (List Byte)} (hhand : s.mgmt.inHand = .dump (x :: left))
    (hup : s.linkState .u = .up) (hroom : s.mgmt.lane.length < 4) :
    s.dumpNext = { s with mgmt := { s.mgmt with
      lane := s.mgmt.lane ++ [.response 37 x none], inHand := if left = [] then .nothing else .dump left } } := by
  have hgo : s.dumpMayGo = true := by simp [State.dumpMayGo, hup, hroom, Config.laneSize]
  have hafter : InHand.afterPlacing left = if left = [] then .nothing else .dump left := by cases left <;> rfl
  rw [State.dumpNext, hhand]
  refine (if_pos hgo).trans ?_
  rw [State.placeResponse]
  refine (if_pos hup).trans ?_
  rw [hafter]
  rfl

theorem State.dumpNext_of_waiting (h : s.linkState .u ≠ .up ∨ 4 ≤ s.mgmt.lane.length) : s.dumpNext = s := by
  have hgo : ¬s.dumpMayGo = true := by
    simp only [State.dumpMayGo, Bool.and_eq_true, decide_eq_true_eq]
    rintro ⟨hup, hroom⟩
    rcases h with h | h
    · exact h hup
    · exact absurd hroom (Nat.not_lt.2 h)
  rw [State.dumpNext]
  split
  · exact if_neg hgo
  · rfl

end DumpEffect

/-- Settles O59. -/
theorem counterDump : Obligations.CounterDump := by
  refine ⟨fun c d p => ?order, fun c => ⟨c.toList_length, rfl, ?_, ?_⟩, fun c k hlow hhigh => ?response, ?requests,
    fun s x left hpin hhand => ⟨fun hup hroom => event_of_running hpin (State.dumpNext_of_room hhand hup hroom),
      fun hwait => event_of_running hpin (State.dumpNext_of_waiting hwait)⟩⟩
  case order =>
    have hend := fun j => c.toList_endpoint d (j := j)
    have hport := fun j => c.toList_port p (j := j)
    exact ⟨hend 0 (by decide), hend 1 (by decide), hend 2 (by decide), hend 3 (by decide), hend 4 (by decide),
      hend 5 (by decide), hend 6 (by decide), hend 7 (by decide), hport 0 (by decide), hport 1 (by decide),
      hport 2 (by decide), rfl⟩
  · exact dumpPayload_length c 0
  · have hall := dumpPayloads_flatten c 9
    rw [← dumpPayloads_eq, List.take_of_length_le (by rw [c.toList_length]; decide)] at hall
    exact hall
  case response =>
    refine ⟨dumpPayload c (k - 1), ?_, ?_, fun j v hj hv => dumpPayload_counter c hj hv⟩
    · rw [dumpPayloads_eq, List.getElem?_map, List.getElem?_range (by omega), Option.map_some]
    · rw [dumpPayload_length]
      split <;> omega
  case requests =>
    rintro s u ⟨code, payload⟩ rest he hu hcode hlength
    subst hu
    obtain rfl : code = 37 := hcode
    have hrow : (⟨37, payload⟩ : Request).row =
        if byteAt payload 0 = 1 then .dumpCountersWithClear else .dumpCounters := by
      simp [Request.row, show payload.length = 1 from hlength]
    have plain : byteAt payload 0 ≠ 1 → ∀ {t}, (s.popped rest).dumpPlain ⟨37, payload⟩ = t →
        exec .dumpCounters s = .next t.selectAll := fun hform t ht =>
      ht ▸ State.serve_of_executes he (by rw [hrow, if_neg hform]) (Request.lengthOk_of rfl hlength)
    have clear : byteAt payload 0 = 1 → ∀ {t}, (s.popped rest).dumpClear = t →
        exec .dumpCountersWithClear s = .next t.selectAll := fun hform t ht =>
      ht ▸ State.serve_of_executes he (by rw [hrow, if_pos hform]) (Request.lengthOk_of rfl hlength)
    have hzero : byteAt payload 0 = 0 → byteAt payload 0 ≠ 1 := fun h => by rw [h]; decide
    refine ⟨fun hform => plain (Nat.ne_of_gt hform) (if_neg (Nat.ne_of_gt (Nat.lt_trans Nat.zero_lt_one hform))),
      fun hform hup => plain (hzero hform) ?_, fun hform hup => plain (hzero hform) ?_,
      fun hform hup => clear hform ?_, fun hform hup => clear hform ?_⟩
    · exact (if_pos hform).trans (State.beginDump_of_up (s := s.popped rest) hup _)
    · exact (if_pos hform).trans (State.beginDump_of_not_up (s := s.popped rest) hup _)
    · exact State.beginDump_of_up (s := { s.popped rest with counters := Counters.zero }) hup _
    · exact State.beginDump_of_not_up (s := { s.popped rest with counters := Counters.zero }) hup _

/-! ### TRAFFIC RESET (R122, R123, R150) -/

section TrafficReset

variable {s : State}

/-- R144: a TRAFFIC RESET begins however full the lane is. -/
theorem exec_trafficReset {rest : List Request} {payload : List Byte} (hpin : s.resetPin = false)
    (hinput : s.mgmt.input = ⟨48, payload⟩ :: rest) (hhand : s.mgmt.inHand = .nothing) (hlength : payload.length = 0) :
    exec .trafficReset s = .next ((s.popped rest).trafficReset ⟨48, payload⟩).selectAll := by
  have hrow : (⟨48, payload⟩ : Request).row = .trafficReset := rfl
  have hok : (⟨48, payload⟩ : Request).lengthOk = true := Request.lengthOk_of rfl hlength
  have hmay : s.mayBegin ⟨48, payload⟩ = true := by
    rw [State.mayBegin, hrow, hok, hhand]
    simp
  refine event_of_running (f := State.serve .trafficReset State.trafficReset) hpin ?_
  simp only [State.serve, hinput, hrow, hmay, hok, and_self, if_true]
  rfl

variable (s)

theorem State.portsToWait_port (p : Port) : s.portsToWait.links.get (.port p) = (s.links.get (.port p)).toWait :=
  PerPort.get_ofFn _ p

theorem State.portsToWait_uLink : s.portsToWait.links.get .u = s.links.get .u := rfl

theorem State.trafficEmptied_link (d : Dest) : s.trafficEmptied.links.get d = (s.links.get d).cleared :=
  PerDest.get_ofFn _ d

theorem Link.toWait_flowSlot (l : Link) : l.toWait.flowSlot = l.flowSlot := by
  unfold Link.toWait
  split <;> rfl

theorem Link.toWait_markSlot (l : Link) : l.toWait.markSlot = l.markSlot := by
  unfold Link.toWait
  split <;> rfl

theorem Link.toWait_of_not_down {l : Link} (h : l.state ≠ .down) :
    l.toWait.state = .wait ∧ l.toWait.receivedHold = false := by
  rw [Link.toWait, if_neg h]
  exact ⟨rfl, rfl⟩

theorem State.resetTraffic_links : s.resetTraffic.links = (s.trafficEmptied.restarted .resume).links := by
  rw [State.resetTraffic_eq]
  split <;> rfl

/-- R122: a link once its traffic is gone and RESUME is posted. -/
theorem State.restartedFlow_link (d : Dest) :
    (s.trafficEmptied.postFlowAll .resume).links.get d =
      { (s.links.get d).cleared with flowSlot := if s.linkState d = .up then some .resume else none } := by
  rw [State.postFlowAll_link, State.trafficEmptied_linkState, State.trafficEmptied_link]
  split <;> rfl

/-- R122, R123: what a TRAFFIC RESET leaves on U. -/
theorem State.resetTraffic_uLink :
    s.resetTraffic.links.get .u =
      { (s.links.get .u).cleared with flowSlot := if s.linkState .u = .up then some .resume else none } := by
  rw [State.resetTraffic_links, State.restarted, State.portsToWait_uLink, State.restartedFlow_link]

/-- R122, R123: what a TRAFFIC RESET leaves on a port link. -/
theorem State.resetTraffic_portLink (p : Port) :
    s.resetTraffic.links.get (.port p) =
      Link.toWait { (s.links.get (.port p)).cleared with
        flowSlot := if s.linkState (.port p) = .up then some .resume else none } := by
  rw [State.resetTraffic_links, State.restarted, State.portsToWait_port, State.restartedFlow_link]

/-- R122: no transmission and no MARK stand on any link, and RESUME where it was UP. -/
theorem State.resetTraffic_link (d : Dest) :
    (s.resetTraffic.links.get d).tx = none ∧ (s.resetTraffic.links.get d).markSlot = none ∧
      (s.resetTraffic.links.get d).flowSlot = if s.linkState d = .up then some .resume else none := by
  cases d with
  | u =>
    rw [State.resetTraffic_uLink]
    exact ⟨rfl, rfl, rfl⟩
  | port p =>
    rw [State.resetTraffic_portLink, Link.toWait_tx, Link.toWait_markSlot, Link.toWait_flowSlot]
    exact ⟨rfl, rfl, rfl⟩

theorem State.restarted_frame (k : FlowKind) : (s.restarted k).SameBut [.links] s :=
  (State.portsToWait_frame _).comp (s.postFlowAll_frame k) fun _ h => h

theorem State.resetTraffic_restarted :
    s.resetTraffic.SameBut [.events] (s.trafficEmptied.restarted .resume) := by
  rw [State.resetTraffic_eq]
  split
  · exact State.noticeLost_frame _
  · exact .refl _ _

/-- R122: stored traffic is gone and the pool is CLEAR. -/
theorem State.resetTraffic_stored :
    s.resetTraffic.queues = PerDest.rep Queues.reset ∧
      s.resetTraffic.records = List.replicate Config.records none ∧ s.resetTraffic.held = false := by
  have hemptied : s.resetTraffic.SameBut [.links, .events] s.trafficEmptied :=
    (s.resetTraffic_restarted.weaken (by decide)).comp ((s.trafficEmptied.restarted_frame .resume).weaken (by decide))
      fun _ h => h
  have hqueues : s.resetTraffic.queues = s.trafficEmptied.queues := hemptied .queues (by decide)
  have hrecords : s.resetTraffic.records = s.trafficEmptied.records := hemptied .records (by decide)
  have hheld : s.resetTraffic.held = s.trafficEmptied.held := hemptied .held (by decide)
  exact ⟨hqueues.trans s.trafficEmptied_queues, hrecords.trans s.trafficEmptied_records,
    hheld.trans s.trafficEmptied_held⟩

/-- R122: a NOTICE in flight becomes pending again. -/
theorem State.resetTraffic_events :
    s.resetTraffic.events =
      if s.noticeInFlight then { s.events with noticePending := true } else s.events := by
  have hevents : (s.trafficEmptied.restarted .resume).events = s.events :=
    s.trafficEmptied.restarted_frame .resume .events (by decide)
  rw [State.resetTraffic_eq]
  split
  · rw [State.noticeLost, hevents]
  · exact hevents

theorem State.resetTraffic_marks (i : Item) : s.resetTraffic.events.marks i = s.events.marks i := by
  rw [State.resetTraffic_events]
  split <;> cases i <;> rfl

theorem State.placeNotice_marks (i : Item) : s.placeNotice.events.marks i = s.events.marks i := by
  unfold State.placeNotice
  split <;> cases i <;> rfl

theorem State.placeNotice_input : s.placeNotice.mgmt.input = s.mgmt.input := by
  unfold State.placeNotice
  split <;> rfl

theorem State.placeResponse_input (code : Byte) (b : List Byte) (report : Option Report) :
    (s.placeResponse code b report).mgmt.input = s.mgmt.input := by
  unfold State.placeResponse
  split <;> rfl

/-- R150: after the traffic is gone the response and the notice are placed. -/
theorem State.trafficReset_frame (r : Request) :
    (s.trafficReset r).SameBut [.mgmt, .events, .counters] s.resetTraffic :=
  ((State.placeNotice_frame _).weaken (by decide)).comp ((State.placeResponse_frame _ _ _ _).weaken (by decide))
    fun _ h => h

theorem State.trafficReset_input (r : Request) : (s.trafficReset r).mgmt.input = s.mgmt.input := by
  rw [State.trafficReset, State.placeNotice_input, State.reply, State.placeResponse_input, State.resetTraffic_mgmt]

theorem State.trafficReset_marks (r : Request) (i : Item) :
    (s.trafficReset r).events.marks i = s.events.marks i := by
  have hreply : (s.resetTraffic.reply r .ok).events = s.resetTraffic.events :=
    State.placeResponse_frame _ _ _ _ .events (by decide)
  rw [State.trafficReset, State.placeNotice_marks, hreply, State.resetTraffic_marks]

theorem State.resetTraffic_uState : s.resetTraffic.linkState .u = s.linkState .u := by
  rw [State.linkState, State.resetTraffic_uLink]
  rfl

theorem State.resetTraffic_counters : s.resetTraffic.counters = s.counters :=
  s.resetTraffic_frame .counters (by decide)

variable {s}

/-- R150: with U UP the lane holds the response and, where the notice is pending, the NOTICE behind it (log 25). -/
theorem State.trafficReset_of_up (hup : s.linkState .u = .up) (r : Request) :
    (s.trafficReset r).mgmt.lane = .response r.code [0] none ::
      (if s.resetTraffic.events.noticePending then [.notice] else []) ∧
    (s.trafficReset r).counters = s.counters := by
  have hwup : s.resetTraffic.linkState .u = .up := s.resetTraffic_uState.trans hup
  have hreply : s.resetTraffic.reply r .ok =
      s.resetTraffic.modMgmt fun m => { m with lane := m.lane ++ [.response r.code [0] none] } := if_pos hwup
  have hlane : (s.resetTraffic.reply r .ok).mgmt.lane = [.response r.code [0] none] := by
    rw [hreply, State.modMgmt, State.resetTraffic_mgmt]
    rfl
  have hstate : (s.resetTraffic.reply r .ok).linkState .u = .up := by rw [hreply]; exact hwup
  have hevents : (s.resetTraffic.reply r .ok).events = s.resetTraffic.events := by rw [hreply]; rfl
  have hcounters : (s.resetTraffic.reply r .ok).counters = s.counters := by
    rw [hreply]; exact s.resetTraffic_counters
  have hgo : (s.resetTraffic.reply r .ok).noticeMayGo = s.resetTraffic.events.noticePending := by
    rw [Bool.eq_iff_iff, State.noticeMayGo_iff, hlane, hstate, hevents]
    simp
  refine ⟨?_, Eq.trans (State.placeNotice_frame _ .counters (by decide)) hcounters⟩
  rw [State.trafficReset, State.placeNotice, hgo]
  split
  · rw [hlane]
    rfl
  · exact hlane

/-- R150: with U not UP the response is discarded and no NOTICE is placed. -/
theorem State.trafficReset_of_not_up (hup : s.linkState .u ≠ .up) (r : Request) :
    (s.trafficReset r).mgmt.lane = [] ∧
    (s.trafficReset r).counters = (s.countEndpoint .u (EndpointCounters.addLinkDown 1)).counters := by
  have hwup : s.resetTraffic.linkState .u ≠ .up := by rw [State.resetTraffic_uState]; exact hup
  have hreply : s.resetTraffic.reply r .ok =
      s.resetTraffic.countEndpoint .u (EndpointCounters.addLinkDown 1) := if_neg hwup
  have hstay : (s.resetTraffic.reply r .ok).placeNotice = s.resetTraffic.reply r .ok := if_neg fun hgo => by
    obtain ⟨-, hstate, -⟩ := State.noticeMayGo_iff.1 hgo
    rw [hreply] at hstate
    exact hwup hstate
  rw [State.trafficReset, hstay, hreply]
  refine ⟨by rw [State.countEndpoint_mgmt, State.resetTraffic_mgmt], ?_⟩
  rw [State.countEndpoint, State.resetTraffic_counters]
  rfl

theorem State.freeRecords_of_empty (h : s.records = List.replicate Config.records none) : s.freeRecords = 64 := by
  rw [State.freeRecords, h]
  rfl

/-- R123: a port link that is not DOWN is taken to WAIT. -/
theorem State.resetTraffic_portState (p : Port) :
    (s.linkState (.port p) = .down → s.resetTraffic.linkState (.port p) = .down) ∧
    (s.linkState (.port p) ≠ .down → s.resetTraffic.linkState (.port p) = .wait ∧
      (s.resetTraffic.links.get (.port p)).receivedHold = false) := by
  rw [State.linkState, State.linkState, State.resetTraffic_portLink]
  exact ⟨fun hdown => (Link.toWait_down _).2 hdown, fun hdown => Link.toWait_of_not_down hdown⟩

end TrafficReset

/-! ### FULL RESET (R151) -/

section FullReset

variable {s : State}

theorem State.fullReset_of_up (hup : s.linkState .u = .up) (r : Request) :
    s.fullReset r = { s with mgmt := { s.mgmt with
      lane := s.mgmt.lane ++ [.response r.code [0] none], inHand := .fullReset } } :=
  (if_pos hup).trans (if_pos hup)

/-- R151: while U is not UP the reset takes effect at once. -/
theorem State.fullReset_of_not_up (hpin : s.resetPin = false) (hup : s.linkState .u ≠ .up) (hcut : s.ecutPin = false)
    (r : Request) : s.fullReset r = State.afterReset s.pending s.now s.draws false false := by
  let y : State := s.modMgmt fun m => { m with inHand := .fullReset }
  have hreply : y.reply r .ok = y.countEndpoint .u (EndpointCounters.addLinkDown 1) := if_neg hup
  calc s.fullReset r = (y.reply r .ok).hubReset := if_neg hup
    _ = (y.countEndpoint .u (EndpointCounters.addLinkDown 1)).hubReset := by rw [hreply]
    _ = State.afterReset s.pending s.now s.draws s.resetPin s.ecutPin := State.hubReset_of_no_cut fun _ => hcut
    _ = State.afterReset s.pending s.now s.draws false false := by rw [hpin, hcut]

end FullReset

/-- Settles O60. -/
theorem resetRequests : Obligations.ResetRequests := by
  refine ⟨?traffic, ?full⟩
  case traffic =>
    rintro s ⟨code, payload⟩ rest hpin hinput hhand hcode hlength
    obtain rfl : code = 48 := hcode
    have hframe := (s.popped rest).trafficReset_frame ⟨48, payload⟩
    have hlinks : ((s.popped rest).trafficReset ⟨48, payload⟩).links = (s.popped rest).resetTraffic.links :=
      hframe .links (by decide)
    have hrecords : ((s.popped rest).trafficReset ⟨48, payload⟩).records = (s.popped rest).resetTraffic.records :=
      hframe .records (by decide)
    have hqueues : ((s.popped rest).trafficReset ⟨48, payload⟩).queues = (s.popped rest).resetTraffic.queues :=
      hframe .queues (by decide)
    obtain ⟨hq, hr, hh⟩ := (s.popped rest).resetTraffic_stored
    have hpopped : (s.popped rest).SameBut [.mgmt] s := by
      intro x hx; cases x <;> first | exact absurd (by decide) hx | rfl
    have hstate : ∀ d, ((s.popped rest).trafficReset ⟨48, payload⟩).linkState d =
        (s.popped rest).resetTraffic.linkState d := fun d => congrArg (fun l => (l.get d).state) hlinks
    refine ⟨_, exec_trafficReset hpin hinput hhand hlength, State.trafficReset_input _ _,
      Eq.trans (hframe .held (by decide)) hh, State.freeCells_of_empty (hrecords.trans hr),
      State.freeRecords_of_empty (hrecords.trans hr), fun d => ?_, ?_, ?_, fun p => ?_, fun hup => ?_, fun hup => ?_,
      State.trafficReset_marks _ _, ?_⟩
    · rw [hlinks, hqueues, hq, PerDest.get_rep]
      exact ⟨rfl, (s.popped rest).resetTraffic_link d⟩
    · exact (hstate .u).trans (s.popped rest).resetTraffic_uState
    · rw [hlinks, State.resetTraffic_uLink]
      rfl
    · rw [hstate, hlinks]
      exact (s.popped rest).resetTraffic_portState p
    · obtain ⟨hlane, hcounters⟩ := State.trafficReset_of_up (s := s.popped rest) hup ⟨48, payload⟩
      rw [hlane, State.resetTraffic_events]
      refine ⟨fun hflight hpending => ?_, fun hflight => ?_, hcounters⟩
      · rw [if_neg (c := (s.popped rest).noticeInFlight = true) (Bool.eq_false_iff.1 hflight)]
        exact congrArg _ (if_neg (Bool.eq_false_iff.1 hpending))
      · rw [if_pos (c := (s.popped rest).noticeInFlight = true) hflight]
        rfl
    · exact State.trafficReset_of_not_up (s := s.popped rest) hup ⟨48, payload⟩
    · exact ((hframe.weaken (by decide)).comp (((s.popped rest).resetTraffic_frame.weaken (by decide)).comp
        (hpopped.weaken (by decide)) fun _ h => h) fun _ h => h)
  case full =>
    rintro s u ⟨code, payload⟩ rest he hu hcode hlength
    subst hu
    obtain rfl : code = 49 := hcode
    have run : ∀ {t : State}, (s.popped rest).fullReset ⟨49, payload⟩ = t → exec .fullReset s = .next t.selectAll :=
      fun ht => ht ▸ State.serve_of_executes he rfl (Request.lengthOk_of rfl hlength)
    refine ⟨fun hup => run ?_, fun hup hcut => ?_⟩
    · exact State.fullReset_of_up (s := s.popped rest) hup _
    · have hreset : (s.popped rest).fullReset ⟨49, payload⟩ = State.afterReset s.pending s.now s.draws false false :=
        State.fullReset_of_not_up (s := s.popped rest) he.1 hup hcut _
      rw [run hreset, State.selectAll_of_settled _ (State.afterReset_settled _ _ _ _ _)]

end Sys2Proof.Machine

namespace Sys2Proof.Machine

open Sys2Proof

/-! ### Codes of sources, classes and ports (R154) -/

section Codes

variable {n : Nat}

theorem sourceOfCode_eq_some {src : Source} : sourceOfCode n = some src ↔ n = src.code := by
  constructor
  · intro h
    unfold sourceOfCode at h
    split at h <;> cases h <;> rfl
  · rintro rfl
    cases src <;> rfl

theorem sourceOfCode_eq_none : sourceOfCode n = none ↔ n = 0 ∨ 2 < n := by
  constructor
  · intro h
    by_contra hn
    obtain rfl | rfl : n = 1 ∨ n = 2 := by omega
    all_goals cases h
  · intro h
    refine Option.eq_none_iff_forall_ne_some.2 fun src hsrc => ?_
    have hn := sourceOfCode_eq_some.1 hsrc
    cases src <;> simp only [Source.code] at hn <;> omega

theorem ClassNo.ofNumber_eq_some {c : ClassNo} : ClassNo.ofNumber n = some c ↔ n = c.number := by
  constructor
  · intro h
    unfold ClassNo.ofNumber at h
    split at h <;> cases h <;> rfl
  · rintro rfl
    exact c.ofNumber_number

theorem ClassNo.number_le (c : ClassNo) : c.number ≤ 7 := by cases c <;> decide

theorem ClassNo.ofNumber_eq_none : ClassNo.ofNumber n = none ↔ 7 < n := by
  constructor
  · intro h
    by_contra hn
    have hle : n ≤ 7 := Nat.not_lt.1 hn
    interval_cases n <;> cases h
  · intro h
    refine Option.eq_none_iff_forall_ne_some.2 fun c hc => ?_
    have hn := ClassNo.ofNumber_eq_some.1 hc
    have hle := ClassNo.number_le c
    omega

theorem Port.ofNumber_eq_some {p : Port} : Port.ofNumber n = some p ↔ n = p.number := by
  constructor
  · intro h
    unfold Port.ofNumber at h
    split at h <;> cases h <;> rfl
  · rintro rfl
    exact p.ofNumber_number

theorem Port.ofNumber_eq_none : Port.ofNumber n = none ↔ n = 0 ∨ 8 < n := by
  constructor
  · intro h
    by_contra hn
    have hrange : 1 ≤ n ∧ n ≤ 8 := by omega
    obtain ⟨hlow, hhigh⟩ := hrange
    interval_cases n <;> cases h
  · exact Port.ofNumber_of_out_of_range

end Codes

section Results

variable {α : Type} {c : Prop} [Decidable c] {x y : α} {e e' : Status}

theorem ite_eq_error_iff : (if c then Except.ok x else .error e : Except Status α) = .error e' ↔ ¬c ∧ e = e' := by
  split <;> simp [*]

theorem ite_eq_ok_iff : (if c then Except.ok x else .error e : Except Status α) = .ok y ↔ c ∧ x = y := by
  split <;> simp [*]

end Results

/-! ### LOAD SOURCE (R5) -/

section Source

variable {p : List Byte}

theorem ascending_iff (l : List CurvePoint) :
    ascending l = true ↔ ∀ i (h : i + 1 < l.length), l[i].volts < l[i + 1].volts := by
  rw [← List.isChain_iff_getElem (R := fun a b : CurvePoint => a.volts < b.volts)]
  induction l with
  | nil => simp [ascending]
  | cons a l ih =>
    cases l with
    | nil => simp [ascending]
    | cons b l => simp [ascending, ih]

/-- R5: the checks of a record. -/
theorem SourceRecord.valid_iff (x : SourceRecord) :
    x.valid = true ↔ 2 ≤ x.curve.length ∧ x.curve.length ≤ 6 ∧
      (∀ i (h : i + 1 < x.curve.length), x.curve[i].volts < x.curve[i + 1].volts) ∧
      (∀ q ∈ x.curve, q.percent ≤ 100 ∧ q.volts ≤ 40950) ∧
      x.cutoff ≤ 40950 ∧ x.hysteresis ≤ 2000 ∧ x.overVoltage ≤ 40950 ∧ x.cutoff + x.hysteresis < x.overVoltage := by
  simp only [SourceRecord.valid, Bool.and_eq_true, decide_eq_true_eq, List.all_eq_true, ascending_iff, and_assoc]

/-- R5: the checks of a record as the payload gives them. -/
theorem sourceRecordOf_valid :
    (sourceRecordOf p).valid = true ↔ 2 ≤ byteAt p 13 ∧ byteAt p 13 ≤ 6 ∧
      (∀ i, i + 1 < byteAt p 13 → wordAt p (14 + 3 * i) < wordAt p (17 + 3 * i)) ∧
      (∀ i, i < byteAt p 13 → byteAt p (16 + 3 * i) ≤ 100 ∧ wordAt p (14 + 3 * i) ≤ 40950) ∧
      wordAt p 1 ≤ 40950 ∧ wordAt p 3 ≤ 2000 ∧ wordAt p 5 ≤ 40950 ∧ wordAt p 1 + wordAt p 3 < wordAt p 5 := by
  have hnext : ∀ i, 14 + 3 * (i + 1) = 17 + 3 * i := fun i => by omega
  rw [SourceRecord.valid_iff]
  simp [sourceRecordOf, hnext]

theorem parseSource_of_source {src : Source} (h : byteAt p 0 = src.code) :
    parseSource p = if (sourceRecordOf p).valid then .ok (src, sourceRecordOf p) else .error .badValue := by
  rw [parseSource, sourceOfCode_eq_some.2 h]

theorem parseSource_of_none (h : sourceOfCode (byteAt p 0) = none) : parseSource p = .error .badIndex := by
  rw [parseSource, h]

theorem parseSource_badIndex : byteAt p 0 = 0 ∨ 2 < byteAt p 0 ↔ parseSource p = .error .badIndex := by
  rw [← sourceOfCode_eq_none]
  refine ⟨parseSource_of_none, fun h => ?_⟩
  cases hsrc : sourceOfCode (byteAt p 0) with
  | none => rfl
  | some src =>
    rw [parseSource_of_source (sourceOfCode_eq_some.1 hsrc), ite_eq_error_iff] at h
    exact absurd h.2 (by decide)

theorem parseSource_badValue (hlow : 1 ≤ byteAt p 0) (hhigh : byteAt p 0 ≤ 2) :
    (byteAt p 13 < 2 ∨ 6 < byteAt p 13 ∨
        (∃ i, i + 1 < byteAt p 13 ∧ wordAt p (17 + 3 * i) ≤ wordAt p (14 + 3 * i)) ∨
        (∃ i, i < byteAt p 13 ∧ (100 < byteAt p (16 + 3 * i) ∨ 40950 < wordAt p (14 + 3 * i))) ∨
        40950 < wordAt p 1 ∨ 2000 < wordAt p 3 ∨ 40950 < wordAt p 5 ∨ wordAt p 5 ≤ wordAt p 1 + wordAt p 3) ↔
      parseSource p = .error .badValue := by
  obtain ⟨src, hsrc⟩ : ∃ src, sourceOfCode (byteAt p 0) = some src := by
    refine Option.ne_none_iff_exists'.1 fun hnone => ?_
    have hrange := sourceOfCode_eq_none.1 hnone
    omega
  rw [parseSource_of_source (sourceOfCode_eq_some.1 hsrc), ite_eq_error_iff, sourceRecordOf_valid]
  simp only [not_and_or, not_forall, Nat.not_le, Nat.not_lt, exists_prop, and_true]

theorem parseSource_error {e : Status} (h : parseSource p = .error e) : e = .badIndex ∨ e = .badValue := by
  cases hsrc : sourceOfCode (byteAt p 0) with
  | none =>
    rw [parseSource_of_none hsrc] at h
    cases h
    exact .inl rfl
  | some src =>
    rw [parseSource_of_source (sourceOfCode_eq_some.1 hsrc), ite_eq_error_iff] at h
    exact .inr h.2.symm

theorem parseSource_ok {src : Source} {x : SourceRecord} (h : parseSource p = .ok (src, x)) :
    src.code = byteAt p 0 ∧ x = sourceRecordOf p := by
  cases hsrc : sourceOfCode (byteAt p 0) with
  | none =>
    rw [parseSource_of_none hsrc] at h
    cases h
  | some y =>
    have hcode := sourceOfCode_eq_some.1 hsrc
    rw [parseSource_of_source hcode, ite_eq_ok_iff] at h
    obtain ⟨-, h⟩ := h
    cases h
    exact ⟨hcode.symm, rfl⟩

end Source

/-! ### LOAD TIMING (R125) -/

section Timing

variable {p : List Byte}

theorem PerDest.toList_all {α : Type} (x : PerDest α) (f : α → Bool) : x.toList.all f = true ↔ ∀ d, f (x.get d) = true := by
  simp [PerDest.toList, Dest.mem_all]

/-- R125: the checks of a timing record. -/
def TimingChecks (p : List Byte) : Prop :=
  10000 ≤ wordAt p 0 ∧ wordAt p 0 ≤ 50000 ∧ 10000 ≤ wordAt p 2 ∧ wordAt p 2 ≤ 50000 ∧ 10000 ≤ wordAt p 4 ∧
    wordAt p 4 ≤ 50000 ∧ wordAt p 2 ≤ wordAt p 4 ∧ 1 ≤ byteAt p 6 ∧ ∀ d : Dest, byteAt p (25 + d.number) ≤ 15

/-- The record of a LOAD TIMING. -/
def timingRecordOf (p : List Byte) : TimingRecord :=
  ⟨wordAt p 0, wordAt p 2, wordAt p 4, byteAt p 6, PerDest.ofFn fun d => byteAt p (25 + d.number)⟩

/-- The shadow phases of a LOAD TIMING. -/
def shadowOf (p : List Byte) : PerDest Nat := PerDest.ofFn fun d => wordAt p (7 + 2 * d.number)

theorem parseTiming_of_checks (h : TimingChecks p) : parseTiming p = .ok (timingRecordOf p, shadowOf p) := by
  refine if_pos ?_
  simpa only [Bool.and_eq_true, decide_eq_true_eq, PerDest.toList_all, PerDest.get_ofFn, TimingChecks, and_assoc] using h

theorem parseTiming_of_not_checks (h : ¬TimingChecks p) : parseTiming p = .error .badValue := by
  refine if_neg ?_
  simpa only [Bool.and_eq_true, decide_eq_true_eq, PerDest.toList_all, PerDest.get_ofFn, TimingChecks, and_assoc] using h

theorem parseTiming_error_iff {e : Status} : parseTiming p = .error e ↔ ¬TimingChecks p ∧ e = .badValue := by
  by_cases hchecks : TimingChecks p
  · rw [parseTiming_of_checks hchecks]
    exact ⟨fun h => (by cases h), fun ⟨hnot, _⟩ => absurd hchecks hnot⟩
  · rw [parseTiming_of_not_checks hchecks, Except.error.injEq, eq_comm]
    exact (and_iff_right hchecks).symm

theorem parseTiming_badValue :
    (wordAt p 0 < 10000 ∨ 50000 < wordAt p 0 ∨ wordAt p 2 < 10000 ∨ 50000 < wordAt p 2 ∨ wordAt p 4 < 10000 ∨
      50000 < wordAt p 4 ∨ wordAt p 4 < wordAt p 2 ∨ byteAt p 6 = 0 ∨
      (∃ d : Dest, 15 < byteAt p (25 + d.number))) ↔ parseTiming p = .error .badValue := by
  have hzero : ¬1 ≤ byteAt p 6 ↔ byteAt p 6 = 0 := by omega
  rw [parseTiming_error_iff, TimingChecks]
  simp only [not_and_or, not_forall, hzero, Nat.not_le, and_true]

theorem parseTiming_ok {x : TimingRecord} {shadow : PerDest Nat} (h : parseTiming p = .ok (x, shadow)) :
    x = timingRecordOf p ∧ shadow = shadowOf p := by
  by_cases hchecks : TimingChecks p
  · rw [parseTiming_of_checks hchecks] at h
    cases h
    exact ⟨rfl, rfl⟩
  · rw [parseTiming_of_not_checks hchecks] at h
    cases h

end Timing

/-! ### LOAD SELECTOR and LOAD BUDGET (R7, R23) -/

section SelectorBudget

variable {p : List Byte}

/-- The preferred source of a LOAD SELECTOR by its code, NONE 0. -/
theorem parseSelector_of_code {src : Option Source} (h : byteAt p 0 = sourceCode src) :
    parseSelector p = .ok ⟨src, byteAt p 1, max (byteAt p 2) 1⟩ := by
  unfold parseSelector
  cases src with
  | none => exact if_pos h
  | some src =>
    have hsrc : sourceOfCode (byteAt p 0) = some src := sourceOfCode_eq_some.2 h
    have hpos : byteAt p 0 ≠ 0 := by
      rw [h]
      cases src <;> decide
    dsimp only
    rw [if_neg hpos, hsrc]

theorem parseSelector_of_large (h : 2 < byteAt p 0) : parseSelector p = .error .badValue := by
  unfold parseSelector
  dsimp only
  rw [if_neg (by omega), sourceOfCode_eq_none.2 (.inr h)]

theorem exists_sourceCode {n : Nat} (h : ¬2 < n) : ∃ src, n = sourceCode src := by
  obtain rfl | rfl | rfl : n = 0 ∨ n = 1 ∨ n = 2 := by omega
  · exact ⟨none, rfl⟩
  · exact ⟨some .line, rfl⟩
  · exact ⟨some .batt, rfl⟩

theorem parseSelector_error {e : Status} (h : parseSelector p = .error e) : 2 < byteAt p 0 ∧ e = .badValue := by
  by_cases hlarge : 2 < byteAt p 0
  · rw [parseSelector_of_large hlarge] at h
    cases h
    exact ⟨hlarge, rfl⟩
  · obtain ⟨src, hsrc⟩ := exists_sourceCode hlarge
    rw [parseSelector_of_code hsrc] at h
    cases h

theorem parseSelector_ok {x : SelectorSettings} (h : parseSelector p = .ok x) :
    byteAt p 0 = sourceCode x.preferred ∧ x.autoReturn = byteAt p 1 ∧ x.deadTime = max (byteAt p 2) 1 := by
  by_cases hlarge : 2 < byteAt p 0
  · rw [parseSelector_of_large hlarge] at h
    cases h
  · obtain ⟨src, hsrc⟩ := exists_sourceCode hlarge
    rw [parseSelector_of_code hsrc] at h
    cases h
    exact ⟨hsrc, rfl, rfl⟩

theorem sourceCode_injective {a b : Option Source} (h : sourceCode a = sourceCode b) : a = b := by
  rcases a with _ | _ | _ <;> rcases b with _ | _ | _ <;> first | rfl | cases h

theorem parseBudget_badValue :
    6000 < wordAt p 0 ∨ 6000 < wordAt p 2 ∨ 1000 < wordAt p 4 ↔ parseBudget p = .error .badValue := by
  rw [parseBudget, ite_eq_error_iff]
  simp only [not_and_or, Nat.not_le, and_true]

theorem parseBudget_error {e : Status} (h : parseBudget p = .error e) : e = .badValue := by
  rw [parseBudget, ite_eq_error_iff] at h
  exact h.2.symm

end SelectorBudget

/-! ### LOAD CLASS (R37) -/

section Class

variable {p : List Byte}

theorem parseClass_of_class {c : ClassNo} (h : byteAt p 0 = c.number) :
    parseClass p = if wordAt p 5 ≤ 1200 ∧ wordAt p 3 ≤ wordAt p 5 ∧ byteAt p 7 ≤ 3 then .ok (c, classRecordOf p)
      else .error .badValue := by
  rw [parseClass, ClassNo.ofNumber_eq_some.2 h]

theorem parseClass_of_none (h : 7 < byteAt p 0) : parseClass p = .error .badIndex := by
  rw [parseClass, ClassNo.ofNumber_eq_none.2 h]

theorem exists_class {n : Nat} (h : n ≤ 7) : ∃ c : ClassNo, n = c.number := by
  obtain ⟨c, hc⟩ := Option.ne_none_iff_exists'.1 fun hnone => Nat.not_lt.2 h (ClassNo.ofNumber_eq_none.1 hnone)
  exact ⟨c, ClassNo.ofNumber_eq_some.1 hc⟩

/-- R37: which values a LOAD CLASS refuses. -/
theorem parseClass_error {e : Status} :
    parseClass p = .error e ↔ (7 < byteAt p 0 ∧ e = .badIndex) ∨
      (byteAt p 0 ≤ 7 ∧ (1200 < wordAt p 5 ∨ wordAt p 5 < wordAt p 3 ∨ 3 < byteAt p 7) ∧ e = .badValue) := by
  by_cases hlarge : 7 < byteAt p 0
  · rw [parseClass_of_none hlarge, Except.error.injEq]
    have hnot : ¬byteAt p 0 ≤ 7 := by omega
    simp only [hlarge, hnot, true_and, false_and, or_false]
    exact eq_comm
  · obtain ⟨c, hc⟩ := exists_class (Nat.not_lt.1 hlarge)
    rw [parseClass_of_class hc, ite_eq_error_iff, eq_comm (a := Status.badValue)]
    simp only [hlarge, Nat.not_lt.1 hlarge, not_and_or, Nat.not_le, true_and, false_and, false_or]

theorem parseClass_ok {c : ClassNo} {x : ClassRecord} (h : parseClass p = .ok (c, x)) :
    c.number = byteAt p 0 ∧ x = classRecordOf p := by
  by_cases hlarge : 7 < byteAt p 0
  · rw [parseClass_of_none hlarge] at h
    cases h
  · obtain ⟨d, hd⟩ := exists_class (Nat.not_lt.1 hlarge)
    rw [parseClass_of_class hd, ite_eq_ok_iff] at h
    obtain ⟨-, h⟩ := h
    cases h
    exact ⟨hd.symm, rfl⟩

end Class

/-! ### LOAD PORT (R39) -/

section PortTable

variable {p : List Byte} {kind fixed : Nat}

theorem parseClassSource_eq_detected : parseClassSource kind fixed = some .detected ↔ kind = 0 := by
  unfold parseClassSource
  split
  · next h => simp [h]
  · next h =>
    split <;> simp [h]

theorem parseClassSource_eq_fixed {c : ClassNo} :
    parseClassSource kind fixed = some (.fixed c) ↔ kind = 1 ∧ fixed = c.number := by
  unfold parseClassSource
  split
  · next h => simp [h]
  · split
    · next h => simp [h, ClassNo.ofNumber_eq_some]
    · next h => simp [h]

theorem parseClassSource_eq_none :
    parseClassSource kind fixed = none ↔ 1 < kind ∨ (kind = 1 ∧ 7 < fixed) := by
  unfold parseClassSource
  split
  · next h => simp [h]
  · split
    · next h => simp [h, ClassNo.ofNumber_eq_none]
    · next hzero hone =>
      have hlarge : 1 < kind := by omega
      simp [hlarge]

/-- R39: the override of a LOAD PORT, 255 for none. -/
def overrideOf (n : Nat) : Option Nat := if n = 255 then none else some n

theorem parsePort_of_none (h : byteAt p 0 = 0 ∨ 8 < byteAt p 0) : parsePort p = .error .badIndex := by
  rw [parsePort, Port.ofNumber_eq_none.2 h]

theorem parsePort_of_no_class {q : Port} (hq : byteAt p 0 = q.number)
    (hc : parseClassSource (byteAt p 1) (byteAt p 2) = none) : parsePort p = .error .badValue := by
  rw [parsePort, Port.ofNumber_eq_some.2 hq, hc]

theorem parsePort_of_class {q : Port} {cs : ClassSource} (hq : byteAt p 0 = q.number)
    (hc : parseClassSource (byteAt p 1) (byteAt p 2) = some cs) :
    parsePort p = if byteAt p 3 = 255 ∨ byteAt p 3 ≤ 3 then .ok (q, ⟨cs, overrideOf (byteAt p 3), byteAt p 4⟩)
      else .error .badValue := by
  rw [parsePort, Port.ofNumber_eq_some.2 hq, hc, overrideOf]
  dsimp only
  by_cases hnone : byteAt p 3 = 255
  · simp [hnone]
  · simp [hnone]

theorem exists_port {n : Nat} (hlow : 1 ≤ n) (hhigh : n ≤ 8) : ∃ q : Port, n = q.number := by
  obtain ⟨q, hq⟩ := Option.ne_none_iff_exists'.1 fun hnone : Port.ofNumber n = none => by
    have hrange := Port.ofNumber_eq_none.1 hnone
    omega
  exact ⟨q, Port.ofNumber_eq_some.1 hq⟩

/-- R39: which values a LOAD PORT refuses. -/
theorem parsePort_error {e : Status} :
    parsePort p = .error e ↔ ((byteAt p 0 = 0 ∨ 8 < byteAt p 0) ∧ e = .badIndex) ∨
      ((1 ≤ byteAt p 0 ∧ byteAt p 0 ≤ 8 ∧
        (1 < byteAt p 1 ∨ (byteAt p 1 = 1 ∧ 7 < byteAt p 2) ∨ (3 < byteAt p 3 ∧ byteAt p 3 ≠ 255))) ∧
        e = .badValue) := by
  by_cases hrange : 1 ≤ byteAt p 0 ∧ byteAt p 0 ≤ 8
  · obtain ⟨hlow, hhigh⟩ := hrange
    obtain ⟨q, hq⟩ := exists_port hlow hhigh
    have hnot : ¬(byteAt p 0 = 0 ∨ 8 < byteAt p 0) := by omega
    simp only [hnot, hlow, hhigh, false_and, false_or, true_and]
    cases hc : parseClassSource (byteAt p 1) (byteAt p 2) with
    | none =>
      rw [parsePort_of_no_class hq hc, Except.error.injEq, eq_comm (a := Status.badValue), ← or_assoc,
        ← parseClassSource_eq_none]
      simp only [hc, true_or, true_and]
    | some cs =>
      have hsome := parseClassSource_eq_none.not.1 (by rw [hc]; exact Option.some_ne_none cs)
      rw [parsePort_of_class hq hc, ite_eq_error_iff, eq_comm (a := Status.badValue), ← or_assoc, or_iff_right hsome,
        not_or, Nat.not_le, and_comm (a := ¬byteAt p 3 = 255)]
  · have hnone : byteAt p 0 = 0 ∨ 8 < byteAt p 0 := by omega
    rw [parsePort_of_none hnone, Except.error.injEq, eq_comm (a := Status.badIndex)]
    simp only [hnone, true_and]
    exact ⟨.inl, fun h => h.resolve_right fun ⟨⟨hlow, hhigh, _⟩, _⟩ => hrange ⟨hlow, hhigh⟩⟩

theorem parsePort_ok {q : Port} {x : PortRecord} (h : parsePort p = .ok (q, x)) :
    q.number = byteAt p 0 ∧ parseClassSource (byteAt p 1) (byteAt p 2) = some x.classSource ∧
      x.override = overrideOf (byteAt p 3) ∧ x.debounce = byteAt p 4 := by
  have hno : ∀ e, parsePort p ≠ .error e := fun e he => by rw [h] at he; cases he
  have hrange : 1 ≤ byteAt p 0 ∧ byteAt p 0 ≤ 8 := by
    by_contra hnot
    exact hno _ (parsePort_of_none (by omega))
  obtain ⟨q', hq'⟩ := exists_port hrange.1 hrange.2
  cases hc : parseClassSource (byteAt p 1) (byteAt p 2) with
  | none => exact absurd (parsePort_of_no_class hq' hc) (hno _)
  | some cs =>
    rw [parsePort_of_class hq' hc, ite_eq_ok_iff] at h
    obtain ⟨-, h⟩ := h
    cases h
    exact ⟨hq'.symm, rfl, rfl, rfl⟩

end PortTable

/-! ### LOAD ROUTE (R103) -/

section Route

variable {p : List Byte} {n : Nat}

theorem ingressOfCode_eq_some {x : RouteIngress} : ingressOfCode n = some x ↔ n = x.code := by
  unfold ingressOfCode
  split
  · next h =>
    subst h
    rcases x with _ | q | _
    · simp [RouteIngress.code]
    · cases q <;> simp [RouteIngress.code, Port.number]
    · simp [RouteIngress.code]
  · split
    · next h =>
      subst h
      rcases x with _ | q | _
      · simp [RouteIngress.code]
      · cases q <;> simp [RouteIngress.code, Port.number]
      · simp [RouteIngress.code]
    · next hzero hnine =>
      rcases x with _ | q | _
      · simp [RouteIngress.code, hzero]
      · simp [RouteIngress.code, Port.ofNumber_eq_some]
      · simp [RouteIngress.code, hnine]

theorem exists_ingress (h : n ≤ 9) : ∃ x : RouteIngress, n = x.code := by
  by_cases hzero : n = 0
  · exact ⟨.upstream, hzero⟩
  · by_cases hnine : n = 9
    · exact ⟨.anyPort, hnine⟩
    · obtain ⟨q, hq⟩ := exists_port (n := n) (by omega) (by omega)
      exact ⟨.port q, hq⟩

theorem RouteIngress.code_le (x : RouteIngress) : x.code ≤ 9 := by
  rcases x with _ | q | _
  · decide
  · cases q <;> decide
  · decide

/-- The checks of a route entry beyond its ingress (R103). -/
def RouteChecks (p : List Byte) : Prop :=
  byteAt p 3 ≤ byteAt p 4 ∧ byteAt p 5 ≤ 1 ∧ byteAt p 8 ≤ 1 ∧ byteAt p 9 ≤ 1

/-- The entry of a LOAD ROUTE with its valid flag set. -/
def routeEntryOf (x : RouteIngress) (p : List Byte) : RouteEntry :=
  { valid := true, ingress := x, low := byteAt p 3, high := byteAt p 4,
    action := if byteAt p 5 = 0 then .forward else .drop, dests := destsOfWord (wordAt p 6),
    cls := if byteAt p 8 = 0 then .bulk else .urgent,
    late := if byteAt p 9 = 0 then .send else .drop, align := decide (byteAt p 10 ≠ 0) }

theorem parseRouteEntry_of_large (h : 9 < byteAt p 2) : parseRouteEntry p = none := by
  have hnone : ingressOfCode (byteAt p 2) = none := Option.eq_none_iff_forall_ne_some.2 fun x hx => by
    have hcode := ingressOfCode_eq_some.1 hx
    have hle := RouteIngress.code_le x
    omega
  rw [parseRouteEntry, hnone]

theorem parseRouteEntry_of_checks {x : RouteIngress} (hx : byteAt p 2 = x.code) (h : RouteChecks p) :
    parseRouteEntry p = some (routeEntryOf x p) := by
  rw [parseRouteEntry, ingressOfCode_eq_some.2 hx]
  exact if_pos h

theorem parseRouteEntry_of_not_checks (h : ¬RouteChecks p) : parseRouteEntry p = none := by
  unfold parseRouteEntry
  split
  · rfl
  · exact if_neg h

theorem parseRouteEntry_eq_none :
    parseRouteEntry p = none ↔
      9 < byteAt p 2 ∨ byteAt p 4 < byteAt p 3 ∨ 1 < byteAt p 5 ∨ 1 < byteAt p 8 ∨ 1 < byteAt p 9 := by
  have hchecks : ¬RouteChecks p ↔ byteAt p 4 < byteAt p 3 ∨ 1 < byteAt p 5 ∨ 1 < byteAt p 8 ∨ 1 < byteAt p 9 := by
    simp only [RouteChecks, not_and_or, Nat.not_le]
  rw [← hchecks]
  refine ⟨fun h => ?_, fun h => h.elim parseRouteEntry_of_large parseRouteEntry_of_not_checks⟩
  by_contra hnot
  obtain ⟨hsmall, hok⟩ := not_or.1 hnot
  obtain ⟨x, hx⟩ := exists_ingress (Nat.not_lt.1 hsmall)
  rw [parseRouteEntry_of_checks hx (not_not.1 hok)] at h
  cases h

theorem parseRouteEntry_some {x : RouteEntry} (h : parseRouteEntry p = some x) :
    RouteChecks p ∧ byteAt p 2 = x.ingress.code ∧ x = routeEntryOf x.ingress p := by
  have hno : parseRouteEntry p ≠ none := by rw [h]; exact Option.some_ne_none x
  have hchecks : RouteChecks p := by
    by_contra hnot
    exact hno (parseRouteEntry_of_not_checks hnot)
  obtain ⟨y, hy⟩ := exists_ingress (n := byteAt p 2) (by
    by_contra hnot
    exact hno (parseRouteEntry_of_large (Nat.not_le.1 hnot)))
  rw [parseRouteEntry_of_checks hy hchecks] at h
  cases h
  exact ⟨hchecks, hy, rfl⟩

theorem parseRoute_of_large (h : 48 ≤ byteAt p 0) : parseRoute p = .error .badIndex := if_pos h

theorem parseRoute_of_invalid (h : byteAt p 0 < 48) (hvalid : byteAt p 1 = 0) :
    parseRoute p = .ok (byteAt p 0, RouteEntry.reset) :=
  (if_neg (Nat.not_le.2 h)).trans (if_pos hvalid)

theorem parseRoute_of_valid (h : byteAt p 0 < 48) (hvalid : byteAt p 1 ≠ 0) :
    parseRoute p = match parseRouteEntry p with
      | some e => .ok (byteAt p 0, e)
      | none => .error .badValue := by
  refine (if_neg (Nat.not_le.2 h)).trans ((if_neg hvalid).trans ?_)
  cases parseRouteEntry p <;> rfl

/-- R103: which values a LOAD ROUTE refuses. -/
theorem parseRoute_error {e : Status} :
    parseRoute p = .error e ↔ (48 ≤ byteAt p 0 ∧ e = .badIndex) ∨
      ((byteAt p 0 < 48 ∧ byteAt p 1 ≠ 0 ∧ parseRouteEntry p = none) ∧ e = .badValue) := by
  by_cases hlarge : 48 ≤ byteAt p 0
  · rw [parseRoute_of_large hlarge, Except.error.injEq, eq_comm (a := Status.badIndex)]
    simp only [hlarge, Nat.not_lt.2 hlarge, true_and, false_and, or_false]
  · have hsmall : byteAt p 0 < 48 := Nat.not_le.1 hlarge
    by_cases hvalid : byteAt p 1 = 0
    · rw [parseRoute_of_invalid hsmall hvalid]
      simp [hlarge, hvalid]
    · rw [parseRoute_of_valid hsmall hvalid]
      cases parseRouteEntry p with
      | none => simp [hlarge, hsmall, hvalid, eq_comm]
      | some x => simp [hlarge]

theorem parseRoute_ok {i : Nat} {x : RouteEntry} (h : parseRoute p = .ok (i, x)) (hvalid : byteAt p 1 ≠ 0) :
    i = byteAt p 0 ∧ parseRouteEntry p = some x := by
  by_cases hlarge : 48 ≤ byteAt p 0
  · rw [parseRoute_of_large hlarge] at h
    cases h
  · rw [parseRoute_of_valid (Nat.not_le.1 hlarge) hvalid] at h
    cases hentry : parseRouteEntry p with
    | none =>
      rw [hentry] at h
      cases h
    | some y =>
      rw [hentry] at h
      cases h
      exact ⟨rfl, rfl⟩

end Route

/-! ### What each load refuses and writes -/

/-- R37: the flag byte of a LOAD CLASS. -/
theorem getD_getLsbD (p : List Byte) (i k : Nat) : (p.getD i 0).getLsbD k = (byteAt p i).testBit k :=
  (BitVec.testBit_toNat _).symm

/-- Settles O52. -/
theorem loadChecksAndClamps : Obligations.LoadChecksAndClamps := by
  intro p
  refine ⟨parseSource_badIndex, fun e => parseSource_error, parseSource_badValue, fun src x h => ?source,
    parseTiming_badValue, fun e h => (parseTiming_error_iff.1 h).2, fun x shadow h => ?timing,
    ⟨parseSelector_of_large, fun h => (parseSelector_error h).1⟩, fun e h => (parseSelector_error h).2,
    fun x h => ?selector, parseBudget_badValue, fun e => parseBudget_error, fun x h => ?budget, ?classIndex,
    ?classValue, fun e h => ?classError, fun c x h => ?classTaken, ?portIndex, ?portValue, fun e h => ?portError,
    fun q x h => ?port, ?routeIndex, parseRoute_of_invalid, ?routeValue, fun e h => ?routeError,
    fun i x h hvalid => ?route, rfl⟩
  case source =>
    obtain ⟨hcode, rfl⟩ := parseSource_ok h
    refine ⟨hcode, rfl, rfl, rfl, rfl, rfl, rfl, rfl, by simp [sourceRecordOf], fun i hi => ?_⟩
    simp [sourceRecordOf, List.getElem?_range hi]
  case timing =>
    obtain ⟨rfl, rfl⟩ := parseTiming_ok h
    exact ⟨rfl, rfl, rfl, rfl, fun d => ⟨PerDest.get_ofFn _ d, PerDest.get_ofFn _ d⟩⟩
  case selector =>
    obtain ⟨hcode, hauto, hdead⟩ := parseSelector_ok h
    have hpref : ∀ y, x.preferred = y ↔ byteAt p 0 = sourceCode y := fun y =>
      ⟨fun hy => by rw [hcode, hy], fun hy => sourceCode_injective (hcode.symm.trans hy)⟩
    refine ⟨hpref none, fun src => hpref (some src), hauto, ?_⟩
    rw [hdead]
    split <;> omega
  case budget =>
    rw [parseBudget, ite_eq_ok_iff] at h
    obtain ⟨-, rfl⟩ := h
    exact ⟨rfl, rfl, rfl, rfl, rfl⟩
  case classIndex => simp [parseClass_error]
  case classValue => simp [parseClass_error]
  case classError =>
    rcases parseClass_error.1 h with ⟨-, he⟩ | ⟨-, -, he⟩
    · exact .inl he
    · exact .inr he
  case classTaken =>
    obtain ⟨hcode, rfl⟩ := parseClass_ok h
    exact ⟨hcode, rfl, rfl, rfl, rfl, rfl, rfl, rfl, rfl, rfl, rfl, rfl, getD_getLsbD p 17 0, getD_getLsbD p 17 1⟩
  case portIndex => simp [parsePort_error]
  case portValue => simp [parsePort_error]
  case portError =>
    rcases parsePort_error.1 h with ⟨-, he⟩ | ⟨-, he⟩
    · exact .inl he
    · exact .inr he
  case port =>
    obtain ⟨hcode, hclass, hover, hdebounce⟩ := parsePort_ok h
    refine ⟨hcode, ?_, fun c => ?_, hover, hdebounce⟩
    · rw [← parseClassSource_eq_detected (fixed := byteAt p 2), hclass, Option.some.injEq]
    · rw [← parseClassSource_eq_fixed, hclass, Option.some.injEq]
  case routeIndex => simp [parseRoute_error]
  case routeValue => simp [parseRoute_error, parseRouteEntry_eq_none]
  case routeError =>
    rcases parseRoute_error.1 h with ⟨-, he⟩ | ⟨-, he⟩
    · exact .inl he
    · exact .inr he
  case route =>
    obtain ⟨hi, hentry⟩ := parseRoute_ok h hvalid
    obtain ⟨⟨-, haction, hcls, hlate⟩, hcode, hx⟩ := parseRouteEntry_some hentry
    have hingress : ∀ y : RouteIngress, x.ingress = y ↔ byteAt p 2 = y.code := fun y => by
      rw [← ingressOfCode_eq_some, ingressOfCode_eq_some.2 hcode, Option.some.injEq]
    refine ⟨hi, ?_, hingress .upstream, fun q => hingress (.port q), hingress .anyPort, ?_, ?_, ?_, fun d => ?_, ?_, ?_,
      ?_⟩
    all_goals rw [hx, routeEntryOf]
    · dsimp only
      split <;> simp <;> omega
    · exact PerDest.get_ofFn _ d
    · dsimp only
      split <;> simp <;> omega
    · dsimp only
      split <;> simp <;> omega
    · exact decide_eq_true_iff

end Sys2Proof.Machine

namespace Sys2Proof.Machine

open Sys2Proof

/-! ### Fields of a list of bytes (R153, R154) -/

section ByteFields

variable {b c : Byte} {p : List Byte} {n i : Nat}

@[simp] theorem byteAt_byte_cons : byteAt (byte n :: p) 0 = n % 256 := byte_toNat n

@[simp] theorem byteAt_cons_succ : byteAt (b :: p) (i + 1) = byteAt p i := rfl

@[simp] theorem wordAt_cons_succ : wordAt (b :: p) (i + 1) = wordAt p i := rfl

@[simp] theorem wordAt_bytes_cons : wordAt (byte (n / 256) :: byte n :: p) 0 = n % 65536 := wordAt_be16 n p

theorem byteAt_flatMap_block {α : Type} {f : α → List Byte} {k : Nat} (hf : ∀ a, (f a).length = k) {l : List α} {a : α}
    (h : l[i]? = some a) {j : Nat} (hj : j < k) : byteAt (l.flatMap f) (k * i + j) = byteAt (f a) j := by
  rw [byteAt, byteAt, List.getD_eq_getElem?_getD, List.getD_eq_getElem?_getD, getElem?_flatMap_block hf h hj]

theorem wordAt_flatMap_block {α : Type} {f : α → List Byte} {k : Nat} (hf : ∀ a, (f a).length = k) {l : List α} {a : α}
    (h : l[i]? = some a) {j : Nat} (hj : j + 1 < k) : wordAt (l.flatMap f) (k * i + j) = wordAt (f a) j := by
  rw [wordAt, wordAt, Nat.add_assoc, byteAt_flatMap_block hf h (Nat.lt_of_succ_lt hj), byteAt_flatMap_block hf h hj]

theorem byteAt_map_byte {α : Type} {f : α → Byte} {l : List α} {a : α} (h : l[i]? = some a) :
    byteAt (l.map f) i = (f a).toNat := by
  rw [byteAt, List.getD_eq_getElem?_getD, List.getElem?_map, h]
  rfl

theorem PerDest.toList_getElem? {α : Type} (x : PerDest α) (d : Dest) : x.toList[d.number]? = some (x.get d) := by
  rw [PerDest.toList, List.getElem?_map, Dest.all_number, Option.map_some]

theorem PerHub.toList_getElem? {α : Type} (x : PerHub α) (h : HubItem) : x.toList[h.number]? = some (x.get h) := by
  rw [PerHub.toList, List.getElem?_map, HubItem.number, List.getElem?_idxOf h.mem_all, Option.map_some]

end ByteFields

/-! ### The source table (R5, R148) -/

section SourceTable

variable {x : SourceRecord}

/-- R148: a point of a curve in its load layout, zero beyond the count. -/
def curveBytes (x : SourceRecord) (i : Nat) : List Byte :=
  match x.curve[i]? with
  | some q => be16 q.volts ++ [byte q.percent]
  | none => [0, 0, 0]

theorem curveBytes_length (i : Nat) : (curveBytes x i).length = 3 := by
  unfold curveBytes
  split <;> rfl

/-- R154: the fields of a source record before its points. -/
def SourceRecord.head (src : Source) (x : SourceRecord) : List Byte :=
  byte src.code :: be16 x.cutoff ++ be16 x.hysteresis ++ be16 x.overVoltage
    ++ [byte x.qualifyTime, byte x.failTime] ++ be16 x.rated ++ be16 x.limit ++ [byte x.curve.length]

theorem SourceRecord.bytes_eq (src : Source) : x.bytes src = SourceRecord.head src x ++ (List.range 6).flatMap (curveBytes x) :=
  rfl

theorem SourceRecord.head_length (src : Source) : (SourceRecord.head src x).length = 14 := rfl

theorem SourceRecord.bytes_length (src : Source) : (x.bytes src).length = 32 := by
  rw [SourceRecord.bytes_eq, List.length_append, SourceRecord.head_length, length_flatMap_of_length curveBytes_length]
  rfl

theorem SourceRecord.bytes_fields (src : Source) :
    byteAt (x.bytes src) 0 = src.code % 256 ∧ wordAt (x.bytes src) 1 = x.cutoff % 65536 ∧
      wordAt (x.bytes src) 3 = x.hysteresis % 65536 ∧ wordAt (x.bytes src) 5 = x.overVoltage % 65536 ∧
      byteAt (x.bytes src) 7 = x.qualifyTime % 256 ∧ byteAt (x.bytes src) 8 = x.failTime % 256 ∧
      wordAt (x.bytes src) 9 = x.rated % 65536 ∧ wordAt (x.bytes src) 11 = x.limit % 65536 ∧
      byteAt (x.bytes src) 13 = x.curve.length % 256 := by
  simp [SourceRecord.bytes_eq, SourceRecord.head, be16]

/-- R148: a point within the count is read back where it stands. -/
theorem SourceRecord.bytes_point (src : Source) {i : Nat} (hlength : x.curve.length ≤ 6) (hi : i < x.curve.length) :
    wordAt (x.bytes src) (14 + 3 * i) = x.curve[i].volts % 65536 ∧
      byteAt (x.bytes src) (16 + 3 * i) = x.curve[i].percent % 256 := by
  have hblock : (List.range 6)[i]? = some i := List.getElem?_range (by omega)
  have hpoint : curveBytes x i = be16 x.curve[i].volts ++ [byte x.curve[i].percent] := by
    rw [curveBytes, List.getElem?_eq_getElem hi]
  have hhead := SourceRecord.head_length (x := x) src
  rw [SourceRecord.bytes_eq, wordAt_append_right (by omega), byteAt_append_right (by omega), hhead,
    show 14 + 3 * i - 14 = 3 * i + 0 by omega, show 16 + 3 * i - 14 = 3 * i + 2 by omega,
    wordAt_flatMap_block curveBytes_length hblock (by decide),
    byteAt_flatMap_block curveBytes_length hblock (by decide), hpoint]
  exact ⟨wordAt_be16 _ _, byte_toNat _⟩

/-- R5, R148: a source record is read back whole. -/
theorem SourceRecord.of_bytes (src : Source) (h : x.InRange) : sourceRecordOf (x.bytes src) = x := by
  obtain ⟨hvalid, hqualify, hfail, hrated, hlimit⟩ := h
  obtain ⟨-, hlength, -, hpoints, hcutoff, hhyst, hover, -⟩ := x.valid_iff.1 hvalid
  obtain ⟨-, kcutoff, khyst, kover, kqualify, kfail, krated, klimit, klength⟩ := SourceRecord.bytes_fields (x := x) src
  have hcurve : (List.range x.curve.length).map (fun i =>
      CurvePoint.mk (wordAt (x.bytes src) (14 + 3 * i)) (byteAt (x.bytes src) (16 + 3 * i))) = x.curve := by
    refine List.ext_getElem (by simp) fun i hi hx => ?_
    obtain ⟨kvolts, kpercent⟩ := SourceRecord.bytes_point src hlength hx
    obtain ⟨hpercent, hvolts⟩ := hpoints _ (List.getElem_mem hx)
    rw [List.getElem_map, List.getElem_range, kvolts, kpercent, Nat.mod_eq_of_lt (by omega),
      Nat.mod_eq_of_lt (by omega)]
  rw [sourceRecordOf, kcutoff, khyst, kover, kqualify, kfail, krated, klimit, klength,
    Nat.mod_eq_of_lt (by omega), Nat.mod_eq_of_lt (by omega), Nat.mod_eq_of_lt (by omega),
    Nat.mod_eq_of_lt (by omega), Nat.mod_eq_of_lt (by omega), Nat.mod_eq_of_lt (by omega),
    Nat.mod_eq_of_lt (by omega), Nat.mod_eq_of_lt (by omega), hcurve, Nat.min_eq_left hrated, Nat.min_eq_left hlimit]

theorem parseSource_bytes (src : Source) (h : x.InRange) : parseSource (x.bytes src) = .ok (src, x) := by
  have hcode : byteAt (x.bytes src) 0 = src.code := by
    rw [(SourceRecord.bytes_fields (x := x) src).1]
    cases src <;> rfl
  rw [parseSource_of_source hcode, SourceRecord.of_bytes src h, if_pos h.1]

end SourceTable

/-! ### The selector settings and the budget parameters (R7, R23) -/

theorem parseSelector_bytes {x : SelectorSettings} (h : x.InRange) : parseSelector x.bytes = .ok x := by
  obtain ⟨pref, auto, dead⟩ := x
  obtain ⟨hauto, hlow, hhigh⟩ : auto < 256 ∧ 1 ≤ dead ∧ dead < 256 := h
  have hcode : byteAt [byte (sourceCode pref), byte auto, byte dead] 0 = sourceCode pref := by
    rcases pref with _ | _ | _ <;> rfl
  rw [SelectorSettings.bytes, parseSelector_of_code hcode]
  simp [Nat.mod_eq_of_lt hauto, Nat.mod_eq_of_lt hhigh, Nat.max_eq_left hlow]

theorem parseBudget_bytes {x : BudgetParams} (h : x.InRange) : parseBudget x.bytes = .ok x := by
  obtain ⟨⟨line, batt⟩, headroom, delay, readmit⟩ := x
  obtain ⟨hline, hbatt, hheadroom, hdelay, hreadmit⟩ :
    line ≤ 6000 ∧ batt ≤ 6000 ∧ headroom ≤ 1000 ∧ delay ≤ 2000 ∧ readmit ≤ 60 := h
  have hmod : line % 65536 = line ∧ batt % 65536 = batt ∧ headroom % 65536 = headroom ∧ delay % 65536 = delay ∧
      readmit % 256 = readmit := by omega
  simp [parseBudget, BudgetParams.bytes, be16, hmod, hline, hbatt, hheadroom, hdelay, hreadmit]

/-! ### The class and port tables (R37, R39) -/

theorem clamp_of_mem {lo hi n : Nat} (hlow : lo ≤ n) (hhigh : n ≤ hi) : clamp lo hi n = n := by
  rw [clamp, Nat.max_eq_left hlow, Nat.min_eq_left hhigh]

theorem ClassRecord.bytes_fields (c : ClassNo) (x : ClassRecord) :
    byteAt (x.bytes c) 0 = c.number % 256 ∧ wordAt (x.bytes c) 1 = x.defaultDemand % 65536 ∧
      wordAt (x.bytes c) 3 = x.idleDraw % 65536 ∧ wordAt (x.bytes c) 5 = x.maxDemand % 65536 ∧
      byteAt (x.bytes c) 7 = x.priority % 256 ∧ byteAt (x.bytes c) 8 = x.tolerance % 256 ∧
      wordAt (x.bytes c) 9 = x.overdrawTime % 65536 ∧ wordAt (x.bytes c) 11 = x.inrush % 65536 ∧
      byteAt (x.bytes c) 13 = x.rampFactor % 256 ∧ byteAt (x.bytes c) 14 = x.retryLimit % 256 ∧
      byteAt (x.bytes c) 15 = x.retryDelay % 256 ∧ byteAt (x.bytes c) 16 = x.waitLimit % 256 ∧
      byteAt (x.bytes c) 17 = (bit x.sheddable 1 + bit x.rideThrough 2) % 256 := by
  simp [ClassRecord.bytes, be16]

theorem ClassRecord.of_bytes (c : ClassNo) {x : ClassRecord} (h : x.InRange) : classRecordOf (x.bytes c) = x := by
  obtain ⟨hmax, hidle, hdefault, hprio, htol, hover, hinlow, hinhigh, hramplow, hramphigh, hlimit, hdelaylow, hdelayhigh,
    hwait⟩ := h
  obtain ⟨-, kdefault, kidle, kmax, kprio, ktol, kover, kin, kramp, klimit, kdelay, kwait, kflags⟩ :=
    ClassRecord.bytes_fields c x
  have hflags : (byteAt (x.bytes c) 17).testBit 0 = x.sheddable ∧ (byteAt (x.bytes c) 17).testBit 1 = x.rideThrough := by
    rw [kflags]
    cases x.sheddable <;> cases x.rideThrough <;> decide
  have hmod : x.defaultDemand % 65536 = x.defaultDemand ∧ x.idleDraw % 65536 = x.idleDraw ∧
      x.maxDemand % 65536 = x.maxDemand ∧ x.priority % 256 = x.priority ∧ x.tolerance % 256 = x.tolerance ∧
      x.overdrawTime % 65536 = x.overdrawTime ∧ x.inrush % 65536 = x.inrush ∧ x.rampFactor % 256 = x.rampFactor ∧
      x.retryLimit % 256 = x.retryLimit ∧ x.retryDelay % 256 = x.retryDelay ∧ x.waitLimit % 256 = x.waitLimit := by
    omega
  simp only [classRecordOf, getD_getLsbD, hflags, kdefault, kidle, kmax, kprio, ktol, kover, kin, kramp, klimit, kdelay,
    kwait, hmod, clamp_of_mem hidle hdefault, clamp_of_mem hinlow hinhigh, clamp_of_mem hramplow hramphigh,
    Nat.min_eq_left htol, Nat.min_eq_left hover, Nat.min_eq_left hlimit, Nat.max_eq_left hdelaylow]

theorem parseClass_bytes (c : ClassNo) {x : ClassRecord} (h : x.InRange) : parseClass (x.bytes c) = .ok (c, x) := by
  have hle := ClassNo.number_le c
  obtain ⟨kcode, -, kidle, kmax, kprio, -⟩ := ClassRecord.bytes_fields c x
  have hcode : byteAt (x.bytes c) 0 = c.number := by omega
  have hchecks : wordAt (x.bytes c) 5 ≤ 1200 ∧ wordAt (x.bytes c) 3 ≤ wordAt (x.bytes c) 5 ∧
      byteAt (x.bytes c) 7 ≤ 3 := by
    obtain ⟨hmax, hidle, hdefault, hprio, -⟩ := h
    omega
  rw [parseClass_of_class hcode, ClassRecord.of_bytes c h, if_pos hchecks]

theorem Port.number_le (q : Port) : q.number ≤ 8 := by cases q <;> decide

/-- R39: the class source is read back from its two bytes. -/
theorem parseClassSource_bytes (q : Port) (x : PortRecord) :
    parseClassSource (byteAt (x.bytes q) 1) (byteAt (x.bytes q) 2) = some x.classSource := by
  rcases x with ⟨_ | c, _, _⟩
  · exact parseClassSource_eq_detected.2 rfl
  · refine parseClassSource_eq_fixed.2 ⟨rfl, ?_⟩
    cases c <;> rfl

theorem PortRecord.bytes_fields (q : Port) (x : PortRecord) :
    byteAt (x.bytes q) 0 = q.number % 256 ∧ byteAt (x.bytes q) 3 = (x.override.getD 255) % 256 ∧
      byteAt (x.bytes q) 4 = x.debounce % 256 ∧ (x.bytes q).length = 5 := by
  rcases x with ⟨_ | c, _, _⟩ <;> simp [PortRecord.bytes]

theorem parsePort_bytes (q : Port) {x : PortRecord} (h : x.InRange) : parsePort (x.bytes q) = .ok (q, x) := by
  obtain ⟨kcode, kover, kdebounce, -⟩ := PortRecord.bytes_fields q x
  obtain ⟨hover, hdebounce⟩ := h
  have hle := Port.number_le q
  have hcode : byteAt (x.bytes q) 0 = q.number := by omega
  have hoverride : (byteAt (x.bytes q) 3 = 255 ∨ byteAt (x.bytes q) 3 ≤ 3) ∧
      overrideOf (byteAt (x.bytes q) 3) = x.override := by
    rw [kover]
    cases hx : x.override with
    | none => exact ⟨.inl rfl, rfl⟩
    | some n =>
      have hn : n ≤ 3 := hover n hx
      have hmod : n % 256 = n := Nat.mod_eq_of_lt (by omega)
      rw [Option.getD_some, hmod, overrideOf, if_neg (by omega)]
      exact ⟨.inr hn, rfl⟩
  rw [parsePort_of_class hcode (parseClassSource_bytes q x), if_pos hoverride.1, hoverride.2, kdebounce,
    Nat.mod_eq_of_lt hdebounce]

/-! ### The route table (R103) -/

section RouteTable

variable {x : RouteEntry}

theorem destsWord_lt (s : PerDest Bool) : destsWord s < 512 := sum_bit_lt (by decide)

theorem destsOfWord_destsWord (s : PerDest Bool) : destsOfWord (destsWord s) = s := by
  have hbit : ∀ d : Dest, (destsWord s).testBit d.number = s.get d := fun d => sum_bit_testBit (by decide) d.mem_all
  rw [destsOfWord]
  simp only [hbit]
  rfl

theorem RouteEntry.bytes_fields (i valid align : Nat) (x : RouteEntry) :
    byteAt (x.bytes i valid align) 0 = i % 256 ∧ byteAt (x.bytes i valid align) 1 = bit x.valid valid % 256 ∧
      byteAt (x.bytes i valid align) 2 = x.ingress.code % 256 ∧ byteAt (x.bytes i valid align) 3 = x.low % 256 ∧
      byteAt (x.bytes i valid align) 4 = x.high % 256 ∧
      byteAt (x.bytes i valid align) 5 = (if x.action = .forward then 0 else 1) ∧
      wordAt (x.bytes i valid align) 6 = destsWord x.dests % 65536 ∧
      byteAt (x.bytes i valid align) 8 = (if x.cls = .bulk then 0 else 1) ∧
      byteAt (x.bytes i valid align) 9 = (if x.late = .send then 0 else 1) ∧
      byteAt (x.bytes i valid align) 10 = bit x.align align % 256 := by
  obtain ⟨flag, ingress, low, high, action, dests, cls, late, aligned⟩ := x
  refine ⟨byte_toNat _, byte_toNat _, byte_toNat _, byte_toNat _, byte_toNat _, ?_, ?_, ?_, ?_, byte_toNat _⟩
  · cases action <;> rfl
  · simp [RouteEntry.bytes, be16]
  · cases cls <;> rfl
  · cases late <;> rfl

/-- R103, R148: a valid route entry is read back whole. -/
theorem parseRouteEntry_bytes {i valid align : Nat} (hlow : 1 ≤ align) (hhigh : align ≤ 255) (h : x.InRange)
    (hvalid : x.valid = true) : parseRouteEntry (x.bytes i valid align) = some x := by
  obtain ⟨-, -, kingress, klow, khigh, kaction, kdests, kcls, klate, kalign⟩ :=
    RouteEntry.bytes_fields i valid align x
  obtain ⟨hrange, hbyte, -⟩ := h
  have hcode := RouteIngress.code_le x.ingress
  have hdests := destsWord_lt x.dests
  rw [Nat.mod_eq_of_lt (by omega)] at kingress klow khigh kdests
  have hchecks : RouteChecks (x.bytes i valid align) := by
    rw [RouteChecks, klow, khigh, kaction, kcls, klate]
    refine ⟨hrange, ?_, ?_, ?_⟩ <;> split <;> omega
  have halign : decide (byteAt (x.bytes i valid align) 10 ≠ 0) = x.align := by
    rw [kalign]
    cases x.align
    · rfl
    · exact decide_eq_true (by rw [bit, if_pos rfl]; omega)
  rw [parseRouteEntry_of_checks kingress hchecks, routeEntryOf, klow, khigh, kaction, kdests, kcls, klate, halign,
    destsOfWord_destsWord]
  obtain ⟨flag, ingress, low, high, action, dests, cls, late, aligned⟩ := x
  obtain rfl : flag = true := hvalid
  cases action <;> cases cls <;> cases late <;> rfl

theorem parseRoute_bytes {i valid align : Nat} (hi : i < 48) (hlow : 1 ≤ valid) (hhigh : valid ≤ 255)
    (hlow' : 1 ≤ align) (hhigh' : align ≤ 255) (h : x.InRange) :
    parseRoute (x.bytes i valid align) = .ok (i, x) := by
  obtain ⟨kindex, kvalid, -⟩ := RouteEntry.bytes_fields i valid align x
  have hindex : byteAt (x.bytes i valid align) 0 = i := by omega
  have hsmall : byteAt (x.bytes i valid align) 0 < 48 := by omega
  cases hvalid : x.valid with
  | false =>
    have hflag : byteAt (x.bytes i valid align) 1 = 0 := by rw [kvalid, hvalid]; rfl
    obtain ⟨-, -, hreset⟩ := h
    rw [parseRoute_of_invalid hsmall hflag, hindex, ← hreset hvalid]
  | true =>
    have hflag : byteAt (x.bytes i valid align) 1 ≠ 0 := by
      rw [kvalid, hvalid, bit, if_pos rfl]
      omega
    rw [parseRoute_of_valid hsmall hflag, parseRouteEntry_bytes hlow' hhigh' h hvalid, hindex]

end RouteTable

/-! ### The timing record (R125) -/

section TimingTable

variable {x : TimingRecord} {shadow : PerDest Nat}

theorem be16_length (n : Nat) : (be16 n).length = 2 := rfl

theorem Dest.number_lt (d : Dest) : d.number < 9 := by
  rcases d with _ | q
  · decide
  · cases q <;> decide

theorem TimingRecord.bytes_head (x : TimingRecord) (shadow : PerDest Nat) :
    wordAt (x.bytes shadow) 0 = x.nominal % 65536 ∧ wordAt (x.bytes shadow) 2 = x.windowMin % 65536 ∧
      wordAt (x.bytes shadow) 4 = x.windowMax % 65536 ∧ byteAt (x.bytes shadow) 6 = x.tolerance % 256 := by
  simp [TimingRecord.bytes, be16]

theorem TimingRecord.bytes_dest (x : TimingRecord) (shadow : PerDest Nat) (d : Dest) :
    wordAt (x.bytes shadow) (7 + 2 * d.number) = shadow.get d % 65536 ∧
      byteAt (x.bytes shadow) (25 + d.number) = x.markInterval.get d % 256 := by
  have hd := Dest.number_lt d
  let head : List Byte := be16 x.nominal ++ be16 x.windowMin ++ be16 x.windowMax ++ [byte x.tolerance]
  have hbytes : x.bytes shadow = head ++ shadow.toList.flatMap be16 ++ x.markInterval.toList.map byte := rfl
  have hhead : head.length = 7 := rfl
  have hphases : (shadow.toList.flatMap be16).length = 18 := length_flatMap_of_length be16_length _
  have hboth : (head ++ shadow.toList.flatMap be16).length = 25 := by rw [List.length_append, hhead, hphases]
  rw [hbytes, wordAt_append_left (by omega), wordAt_append_right (by omega), byteAt_append_right (by omega), hboth, hhead,
    Nat.add_sub_cancel_left, Nat.add_sub_cancel_left, byteAt_map_byte (PerDest.toList_getElem? _ d), byte_toNat]
  have hphase : wordAt (shadow.toList.flatMap be16) (2 * d.number) = shadow.get d % 65536 :=
    (wordAt_flatMap_block be16_length (PerDest.toList_getElem? shadow d) (j := 0) (by decide)).trans (wordAt_be16 _ [])
  exact ⟨hphase, rfl⟩

theorem parseTiming_bytes (h : x.InRange) (hshadow : ∀ d, shadow.get d < 65536) :
    parseTiming (x.bytes shadow) = .ok (x, shadow) := by
  obtain ⟨knominal, kmin, kmax, ktol⟩ := x.bytes_head shadow
  obtain ⟨hlow, hhigh, hmin, hmax, htop, htol, htolhigh, hmarks⟩ := h
  have kphase : ∀ d : Dest, wordAt (x.bytes shadow) (7 + 2 * d.number) = shadow.get d := fun d => by
    rw [(x.bytes_dest shadow d).1, Nat.mod_eq_of_lt (hshadow d)]
  have kmark : ∀ d : Dest, byteAt (x.bytes shadow) (25 + d.number) = x.markInterval.get d := fun d => by
    have hmark := hmarks d
    rw [(x.bytes_dest shadow d).2, Nat.mod_eq_of_lt (by omega)]
  rw [Nat.mod_eq_of_lt (by omega)] at knominal kmin kmax ktol
  have hchecks : TimingChecks (x.bytes shadow) := by
    rw [TimingChecks, knominal, kmin, kmax, ktol]
    exact ⟨hlow, hhigh, hmin, by omega, by omega, htop, hmax, htol, fun d => by rw [kmark]; exact hmarks d⟩
  rw [parseTiming_of_checks hchecks, timingRecordOf, shadowOf, knominal, kmin, kmax, ktol]
  simp only [kphase, kmark]
  rfl

end TimingTable

/-! ### The event settings (R161) and the hold level (R119) -/

theorem settingOf_byte {e : EventSetting} (h : e.InRange) : settingOf e.byte.toNat = e := by
  obtain ⟨enable, level⟩ := e
  have hlevel : level ≤ 3 := h
  interval_cases level <;> cases enable <;> rfl

theorem parseEvents_bytes {x : EventSettings} (hhub : ∀ i, (x.hub.get i).InRange) (hmarks : x.marks.InRange) :
    parseEvents x.bytes = x := by
  have hlength : (x.hub.toList.map EventSetting.byte).length = 15 := rfl
  have hitem : ∀ i : HubItem, settingOf (byteAt x.bytes i.number) = x.hub.get i := fun i => by
    have hi : i.number < 15 := (List.getElem?_eq_some_iff.1 (PerHub.toList_getElem? x.hub i)).1
    rw [EventSettings.bytes, byteAt_append_left (by rw [hlength]; exact hi),
      byteAt_map_byte (PerHub.toList_getElem? x.hub i), settingOf_byte (hhub i)]
  have hmark : settingOf (byteAt x.bytes 15) = x.marks := by
    rw [EventSettings.bytes, byteAt_append_right (by rw [hlength]), hlength]
    exact settingOf_byte hmarks
  rw [parseEvents, hmark]
  simp only [hitem]
  rfl

theorem parseHoldLevel_bytes {n : Nat} (hlow : 8 ≤ n) (hhigh : n ≤ 64) : parseHoldLevel [byte n] = n := by
  rw [parseHoldLevel, byteAt_byte_cons, Nat.mod_eq_of_lt (by omega), clamp_of_mem hlow hhigh]

/-- Settles O51. -/
theorem recordsRoundTrip : Obligations.RecordsRoundTrip :=
  ⟨fun src _ h => ⟨parseSource_bytes src h, SourceRecord.bytes_length src⟩,
    fun _ h => ⟨parseSelector_bytes h, rfl⟩,
    fun _ h => ⟨parseBudget_bytes h, rfl⟩,
    fun c _ h => ⟨parseClass_bytes c h, rfl⟩,
    fun q x h => ⟨parsePort_bytes q h, (PortRecord.bytes_fields q x).2.2.2⟩,
    fun _ _ _ _ hi hlow hhigh hlow' hhigh' h => ⟨parseRoute_bytes hi hlow hhigh hlow' hhigh' h, rfl⟩,
    fun _ _ h hshadow => ⟨parseTiming_bytes h hshadow, rfl⟩,
    fun _ => parseHoldLevel_bytes,
    fun _ hhub hmarks => ⟨parseEvents_bytes hhub hmarks, rfl⟩⟩

end Sys2Proof.Machine

namespace Sys2Proof.Machine

open Sys2Proof

/-! ### The reads and their responses (R146, R148) -/

section Reads

variable {s : State} {rest : List Request} {payload : List Byte}

theorem State.popped_statusBytes (s : State) (rest : List Request) : (s.popped rest).statusBytes = s.statusBytes := rfl

theorem State.popped_portBytes (s : State) (rest : List Request) (p : Port) :
    (s.popped rest).portBytes p = s.portBytes p := rfl

theorem State.popped_tableBytes (s : State) (rest : List Request) (x : TableRef) :
    (s.popped rest).tableBytes x = s.tableBytes x := by
  cases x <;> rfl

theorem exec_readStatus (he : s.Executes ⟨1, payload⟩ rest) (hlength : payload.length = 0) :
    exec .readStatus s = .next ((s.popped rest).drawn.placeResponse 1 (s.popped rest).statusBytes
      (some s.events.report)).selectAll := by
  have hexec : exec .readStatus s = .next ((s.popped rest).readStatus ⟨1, payload⟩).selectAll :=
    State.serve_of_executes he rfl (Request.lengthOk_of rfl hlength)
  rw [hexec, State.readStatus]
  rfl

/-- R148: the port comes first. -/
theorem exec_readPort (he : s.Executes ⟨2, payload⟩ rest) (hlength : payload.length = 1) :
    (byteAt payload 0 = 0 ∨ 8 < byteAt payload 0 →
      exec .readPort s = .next ((s.popped rest).placeResponse 2 [2] none).selectAll) ∧
    ∀ p : Port, byteAt payload 0 = p.number → exec .readPort s =
      .next ((s.popped rest).drawn.placeResponse 2 ((s.popped rest).portBytes p) none).selectAll := by
  have hexec : exec .readPort s = .next ((s.popped rest).readPort ⟨2, payload⟩).selectAll :=
    State.serve_of_executes he rfl (Request.lengthOk_of rfl hlength)
  refine ⟨fun hnone => ?_, fun p hp => ?_⟩
  · rw [hexec, State.readPort, Port.ofNumber_eq_none.2 hnone]
    rfl
  · rw [hexec, State.readPort, Port.ofNumber_eq_some.2 hp]
    rfl

theorem parseTable_of_large (h : byteAt payload 0 = 0 ∨ 9 < byteAt payload 0) :
    parseTable payload = .error .badValue :=
  if_pos h

theorem parseTable_of_table (h : ¬(byteAt payload 0 = 0 ∨ 9 < byteAt payload 0)) :
    parseTable payload = match tableRef (byteAt payload 0) (byteAt payload 1) with
      | some t => .ok t
      | none => .error .badIndex := by
  refine (if_neg h).trans ?_
  cases tableRef (byteAt payload 0) (byteAt payload 1) <;> rfl

/-- R148: the table comes before the index. -/
theorem exec_readTable (he : s.Executes ⟨3, payload⟩ rest) (hlength : payload.length = 2) :
    (∀ e, parseTable payload = .error e →
      exec .readTable s = .next ((s.popped rest).placeResponse 3 [byte e.code] none).selectAll) ∧
    ∀ x, parseTable payload = .ok x → exec .readTable s =
      .next ((s.popped rest).drawn.placeResponse 3 (0 :: (s.popped rest).tableBytes x) none).selectAll := by
  have hexec : exec .readTable s = .next ((s.popped rest).readTable ⟨3, payload⟩).selectAll :=
    State.serve_of_executes he rfl (Request.lengthOk_of rfl hlength)
  refine ⟨fun e hp => ?_, fun x hp => ?_⟩
  · rw [hexec, State.readTable, hp]
    rfl
  · rw [hexec, State.readTable, hp]
    rfl

end Reads

/-! ### The record that READ TABLE names (R148) -/

section Tables

variable {table index : Nat} {x : TableRef}

theorem tableRef_table (h : tableRef table index = some x) : 1 ≤ table ∧ table ≤ 9 := by
  by_contra hnot
  have hnone : tableRef table index = none := by
    unfold tableRef
    split <;> first | omega | rfl
  rw [hnone] at h
  cases h

/-- A table of one record. -/
theorem ite_some_iff {α : Type} {c : Prop} [Decidable c] {a b : α} :
    (if c then some a else none) = some b ↔ c ∧ b = a := by
  split <;> simp [*, eq_comm]

theorem option_map_some_iff {α β : Type} {o : Option α} {f : α → β} {b : β} :
    o.map f = some b ↔ ∃ a, o = some a ∧ b = f a := by
  simp only [Option.map_eq_some_iff, eq_comm (a := b)]

/-- R148: each table with its indices. -/
theorem tableRef_iff :
    tableRef table index = some x ↔
      (table = 1 ∧ ((index = 1 ∧ x = .source .line) ∨ (index = 2 ∧ x = .source .batt))) ∨
      (table = 2 ∧ index = 0 ∧ x = .selector) ∨ (table = 3 ∧ index = 0 ∧ x = .budget) ∨
      (table = 4 ∧ ∃ c : ClassNo, index = c.number ∧ x = .cls c) ∨
      (table = 5 ∧ ∃ p : Port, index = p.number ∧ x = .port p) ∨
      (table = 6 ∧ index < 48 ∧ x = .route index) ∨ (table = 7 ∧ index = 0 ∧ x = .timing) ∨
      (table = 8 ∧ index = 0 ∧ x = .traffic) ∨ (table = 9 ∧ index = 0 ∧ x = .events) := by
  have hsource : (sourceOfCode index).map TableRef.source = some x ↔
      (index = 1 ∧ x = .source .line) ∨ (index = 2 ∧ x = .source .batt) := by
    rw [option_map_some_iff]
    constructor
    · rintro ⟨_ | _, hcode, rfl⟩
      · exact .inl ⟨sourceOfCode_eq_some.1 hcode, rfl⟩
      · exact .inr ⟨sourceOfCode_eq_some.1 hcode, rfl⟩
    · rintro (⟨rfl, rfl⟩ | ⟨rfl, rfl⟩) <;> exact ⟨_, rfl, rfl⟩
  have hroute : (if index < Config.routeEntries then some (TableRef.route index) else none) = some x ↔
      index < 48 ∧ x = .route index := ite_some_iff
  by_cases hrange : 1 ≤ table ∧ table ≤ 9
  · obtain ⟨hlow, hhigh⟩ := hrange
    interval_cases table
    all_goals simp only [tableRef, hsource, option_map_some_iff, ClassNo.ofNumber_eq_some, Port.ofNumber_eq_some,
      hroute, ite_some_iff, Nat.reduceEqDiff, false_and, true_and, or_false, false_or]
  · refine ⟨fun h => absurd (tableRef_table h) hrange, fun h => ?_⟩
    omega

end Tables
end Sys2Proof.Machine

namespace Sys2Proof.Machine

open Sys2Proof

/-! ### Numbers and flags in one byte (R153) -/

section Packing

variable {c m y n : Nat} {l : List Bool}

/-- A byte with a number of m bits, some flags above it, and what the layout leaves open above them. -/
theorem byte_packed_flag (hn : n = c + 2 ^ m * (weigh l + 2 ^ l.length * y)) (hc : c < 2 ^ m) {k : Nat} {b : Bool}
    (hk : l[k]? = some b) {w : Nat} (hw : l.length = w) (hm : m + w ≤ 8) : (n % 256).testBit (m + k) = b := by
  obtain ⟨hlt, hb⟩ := List.getElem?_eq_some_iff.1 hk
  have hbyte : m + k < 8 := by omega
  have hflag : (weigh l + 2 ^ l.length * y).testBit k = b := by
    rw [Nat.add_comm, Nat.testBit_two_pow_mul_add _ (weigh_lt l), if_pos hlt, weigh_testBit, List.getD_eq_getElem?_getD, hk,
      Option.getD_some]
  rw [show 256 = 2 ^ 8 by decide, Nat.testBit_mod_two_pow, hn, Nat.add_comm c, Nat.testBit_two_pow_mul_add _ hc,
    if_neg (by omega), Nat.add_sub_cancel_left, hflag]
  simp [hbyte]

theorem byte_packed_low (hn : n = c + 2 ^ m * (weigh l + 2 ^ l.length * y)) (hc : c < 2 ^ m) (hm : m ≤ 8) :
    n % 256 % 2 ^ m = c := by
  have hdvd : 2 ^ m ∣ 256 := Nat.pow_dvd_pow 2 hm
  rw [Nat.mod_mod_of_dvd _ hdvd, hn, Nat.add_mul_mod_self_left, Nat.mod_eq_of_lt hc]

/-- A field of four bits among two in each byte. -/
theorem nibbles_field {l : List Nat} (hlt : ∀ a ∈ l, a < 16) (hlength : l.length % 2 = 0) {i a : Nat}
    (h : l[i]? = some a) : byteAt (nibbles l) (i / 2) / 16 ^ (1 - i % 2) % 16 = a := by
  induction l using nibbles.induct generalizing i with
  | case1 x y rest ih =>
    simp only [List.mem_cons, forall_eq_or_imp] at hlt
    obtain ⟨hx, hy, hrest⟩ := hlt
    rw [nibbles]
    by_cases hi : i < 2
    · rw [Nat.div_eq_of_lt hi, byteAt_byte_cons]
      interval_cases i
      all_goals
        cases h
        simp only [Nat.reduceMod, Nat.reduceSub, Nat.reducePow]
        omega
    · obtain ⟨i, rfl⟩ := Nat.exists_eq_add_of_le' (Nat.not_lt.1 hi)
      rw [Nat.add_div_right i (by decide), Nat.add_mod_right, byteAt_cons_succ]
      simp only [List.length_cons] at hlength
      exact ih hrest (by omega) h
  | case2 l hl =>
    rcases l with _ | ⟨x, _ | ⟨y, rest⟩⟩
    · cases h
    · cases hlength
    · exact absurd rfl (hl x y rest)

/-- Two numbers of one byte. -/
theorem nibbles_pair {l : List Nat} {i a b : Nat} (ha : l[2 * i]? = some a) (hb : l[2 * i + 1]? = some b) :
    byteAt (nibbles l) i = (a * 16 + b) % 256 := by
  induction i generalizing l with
  | zero =>
    rcases l with _ | ⟨x, _ | ⟨y, rest⟩⟩
    · cases ha
    · cases hb
    · cases ha
      cases hb
      exact byteAt_byte_cons
  | succ i ih =>
    rcases l with _ | ⟨x, _ | ⟨y, rest⟩⟩
    · cases ha
    · cases ha
    · exact ih ha hb

/-- A field of two bits among four in each byte. -/
theorem quarters_field {l : List Nat} (hlt : ∀ a ∈ l, a < 4) (hlength : l.length % 4 = 0) {i a : Nat}
    (h : l[i]? = some a) : byteAt (quarters l) (i / 4) / 4 ^ (3 - i % 4) % 4 = a := by
  induction l using quarters.induct generalizing i with
  | case1 x y z w rest ih =>
    simp only [List.mem_cons, forall_eq_or_imp] at hlt
    obtain ⟨hx, hy, hz, hw, hrest⟩ := hlt
    rw [quarters]
    by_cases hi : i < 4
    · rw [Nat.div_eq_of_lt hi, byteAt_byte_cons]
      interval_cases i
      all_goals
        cases h
        simp only [Nat.reduceMod, Nat.reduceSub, Nat.reducePow]
        omega
    · obtain ⟨i, rfl⟩ := Nat.exists_eq_add_of_le' (Nat.not_lt.1 hi)
      rw [Nat.add_div_right i (by decide), Nat.add_mod_right, byteAt_cons_succ]
      simp only [List.length_cons] at hlength
      exact ih hrest (by omega) h
  | case2 l hl =>
    rcases l with _ | ⟨x, _ | ⟨y, _ | ⟨z, _ | ⟨w, rest⟩⟩⟩⟩
    · cases h
    · cases hlength
    · cases hlength
    · cases hlength
    · exact absurd rfl (hl x y z w rest)

theorem be16_value (n : Nat) : (byte (n / 256)).toNat * 256 + (byte n).toNat = n % 65536 := wordAt_be16 n []

theorem signed16_value (i : Int) : (((BitVec.ofInt 16 i).toNat % 65536 : Nat) : Int) = i % 65536 := by
  rw [BitVec.toNat_ofInt]
  omega

end Packing

section Parts

variable {part b : List Byte} {k w i : Nat}

/-- A part of w bytes stands in others from offset k on. -/
def Stands (part b : List Byte) (k w : Nat) : Prop :=
  ∃ front back, front.length = k ∧ part.length = w ∧ b = front ++ (part ++ back)

theorem Stands.getElem? (h : Stands part b k w) (hi : i < w) : b[k + i]? = part[i]? := by
  obtain ⟨front, back, rfl, rfl, rfl⟩ := h
  rw [List.getElem?_append_right (Nat.le_add_right _ _), Nat.add_sub_cancel_left, List.getElem?_append_left hi]

theorem Stands.byteAt (h : Stands part b k w) (hi : i < w) : byteAt b (k + i) = byteAt part i := by
  rw [Machine.byteAt, Machine.byteAt, List.getD_eq_getElem?_getD, List.getD_eq_getElem?_getD, h.getElem? hi]

theorem Stands.wordAt (h : Stands part b k w) (hi : i + 1 < w) : wordAt b (k + i) = wordAt part i := by
  rw [Machine.wordAt, Machine.wordAt, Nat.add_assoc, h.byteAt hi, h.byteAt (Nat.lt_of_succ_lt hi)]

end Parts

/-! ### READ STATUS (R148) -/

section Status

variable (s : State)

/-- Offsets 5 to 19 of READ STATUS. -/
def State.statusFigures (s : State) : List Byte :=
  be16 s.budget.d10 ++ be16 s.budget.cr ++ be16 s.budget.ci ++ be16 s.budget.c ++ be16 s.budget.b
    ++ be16 s.grantedSum ++ signed16 s.free ++ [byte (s.admission.length * 16 + s.granted.length)]

/-- Offsets 20 to 23, the port states. -/
def State.statusStates (s : State) : List Byte := nibbles (s.ports.toList.map fun u => u.state.code)

/-- Offsets 24 and 25, the port links. -/
def State.statusLinks (s : State) : List Byte := quarters (s.links.ports.toList.map fun l => l.state.code)

theorem State.statusBytes_eq :
    s.statusBytes = s.statusGate ++ (s.statusFigures ++ (s.statusStates ++ (s.statusLinks ++
      (s.statusPool ++ s.statusFrame)))) := by
  simp only [State.statusBytes, State.statusPower, State.statusFigures, State.statusStates, State.statusLinks,
    List.append_assoc]

theorem State.statusGate_length : s.statusGate.length = 5 := rfl

theorem State.statusFigures_length : s.statusFigures.length = 15 := rfl

theorem State.statusStates_length : s.statusStates.length = 4 := rfl

theorem State.statusLinks_length : s.statusLinks.length = 2 := rfl

theorem State.statusPool_length : s.statusPool.length = 12 := rfl

theorem State.statusFrame_length : s.statusFrame.length = 10 := rfl

theorem State.statusBytes_length : s.statusBytes.length = 48 := by
  simp only [State.statusBytes_eq, List.length_append, s.statusGate_length, s.statusFigures_length,
    s.statusStates_length, s.statusLinks_length, s.statusPool_length, s.statusFrame_length]

/-- Where each part of READ STATUS stands. -/
theorem State.statusBytes_parts :
    Stands s.statusGate s.statusBytes 0 5 ∧ Stands s.statusFigures s.statusBytes 5 15 ∧
    Stands s.statusStates s.statusBytes 20 4 ∧ Stands s.statusLinks s.statusBytes 24 2 ∧
    Stands s.statusPool s.statusBytes 26 12 ∧ Stands s.statusFrame s.statusBytes 38 10 := by
  rw [State.statusBytes_eq]
  refine ⟨⟨[], _, rfl, rfl, rfl⟩, ⟨s.statusGate, _, rfl, rfl, rfl⟩,
    ⟨s.statusGate ++ s.statusFigures, s.statusLinks ++ (s.statusPool ++ s.statusFrame), rfl, rfl, ?_⟩,
    ⟨s.statusGate ++ s.statusFigures ++ s.statusStates, s.statusPool ++ s.statusFrame, rfl, rfl, ?_⟩,
    ⟨s.statusGate ++ s.statusFigures ++ s.statusStates ++ s.statusLinks, s.statusFrame, rfl, rfl, ?_⟩,
    ⟨s.statusGate ++ s.statusFigures ++ s.statusStates ++ s.statusLinks ++ s.statusPool, [], rfl, rfl, ?_⟩⟩
  all_goals simp only [List.append_assoc, List.append_nil]

theorem State.statusBytes_gate :
    s.statusBytes[0]? = some 0 ∧
    (byteAt s.statusBytes 1).testBit 0 = s.mgmt.operational ∧ (byteAt s.statusBytes 1).testBit 1 = s.mgmt.lineMark ∧
    (byteAt s.statusBytes 1).testBit 2 = s.mgmt.battMark ∧ (byteAt s.statusBytes 1).testBit 3 = s.mgmt.budgetMark ∧
    (byteAt s.statusBytes 1).testBit 4 = s.inForce ∧ (byteAt s.statusBytes 1).testBit 5 = s.timing.shadowWritten ∧
    (byteAt s.statusBytes 1).testBit 6 = (s.phases.get .u).released := by
  let flags : List Bool := [s.mgmt.operational, s.mgmt.lineMark, s.mgmt.battMark, s.mgmt.budgetMark, s.inForce,
    s.timing.shadowWritten, (s.phases.get .u).released]
  have hat : byteAt s.statusBytes 1 = byteAt s.statusGate 1 := s.statusBytes_parts.1.byteAt (i := 1) (by decide)
  have hbyte : byteAt s.statusGate 1 = (bit s.mgmt.operational 1 + bit s.mgmt.lineMark 2 + bit s.mgmt.battMark 4
      + bit s.mgmt.budgetMark 8 + bit s.inForce 16 + bit s.timing.shadowWritten 32 + bit (s.phases.get .u).released 64
      + s.absent .gateBit % 2 * 128) % 256 := byte_toNat _
  have hsum : bit s.mgmt.operational 1 + bit s.mgmt.lineMark 2 + bit s.mgmt.battMark 4
      + bit s.mgmt.budgetMark 8 + bit s.inForce 16 + bit s.timing.shadowWritten 32 + bit (s.phases.get .u).released 64
      + s.absent .gateBit % 2 * 128 = 0 + 2 ^ 0 * (weigh flags + 2 ^ flags.length * (s.absent .gateBit % 2)) := by
    simp only [bit_eq, weigh, flags, List.length_cons, List.length_nil]
    ring
  have hflag : ∀ {k b}, flags[k]? = some b → (byteAt s.statusBytes 1).testBit k = b := fun {k b} hk => by
    rw [hat, hbyte, ← Nat.zero_add k]
    exact byte_packed_flag hsum (by decide) hk (w := 7) rfl (by decide)
  exact ⟨rfl, hflag rfl, hflag rfl, hflag rfl, hflag rfl, hflag rfl, hflag rfl, hflag rfl⟩

theorem State.statusBytes_selector :
    byteAt s.statusBytes 2 % 8 = s.sel.state.code ∧ byteAt s.statusBytes 2 / 8 % 4 = sourceCode s.sel.state.target ∧
    (byteAt s.statusBytes 2).testBit 5 = s.sel.change.isSome ∧
    ∀ c ∈ s.sel.change, (byteAt s.statusBytes 2).testBit 6 = decide (c.target = .batt) ∧
      s.statusBytes[3]? = some c.frame := by
  have hcode : s.sel.state.code < 8 ∧ sourceCode s.sel.state.target < 4 := by
    rcases s.sel.state with _ | (_ | _) | (_ | _) | _ | _ <;> decide
  obtain ⟨hstate, htarget⟩ := hcode
  have hlow : s.sel.state.code + sourceCode s.sel.state.target * 8 < 2 ^ 5 := by omega
  have hbyte : byteAt s.statusBytes 2 = s.selectorByte.toNat := s.statusBytes_parts.1.byteAt (i := 2) (by decide)
  cases hchange : s.sel.change with
  | none =>
    have hvalue : byteAt s.statusBytes 2 = (s.sel.state.code + sourceCode s.sel.state.target * 8
        + 2 ^ 5 * (weigh [false] + 2 ^ [false].length *
          (s.absent .changeTarget % 2 + 2 * (s.absent .selectorBit % 2)))) % 256 := by
      rw [hbyte, State.selectorByte, hchange, byte_toNat]
      simp only [Option.isSome_none, bit_eq, weigh, List.length_cons, List.length_nil, Bool.toNat_false]
      congr 1
      ring
    have hcode := byte_packed_low (y := s.absent .changeTarget % 2 + 2 * (s.absent .selectorBit % 2)) (l := [false]) rfl
      hlow (by decide)
    rw [hvalue]
    exact ⟨by omega, by omega, byte_packed_flag (k := 0) rfl hlow rfl (w := 1) rfl (by decide), fun c hc => (by cases hc)⟩
  | some c =>
    have hvalue : byteAt s.statusBytes 2 = (s.sel.state.code + sourceCode s.sel.state.target * 8
        + 2 ^ 5 * (weigh [true, decide (c.target = .batt)]
          + 2 ^ [true, decide (c.target = .batt)].length * (s.absent .selectorBit % 2))) % 256 := by
      rw [hbyte, State.selectorByte, hchange, byte_toNat]
      simp only [Option.isSome_some, bit_eq, weigh, List.length_cons, List.length_nil, Bool.toNat_true]
      congr 1
      ring
    have hcode := byte_packed_low (y := s.absent .selectorBit % 2) (l := [true, decide (c.target = .batt)]) rfl
      hlow (by decide)
    have hframe : s.statusBytes[3]? = some c.frame := by
      have hat : s.statusBytes[3]? = some s.changeByte := s.statusBytes_parts.1.getElem? (i := 3) (by decide)
      rw [hat, State.changeByte, hchange]
    rw [hvalue]
    refine ⟨by omega, by omega, byte_packed_flag (k := 0) rfl hlow rfl (w := 2) rfl (by decide), fun d hd => ?_⟩
    cases hd
    exact ⟨byte_packed_flag (k := 1) rfl hlow rfl (w := 2) rfl (by decide), hframe⟩

theorem State.statusBytes_supply :
    byteAt s.statusBytes 4 % 4 = s.supply.line.qual.code ∧ byteAt s.statusBytes 4 / 4 % 4 = s.supply.batt.qual.code ∧
    byteAt s.statusBytes 4 / 16 % 4 = s.budget.overcommit.code ∧ (byteAt s.statusBytes 4).testBit 6 = s.held ∧
    (byteAt s.statusBytes 4).testBit 7 = (s.links.get .u).receivedHold := by
  have hqual : ∀ q : Qual, q.code < 4 := fun q => by cases q <;> decide
  have hover : s.budget.overcommit.code < 4 := by cases s.budget.overcommit <;> decide
  have hline := hqual s.supply.line.qual
  have hbatt := hqual s.supply.batt.qual
  have hlow : s.supply.line.qual.code + s.supply.batt.qual.code * 4 + s.budget.overcommit.code * 16 < 2 ^ 6 := by omega
  have hat : byteAt s.statusBytes 4 = byteAt s.statusGate 4 := s.statusBytes_parts.1.byteAt (i := 4) (by decide)
  have hbyte : byteAt s.statusGate 4 = (s.supply.line.qual.code + s.supply.batt.qual.code * 4
      + s.budget.overcommit.code * 16 + bit s.held 64 + bit (s.links.get .u).receivedHold 128) % 256 := byte_toNat _
  have hsum : s.supply.line.qual.code + s.supply.batt.qual.code * 4 + s.budget.overcommit.code * 16 + bit s.held 64
      + bit (s.links.get .u).receivedHold 128 = s.supply.line.qual.code + s.supply.batt.qual.code * 4
      + s.budget.overcommit.code * 16 + 2 ^ 6 * (weigh [s.held, (s.links.get .u).receivedHold]
        + 2 ^ [s.held, (s.links.get .u).receivedHold].length * 0) := by
    simp only [bit_eq, weigh, List.length_cons, List.length_nil]
    ring
  have hcode := byte_packed_low hsum hlow (by decide)
  rw [hat, hbyte]
  exact ⟨by omega, by omega, by omega, byte_packed_flag (k := 0) hsum hlow rfl (w := 2) rfl (by decide),
    byte_packed_flag (k := 1) hsum hlow rfl (w := 2) rfl (by decide)⟩

theorem State.statusBytes_power :
    wordAt s.statusBytes 5 = s.budget.d10 % 65536 ∧ wordAt s.statusBytes 7 = s.budget.cr % 65536 ∧
    wordAt s.statusBytes 9 = s.budget.ci % 65536 ∧ wordAt s.statusBytes 11 = s.budget.c % 65536 ∧
    wordAt s.statusBytes 13 = s.budget.b % 65536 ∧ wordAt s.statusBytes 15 = s.grantedSum % 65536 ∧
    (wordAt s.statusBytes 17 : Int) = s.free % 65536 ∧
    byteAt s.statusBytes 19 = (s.admission.length * 16 + s.granted.length) % 256 := by
  obtain ⟨-, hfigures, -⟩ := s.statusBytes_parts
  have word : ∀ {i n}, i + 1 < 15 → wordAt s.statusFigures i = n → wordAt s.statusBytes (5 + i) = n := fun hi hn =>
    (hfigures.wordAt hi).trans hn
  have hfree : wordAt s.statusBytes 17 = (BitVec.ofInt 16 s.free).toNat % 65536 :=
    word (i := 12) (by decide) (be16_value _)
  refine ⟨word (i := 0) (by decide) (be16_value _), word (i := 2) (by decide) (be16_value _),
    word (i := 4) (by decide) (be16_value _), word (i := 6) (by decide) (be16_value _),
    word (i := 8) (by decide) (be16_value _), word (i := 10) (by decide) (be16_value _), ?_,
    (hfigures.byteAt (i := 14) (by decide)).trans (byte_toNat _)⟩
  rw [hfree]
  exact signed16_value s.free

theorem PortState.code_lt (x : PortState) : x.code < 16 := by cases x <;> decide

theorem LinkState.code_lt (x : LinkState) : x.code < 4 := by cases x <;> decide

theorem PerPort.toList_getElem? {α : Type} (x : PerPort α) (p : Port) : x.toList[p.number - 1]? = some (x.get p) := by
  rw [PerPort.toList, List.getElem?_map, Port.all_number, Option.map_some]

theorem Port.number_parity (p : Port) : 1 - (p.number - 1) % 2 = p.number % 2 := by cases p <;> rfl

theorem State.statusBytes_port (p : Port) :
    byteAt s.statusBytes (20 + (p.number - 1) / 2) / 16 ^ (p.number % 2) % 16 = (s.ports.get p).state.code ∧
    byteAt s.statusBytes (24 + (p.number - 1) / 4) / 4 ^ (3 - (p.number - 1) % 4) % 4 = (s.linkState (.port p)).code := by
  let states := s.ports.toList.map fun u => u.state.code
  let links := s.links.ports.toList.map fun l => l.state.code
  have hp := Port.number_le p
  obtain ⟨-, -, kstates, klinks, -⟩ := s.statusBytes_parts
  have hstates : byteAt s.statusBytes (20 + (p.number - 1) / 2) = byteAt (nibbles states) ((p.number - 1) / 2) :=
    kstates.byteAt (by omega)
  have hlinks : byteAt s.statusBytes (24 + (p.number - 1) / 4) = byteAt (quarters links) ((p.number - 1) / 4) :=
    klinks.byteAt (by omega)
  have hstate : states[p.number - 1]? = some (s.ports.get p).state.code := by
    rw [List.getElem?_map, PerPort.toList_getElem?, Option.map_some]
  have hlink : links[p.number - 1]? = some (s.linkState (.port p)).code := by
    rw [List.getElem?_map, PerPort.toList_getElem?, Option.map_some]
    rfl
  have hcount : states.length % 2 = 0 := by simp [states, PerPort.toList, Port.all]
  have hlength : links.length % 4 = 0 := by simp [links, PerPort.toList, Port.all]
  rw [hstates, hlinks, ← Port.number_parity]
  refine ⟨nibbles_field (List.forall_mem_map.2 fun u _ => PortState.code_lt _) hcount hstate,
    quarters_field (List.forall_mem_map.2 fun l _ => LinkState.code_lt _) hlength hlink⟩

theorem State.freeCells_le (s : State) : s.freeCells ≤ 128 := Nat.sub_le _ _

theorem State.statusBytes_pool :
    byteAt s.statusBytes 26 = s.freeCells ∧ byteAt s.statusBytes 27 = s.freeRecords % 256 ∧
    byteAt s.statusBytes 28 = s.tables.holdLevel % 256 ∧
    ∀ d : Dest, byteAt s.statusBytes (29 + d.number) =
      ((s.queues.get d).urgent.length * 16 + (s.queues.get d).bulk.length) % 256 := by
  obtain ⟨-, -, -, -, hpool, -⟩ := s.statusBytes_parts
  have hcells : byteAt s.statusBytes 26 = s.freeCells % 256 := (hpool.byteAt (i := 0) (by decide)).trans (byte_toNat _)
  have hle := s.freeCells_le
  refine ⟨by omega, (hpool.byteAt (i := 1) (by decide)).trans (byte_toNat _),
    (hpool.byteAt (i := 2) (by decide)).trans (byte_toNat _), fun d => ?_⟩
  let lengths := s.queues.toList.flatMap fun q => [q.urgent.length, q.bulk.length]
  have hd := Dest.number_lt d
  have hpart : byteAt s.statusBytes (26 + (3 + d.number)) = byteAt s.statusPool (3 + d.number) :=
    hpool.byteAt (by omega)
  have hqueues : byteAt s.statusBytes (29 + d.number) = byteAt (nibbles lengths) d.number := by
    rw [show 29 + d.number = 26 + (3 + d.number) by omega, hpart, Nat.add_comm]
    rfl
  have hat := PerDest.toList_getElem? s.queues d
  rw [hqueues]
  exact nibbles_pair (getElem?_flatMap_block (n := 2) (fun _ => rfl) hat (j := 0) (by decide))
    (getElem?_flatMap_block (n := 2) (fun _ => rfl) hat (j := 1) (by decide))

theorem State.statusBytes_frame :
    byteAt s.statusBytes 38 = (s.timing.sync.code * 64 + s.timing.holdover) % 256 ∧
    s.statusBytes[39]? = some s.timing.counter ∧ wordAt s.statusBytes 40 = s.timing.period % 65536 ∧
    wordAt s.statusBytes 42 = (s.phases.get .u).active % 65536 ∧
    (s.Bounded → byteAt s.statusBytes 44 / 16 = (s.phases.get .u).markCount ∧
      byteAt s.statusBytes 44 % 8 = (s.queues.get .u).timed.length) ∧
    wordAt s.statusBytes 45 < 32768 ∧
    (∀ h : HubItem, (wordAt s.statusBytes 45).testBit h.number = (s.events.marks (.hub h)).set) ∧
    ∀ p : Port, (byteAt s.statusBytes 47).testBit (p.number - 1) = (s.events.marks (.mark p)).set := by
  obtain ⟨-, -, -, -, -, hframe⟩ := s.statusBytes_parts
  have hhub := hubWord_lt s.events.report.hub
  have hports := markByte_lt s.events.report.ports
  have hword : wordAt s.statusBytes 45 = hubWord s.events.report.hub := by
    have hvalue : wordAt s.statusBytes 45 = hubWord s.events.report.hub % 65536 :=
      (hframe.wordAt (i := 7) (by decide)).trans (be16_value _)
    rw [hvalue, Nat.mod_eq_of_lt (by omega)]
  have hmarks : byteAt s.statusBytes 47 = markByte s.events.report.ports := by
    have hvalue : byteAt s.statusBytes 47 = markByte s.events.report.ports % 256 :=
      (hframe.byteAt (i := 9) (by decide)).trans (byte_toNat _)
    rw [hvalue, Nat.mod_eq_of_lt hports]
  have htimed : byteAt s.statusBytes 44 = ((s.phases.get .u).markCount * 16 + (s.queues.get .u).timed.length
      + s.absent .timedBit % 2 * 8) % 256 := (hframe.byteAt (i := 6) (by decide)).trans (byte_toNat _)
  refine ⟨(hframe.byteAt (i := 0) (by decide)).trans (byte_toNat _), hframe.getElem? (i := 1) (by decide),
    (hframe.wordAt (i := 2) (by decide)).trans (be16_value _), (hframe.wordAt (i := 4) (by decide)).trans (be16_value _),
    fun hbounded => ?_, by omega, fun h => ?_, fun p => ?_⟩
  · obtain ⟨-, -, -, hqueues, hcounts, -⟩ := hbounded
    obtain ⟨-, -, htimedle⟩ := hqueues .u
    have hcount := hcounts .u
    omega
  · rw [hword, hubWord_testBit]
    exact s.events.report_carries (.hub h)
  · rw [hmarks, markByte_testBit]
    exact s.events.report_carries (.mark p)

end Status
end Sys2Proof.Machine

namespace Sys2Proof.Machine

open Sys2Proof

/-! ### Places on a list and remaining times (R154) -/

section Places

variable {α : Type} {f : α → Bool} {l : List α}

theorem placeOf_of_none (h : ∀ a ∈ l, f a = false) : placeOf f l = 0 := by
  rw [placeOf, List.findIdx?_eq_none_iff.2 h]

/-- The place counts from 1. -/
theorem placeOf_of_first {front back : List α} {a : α} (hl : l = front ++ a :: back) (ha : f a = true)
    (hfront : ∀ c ∈ front, f c = false) : placeOf f l = front.length + 1 := by
  have hfind : l.findIdx? f = some front.length := by
    rw [hl, List.findIdx?_append, List.findIdx?_eq_none_iff.2 hfront, List.findIdx?_cons, ha]
    simp
  rw [placeOf, hfind]

variable {s : State} {timer : Option Nat} {k unit : Nat}

/-- Log 14: a remaining time is one of the two nearest numbers. -/
theorem State.remaining_spec :
    (timer = none → s.remaining k unit timer % 65536 = 65535) ∧
    ∀ n, timer = some n → s.remaining k unit timer % 65536 = n / unit % 65536 ∨
      (n % unit ≠ 0 ∧ s.remaining k unit timer % 65536 = (n / unit + 1) % 65536) := by
  refine ⟨?_, ?_⟩
  · rintro rfl
    rfl
  · rintro n rfl
    rw [State.remaining]
    split
    · next hround => exact .inr ⟨hround.1, rfl⟩
    · exact .inl rfl

end Places

/-! ### READ PORT (R148) -/

section ReadPort

variable (s : State) (p : Port)

/-- Where each part of READ PORT stands. -/
theorem State.portBytes_parts :
    Stands (s.portHead p) (s.portBytes p) 0 5 ∧ Stands [s.classByte p] (s.portBytes p) 5 1 ∧
    Stands (s.portAdmission p) (s.portBytes p) 6 19 ∧ Stands (s.portPower p) (s.portBytes p) 25 12 ∧
    Stands (s.portLink p) (s.portBytes p) 37 5 := by
  refine ⟨⟨[], [s.classByte p] ++ s.portAdmission p ++ s.portPower p ++ s.portLink p, rfl, rfl, ?_⟩,
    ⟨s.portHead p, s.portAdmission p ++ s.portPower p ++ s.portLink p, rfl, rfl, ?_⟩,
    ⟨s.portHead p ++ [s.classByte p], s.portPower p ++ s.portLink p, rfl, rfl, ?_⟩,
    ⟨s.portHead p ++ [s.classByte p] ++ s.portAdmission p, s.portLink p, rfl, rfl, ?_⟩,
    ⟨s.portHead p ++ [s.classByte p] ++ s.portAdmission p ++ s.portPower p, [], rfl, rfl, ?_⟩⟩
  all_goals simp only [State.portBytes, List.append_assoc, List.append_nil, List.nil_append]

theorem State.portBytes_length : (s.portBytes p).length = 42 := rfl

theorem State.portBytes_head :
    (s.portBytes p)[0]? = some 0 ∧ byteAt (s.portBytes p) 1 = p.number ∧
    byteAt (s.portBytes p) 2 % 16 = (s.ports.get p).state.code ∧
    (byteAt (s.portBytes p) 2).testBit 4 = (s.ports.get p).state.closed ∧
    (byteAt (s.portBytes p) 2).testBit 5 = decide ((s.ports.get p).stable = .attached) ∧
    (byteAt (s.portBytes p) 2).testBit 6 = decide ((s.ports.get p).present = .attached) ∧
    (byteAt (s.portBytes p) 2).testBit 7 = (s.ports.get p).debounce.isSome ∧
    wordAt (s.portBytes p) 3 = (s.ports.get p).sense % 65536 := by
  obtain ⟨hhead, -⟩ := s.portBytes_parts p
  have hle := Port.number_le p
  have hnumber : byteAt (s.portBytes p) 1 = p.number % 256 := (hhead.byteAt (i := 1) (by decide)).trans (byte_toNat _)
  let u := s.ports.get p
  let flags : List Bool := [u.state.closed, decide (u.stable = .attached), decide (u.present = .attached), u.debounce.isSome]
  have hbyte : byteAt (s.portBytes p) 2 = (u.state.code + bit u.state.closed 16
      + bit (decide (u.stable = .attached)) 32 + bit (decide (u.present = .attached)) 64
      + bit u.debounce.isSome 128) % 256 := (hhead.byteAt (i := 2) (by decide)).trans (byte_toNat _)
  have hsum : u.state.code + bit u.state.closed 16 + bit (decide (u.stable = .attached)) 32
      + bit (decide (u.present = .attached)) 64 + bit u.debounce.isSome 128 =
      u.state.code + 2 ^ 4 * (weigh flags + 2 ^ flags.length * 0) := by
    simp only [bit_eq, weigh, flags, List.length_cons, List.length_nil]
    ring
  have hlow : u.state.code < 2 ^ 4 := PortState.code_lt _
  rw [hbyte]
  exact ⟨hhead.getElem? (i := 0) (by decide), by omega, byte_packed_low hsum hlow (by decide),
    byte_packed_flag (k := 0) hsum hlow rfl (w := 4) rfl (by decide),
    byte_packed_flag (k := 1) hsum hlow rfl (w := 4) rfl (by decide),
    byte_packed_flag (k := 2) hsum hlow rfl (w := 4) rfl (by decide),
    byte_packed_flag (k := 3) hsum hlow rfl (w := 4) rfl (by decide),
    (hhead.wordAt (i := 3) (by decide)).trans (be16_value _)⟩

/-- The class half of offset 5. -/
def State.classField (s : State) (p : Port) : Nat :=
  match (s.ports.get p).eff with
  | some e => e.cls.number + 8 + bit e.fixed 16
  | none => s.absent .classNumber % 8 + s.absent .classFixed % 2 * 16

theorem State.classField_some {e : EffClass} (h : (s.ports.get p).eff = some e) :
    s.classField p = e.cls.number + 2 ^ 3 * (weigh [true, e.fixed] + 2 ^ 2 * 0) := by
  rw [State.classField, h]
  simp only [bit_eq, weigh, Bool.toNat_true]
  ring

theorem State.classField_none (h : (s.ports.get p).eff = none) :
    s.classField p = s.absent .classNumber % 8 + 2 ^ 3 * (weigh [false] + 2 ^ 1 * (s.absent .classFixed % 2)) := by
  rw [State.classField, h]
  simp only [weigh, Bool.toNat_false]
  ring

theorem State.classField_lt : s.classField p < 32 := by
  cases h : (s.ports.get p).eff with
  | none =>
    rw [s.classField_none p h]
    simp only [weigh, Bool.toNat_false]
    omega
  | some e =>
    have hcls := ClassNo.number_le e.cls
    have hfixed := Bool.toNat_le e.fixed
    rw [s.classField_some p h]
    simp only [weigh, Bool.toNat_true]
    omega

/-- The priority half of offset 5, in units of 32. -/
def State.priorityField (s : State) (p : Port) : Nat :=
  match s.priority? p with
  | some n => n + 4
  | none => s.absent .priority % 4

theorem State.portBytes_at5 :
    byteAt (s.portBytes p) 5 = (s.classField p + 32 * s.priorityField p) % 256 := by
  have hpart : byteAt (s.portBytes p) 5 = (s.classByte p).toNat :=
    (s.portBytes_parts p).2.1.byteAt (i := 0) (by decide)
  rw [hpart, State.classByte, byte_toNat, State.classField, State.priorityField]
  congr 2
  cases s.priority? p with
  | none => exact Nat.mul_comm _ _
  | some n => exact (by omega : n * 32 + 128 = 32 * (n + 4))

/-- Offset 5 holds the class in its low five bits and the priority above them. -/
theorem State.portBytes_class :
    (byteAt (s.portBytes p) 5).testBit 3 = (s.ports.get p).eff.isSome ∧
    (∀ e ∈ (s.ports.get p).eff, byteAt (s.portBytes p) 5 % 8 = e.cls.number ∧
      (byteAt (s.portBytes p) 5).testBit 4 = e.fixed) ∧
    (s.priority? p = none → (byteAt (s.portBytes p) 5).testBit 7 = false) ∧
    ∀ n ∈ s.priority? p, n ≤ 3 → byteAt (s.portBytes p) 5 / 32 % 4 = n ∧ (byteAt (s.portBytes p) 5).testBit 7 = true := by
  have hlow := s.classField_lt p
  rw [s.portBytes_at5 p]
  refine ⟨?_, fun e he => ?_, fun hnone => ?_, fun n hn hle => ?_⟩
  · cases h : (s.ports.get p).eff with
    | none =>
      have hsum : s.classField p + 32 * s.priorityField p = s.absent .classNumber % 8
          + 2 ^ 3 * (weigh [false] + 2 ^ 1 * (s.absent .classFixed % 2 + 2 * s.priorityField p)) := by
        rw [s.classField_none p h]
        ring
      exact byte_packed_flag (k := 0) hsum (by omega) rfl (w := 1) rfl (by decide)
    | some e =>
      have hcls := ClassNo.number_le e.cls
      have hsum : s.classField p + 32 * s.priorityField p = e.cls.number
          + 2 ^ 3 * (weigh [true, e.fixed] + 2 ^ 2 * s.priorityField p) := by
        rw [s.classField_some p h]
        ring
      exact byte_packed_flag (k := 0) hsum (by omega) rfl (w := 2) rfl (by decide)
  · have hcls := ClassNo.number_le e.cls
    have hsum : s.classField p + 32 * s.priorityField p = e.cls.number
        + 2 ^ 3 * (weigh [true, e.fixed] + 2 ^ 2 * s.priorityField p) := by
      rw [s.classField_some p he]
      ring
    exact ⟨byte_packed_low hsum (by omega) (by decide), byte_packed_flag (k := 1) hsum (by omega) rfl (w := 2) rfl (by decide)⟩
  · have hfield : s.priorityField p = s.absent .priority % 4 := by rw [State.priorityField, hnone]
    have hsum : s.classField p + 32 * s.priorityField p =
        s.classField p + 32 * s.priorityField p + 2 ^ 7 * (weigh [false] + 2 ^ 1 * 0) := by simp [weigh]
    exact byte_packed_flag (k := 0) hsum (by omega) rfl (w := 1) rfl (by decide)
  · have hfield : s.priorityField p = n + 4 := by rw [State.priorityField, show s.priority? p = some n from hn]
    have hsum : s.classField p + 32 * s.priorityField p =
        s.classField p + 32 * n + 2 ^ 7 * (weigh [true] + 2 ^ 1 * 0) := by
      rw [hfield]
      simp only [weigh, Bool.toNat_true]
      ring
    exact ⟨by omega, byte_packed_flag (k := 0) hsum (by omega) rfl (w := 1) rfl (by decide)⟩

theorem State.portBytes_granted :
    wordAt (s.portBytes p) 6 = (s.ports.get p).grant % 65536 ∧ (p ∉ s.granted → byteAt (s.portBytes p) 8 = 0) ∧
    ∀ front back, s.granted = front ++ p :: back → p ∉ front → byteAt (s.portBytes p) 8 = (front.length + 1) % 256 := by
  obtain ⟨-, -, hpart, -⟩ := s.portBytes_parts p
  have hplace : byteAt (s.portBytes p) 8 = placeOf (fun q => decide (q = p)) s.granted % 256 :=
    (hpart.byteAt (i := 2) (by decide)).trans (byte_toNat _)
  refine ⟨(hpart.wordAt (i := 0) (by decide)).trans (be16_value _), fun hp => ?_, fun front back hl hp => ?_⟩
  · have hother : ∀ q ∈ s.granted, decide (q = p) = false := fun q hq =>
      decide_eq_false fun h => hp (by rw [← h]; exact hq)
    rw [hplace, placeOf_of_none hother]
  · have hother : ∀ q ∈ front, decide (q = p) = false := fun q hq =>
      decide_eq_false fun h => hp (by rw [← h]; exact hq)
    rw [hplace, placeOf_of_first hl (decide_eq_true rfl) hother]

theorem Reason.code_lt (x : Reason) : x.code < 256 := by cases x <;> decide

theorem State.portBytes_entry :
    (s.entryOf p = none → byteAt (s.portBytes p) 9 = 0 ∧ byteAt (s.portBytes p) 12 = 0) ∧
    ∀ e front back, s.admission = front ++ e :: back → e.port = p → (∀ f ∈ front, f.port ≠ p) →
      byteAt (s.portBytes p) 9 = e.reason.code ∧ wordAt (s.portBytes p) 10 = e.draw % 65536 ∧
      byteAt (s.portBytes p) 12 = (front.length + 1) % 256 := by
  obtain ⟨-, -, hpart, -⟩ := s.portBytes_parts p
  have hreason : byteAt (s.portBytes p) 9 = ((s.entryOf p).map fun e => e.reason.code).getD 0 % 256 :=
    (hpart.byteAt (i := 3) (by decide)).trans (byte_toNat _)
  have hdraw : wordAt (s.portBytes p) 10 = ((s.entryOf p).map (·.draw)).getD (s.absent .entryDraw) % 65536 :=
    (hpart.wordAt (i := 4) (by decide)).trans (be16_value _)
  have hplace : byteAt (s.portBytes p) 12 = placeOf (fun e => decide (e.port = p)) s.admission % 256 :=
    (hpart.byteAt (i := 6) (by decide)).trans (byte_toNat _)
  refine ⟨fun hnone => ?_, fun e front back hl he hfront => ?_⟩
  · have hall : ∀ e ∈ s.admission, decide (e.port = p) = false := fun e hmem =>
      Bool.eq_false_iff.2 (List.find?_eq_none.1 hnone e hmem)
    rw [hreason, hplace, hnone, placeOf_of_none hall]
    exact ⟨rfl, rfl⟩
  · have hbefore : ∀ f ∈ front, decide (f.port = p) = false := fun f hf => decide_eq_false (hfront f hf)
    have hentry : s.entryOf p = some e := by
      rw [State.entryOf, hl, List.find?_append, List.find?_eq_none.2 fun f hf => by simp [hbefore f hf]]
      simp [he]
    rw [hreason, hdraw, hplace, hentry, placeOf_of_first hl (decide_eq_true he) hbefore]
    exact ⟨Nat.mod_eq_of_lt (Reason.code_lt e.reason), rfl, rfl⟩

theorem State.portBytes_timers {offset unit : Nat} {timer : Option Nat}
    (h : (offset, unit, timer) ∈ [(13, 100000, (s.entryOf p).bind (·.wait)), (15, 100000, (s.entryOf p).bind (·.holdOff)),
      (35, 1000, (s.ports.get p).reportedTimer)]) :
    (timer = none → wordAt (s.portBytes p) offset = 65535) ∧
    ∀ n, timer = some n → wordAt (s.portBytes p) offset = n / unit % 65536 ∨
      (n % unit ≠ 0 ∧ wordAt (s.portBytes p) offset = (n / unit + 1) % 65536) := by
  obtain ⟨-, -, hadmission, hpower, -⟩ := s.portBytes_parts p
  simp only [List.mem_cons, Prod.mk.injEq, List.not_mem_nil, or_false] at h
  rcases h with ⟨rfl, rfl, rfl⟩ | ⟨rfl, rfl, rfl⟩ | ⟨rfl, rfl, rfl⟩
  · rw [(hadmission.wordAt (i := 7) (by decide)).trans (be16_value _)]
    exact State.remaining_spec
  · rw [(hadmission.wordAt (i := 9) (by decide)).trans (be16_value _)]
    exact State.remaining_spec
  · rw [(hpower.wordAt (i := 10) (by decide)).trans (be16_value _)]
    exact State.remaining_spec

theorem State.portBytes_counters :
    ((s.portBytes p).drop 17).take 8 =
      be32 (s.counters.port.get p).grants.toNat ++ be32 (s.counters.port.get p).sheds.toNat :=
  rfl

theorem State.portBytes_power :
    wordAt (s.portBytes p) 25 = (s.ports.get p).current % 65536 ∧
    ((s.ports.get p).state ≠ .on → (s.ports.get p).state ≠ .limit →
      wordAt (s.portBytes p) 27 = 0 ∧ wordAt (s.portBytes p) 29 = 0) ∧
    (∀ f ∈ (s.ports.get p).figures, (s.ports.get p).state = .on ∨ (s.ports.get p).state = .limit →
      wordAt (s.portBytes p) 27 = f.1 % 65536 ∧ wordAt (s.portBytes p) 29 = f.2 % 65536) ∧
    byteAt (s.portBytes p) 31 = ((s.ports.get p).rampPos + (s.ports.get p).heldCount * 32) % 256 := by
  obtain ⟨-, -, -, hpower, -⟩ := s.portBytes_parts p
  have hfirst : wordAt (s.portBytes p) 27 = (s.portFigures p).1 % 65536 :=
    (hpower.wordAt (i := 2) (by decide)).trans (be16_value _)
  have hsecond : wordAt (s.portBytes p) 29 = (s.portFigures p).2 % 65536 :=
    (hpower.wordAt (i := 4) (by decide)).trans (be16_value _)
  refine ⟨(hpower.wordAt (i := 0) (by decide)).trans (be16_value _), fun hon hlimit => ?_, fun f hf hstate => ?_,
    (hpower.byteAt (i := 6) (by decide)).trans (byte_toNat _)⟩
  · have hfigures : s.portFigures p = (0, 0) := if_neg (not_or.2 ⟨hon, hlimit⟩)
    rw [hfirst, hsecond, hfigures]
    exact ⟨rfl, rfl⟩
  · have hfigures : s.portFigures p = f := by
      rw [State.portFigures]
      refine (if_pos hstate).trans ?_
      rw [hf]
      rfl
    rw [hfirst, hsecond, hfigures]
    exact ⟨rfl, rfl⟩

theorem State.portBytes_retry :
    byteAt (s.portBytes p) 32 % 128 =
      ((s.ports.get p).retryCount + ((s.ports.get p).lastTrip.map TripReason.code).getD 0 * 32) % 128 ∧
    ((s.ports.get p).state = .locked → (s.ports.get p).retryCount < 32 →
      (byteAt (s.portBytes p) 32).testBit 7 = decide ((s.ports.get p).lockReason = some .senseShort)) ∧
    ∀ n ∈ (s.ports.get p).retryDraw, wordAt (s.portBytes p) 33 = n % 65536 := by
  obtain ⟨-, -, -, hpower, -⟩ := s.portBytes_parts p
  set u := s.ports.get p
  have hbyte : byteAt (s.portBytes p) 32 = (u.retryCount + (u.lastTrip.map TripReason.code).getD 0 * 32
      + (if u.state = .locked then bit (decide (u.lockReason = some .senseShort)) 128
          else s.absent .lockReason % 2 * 128)) % 256 := (hpower.byteAt (i := 7) (by decide)).trans (byte_toNat _)
  have hdraw : wordAt (s.portBytes p) 33 = u.retryDraw.getD (s.absent .retryDraw) % 65536 :=
    (hpower.wordAt (i := 8) (by decide)).trans (be16_value _)
  have htrip : (u.lastTrip.map TripReason.code).getD 0 < 4 := by
    rcases u.lastTrip with _ | _ | _ | _ <;> decide
  refine ⟨?_, fun hlocked hcount => ?_, fun n hn => ?_⟩
  · rw [hbyte]
    split
    · rw [bit_eq]
      omega
    · omega
  · rw [hbyte, if_pos hlocked]
    have hsum : u.retryCount + (u.lastTrip.map TripReason.code).getD 0 * 32
        + bit (decide (u.lockReason = some .senseShort)) 128 =
        u.retryCount + (u.lastTrip.map TripReason.code).getD 0 * 32
        + 2 ^ 7 * (weigh [decide (u.lockReason = some .senseShort)] + 2 ^ 1 * 0) := by
      simp only [bit_eq, weigh]
      ring
    exact byte_packed_flag (k := 0) hsum (by omega) rfl (w := 1) rfl (by decide)
  · rw [hdraw, show u.retryDraw = some n from hn, Option.getD_some]

theorem State.portBytes_link :
    byteAt (s.portBytes p) 37 % 4 = (s.linkState (.port p)).code ∧
    (byteAt (s.portBytes p) 37).testBit 2 = (s.links.get (.port p)).receivedHold ∧
    (byteAt (s.portBytes p) 37).testBit 3 = (s.grantSlots.get p).isSome ∧
    (byteAt (s.portBytes p) 37).testBit 4 = (s.links.get (.port p)).markSlot.isSome ∧
    (byteAt (s.portBytes p) 37).testBit 5 = (s.links.get (.port p)).flowSlot.isSome ∧
    (byteAt (s.portBytes p) 37).testBit 6 = (s.links.get (.port p)).tx.isSome ∧
    (byteAt (s.portBytes p) 37).testBit 7 = (s.phases.get (.port p)).released ∧
    byteAt (s.portBytes p) 38 =
      ((s.queues.get (.port p)).urgent.length * 16 + (s.queues.get (.port p)).bulk.length) % 256 ∧
    (s.Bounded → byteAt (s.portBytes p) 39 / 16 = (s.phases.get (.port p)).markCount ∧
      byteAt (s.portBytes p) 39 % 8 = (s.queues.get (.port p)).timed.length) ∧
    wordAt (s.portBytes p) 40 = (s.phases.get (.port p)).active % 65536 := by
  obtain ⟨-, -, -, -, hpart⟩ := s.portBytes_parts p
  set l := s.links.get (.port p)
  set x := s.phases.get (.port p)
  let flags : List Bool := [l.receivedHold, (s.grantSlots.get p).isSome, l.markSlot.isSome, l.flowSlot.isSome,
    l.tx.isSome, x.released]
  have hbyte : byteAt (s.portBytes p) 37 = (l.state.code + bit l.receivedHold 4 + bit (s.grantSlots.get p).isSome 8
      + bit l.markSlot.isSome 16 + bit l.flowSlot.isSome 32 + bit l.tx.isSome 64 + bit x.released 128) % 256 :=
    (hpart.byteAt (i := 0) (by decide)).trans (byte_toNat _)
  have hsum : l.state.code + bit l.receivedHold 4 + bit (s.grantSlots.get p).isSome 8
      + bit l.markSlot.isSome 16 + bit l.flowSlot.isSome 32 + bit l.tx.isSome 64 + bit x.released 128 =
      l.state.code + 2 ^ 2 * (weigh flags + 2 ^ flags.length * 0) := by
    simp only [bit_eq, weigh, flags, List.length_cons, List.length_nil]
    ring
  have hlow : l.state.code < 2 ^ 2 := LinkState.code_lt _
  have htimed : byteAt (s.portBytes p) 39 = (x.markCount * 16 + (s.queues.get (.port p)).timed.length
      + s.absent .portTimedBit % 2 * 8) % 256 := (hpart.byteAt (i := 2) (by decide)).trans (byte_toNat _)
  have hflag : ∀ {k b}, flags[k]? = some b → (byteAt (s.portBytes p) 37).testBit (2 + k) = b := fun {k b} hk => by
    rw [hbyte]
    exact byte_packed_flag hsum hlow hk (w := 6) rfl (by decide)
  refine ⟨?_, hflag (k := 0) rfl, hflag (k := 1) rfl, hflag (k := 2) rfl, hflag (k := 3) rfl, hflag (k := 4) rfl,
    hflag (k := 5) rfl, (hpart.byteAt (i := 1) (by decide)).trans (byte_toNat _), fun hbounded => ?_,
    (hpart.wordAt (i := 3) (by decide)).trans (be16_value _)⟩
  · rw [hbyte]
    exact byte_packed_low hsum hlow (by decide)
  · obtain ⟨-, -, -, hqueues, hcounts, -⟩ := hbounded
    obtain ⟨-, -, htimedle⟩ := hqueues (.port p)
    have hcount : x.markCount ≤ 15 := hcounts (.port p)
    omega

end ReadPort
end Sys2Proof.Machine

namespace Sys2Proof.Machine

open Sys2Proof

section

variable (s : State)

/-- Log 17: a set flag is read as a number from 1 to 255. -/
theorem State.setFlag_mem (k : Nat) : 1 ≤ s.setFlag k ∧ s.setFlag k ≤ 255 := by
  rw [State.setFlag]
  omega

/-- R148: an entry of the route table in its load layout. -/
theorem State.tableBytes_route {i : Nat} {e : RouteEntry} (h : s.tables.route[i]? = some e) :
    ∃ valid align, 1 ≤ valid ∧ valid ≤ 255 ∧ 1 ≤ align ∧ align ≤ 255 ∧
      s.tableBytes (.route i) = e.bytes i valid align := by
  obtain ⟨hlow, hhigh⟩ := s.setFlag_mem 0
  obtain ⟨hlow', hhigh'⟩ := s.setFlag_mem 1
  refine ⟨s.setFlag 0, s.setFlag 1, hlow, hhigh, hlow', hhigh', ?_⟩
  rw [State.tableBytes, List.getD_eq_getElem?_getD, h, Option.getD_some]

end

/-- R154: the target field of the selector byte. -/
theorem sourceCode_target (x : SelState) :
    sourceCode x.target = match x with | .changeover .line => 1 | .changeover .batt => 2 | _ => 0 := by
  rcases x with _ | (_ | _) | (_ | _) | _ | _ <;> rfl

/-- R154: the field of the last trip. -/
theorem tripCode_eq (x : Option TripReason) :
    (x.map TripReason.code).getD 0 = match x with
      | none => 0 | some .short => 1 | some .overdraw => 2 | some .rampStall => 3 := by
  rcases x with _ | _ | _ | _ <;> rfl

/-- Settles O50: the reads by their rows, the layouts part by part. -/
theorem readRequests : Obligations.ReadRequests := by
  refine ⟨?reads, ?status, ?port, by decide, fun _ _ _ => tableRef_iff,
    fun s => ⟨fun _ => rfl, rfl, rfl, fun _ => rfl, fun _ => rfl, fun _ _ h => s.tableBytes_route h, rfl, rfl, rfl⟩⟩
  case reads =>
    rintro s u ⟨code, payload⟩ rest he hu
    subst hu
    refine ⟨fun hcode hlength => ?_, fun hcode hlength => ?_, fun hcode hlength => ?_⟩
    · obtain rfl : code = 1 := hcode
      exact ⟨exec_readStatus he hlength, s.popped_statusBytes rest⟩
    · obtain rfl : code = 2 := hcode
      obtain ⟨hnone, hport⟩ := exec_readPort he hlength
      exact ⟨hnone, fun p hp => ⟨hport p hp, s.popped_portBytes rest p⟩⟩
    · obtain rfl : code = 3 := hcode
      obtain ⟨hbad, hok⟩ := exec_readTable he hlength
      refine ⟨fun hlarge => hbad .badValue (parseTable_of_large hlarge), fun hlow hhigh hnone => hbad .badIndex ?_,
        fun x hx => ⟨hok x ?_, s.popped_tableBytes rest x⟩⟩
      · rw [parseTable_of_table (not_or.2 ⟨Nat.ne_of_gt hlow, Nat.not_lt.2 hhigh⟩), hnone]
      · obtain ⟨hlow, hhigh⟩ := tableRef_table hx
        rw [parseTable_of_table (not_or.2 ⟨Nat.ne_of_gt hlow, Nat.not_lt.2 hhigh⟩), hx]
  case status =>
    intro s b hb
    subst hb
    obtain ⟨hstatus, hoperational, hline, hbatt, hbudget, hforce, hshadow, hreleased⟩ := s.statusBytes_gate
    obtain ⟨hstate, htarget, hpending, hchange⟩ := s.statusBytes_selector
    obtain ⟨hlineQual, hbattQual, hovercommit, hheld, hreceived⟩ := s.statusBytes_supply
    obtain ⟨hd10, hcr, hci, hc, hb, hgranted, hfree, hlists⟩ := s.statusBytes_power
    obtain ⟨hcells, hrecords, hlevel, hqueues⟩ := s.statusBytes_pool
    obtain ⟨hsync, hcounter, hperiod, hactive, htimed, hword, hhub, hmarks⟩ := s.statusBytes_frame
    rw [sourceCode_target] at htarget
    exact ⟨s.statusBytes_length, hstatus, hoperational, hline, hbatt, hbudget, hforce, hshadow, hreleased, hstate, htarget,
      hpending, hchange, hlineQual, hbattQual, hovercommit, hheld, hreceived, hd10, hcr, hci, hc, hb, hgranted, hfree, hlists,
      s.statusBytes_port, hcells, hrecords, hlevel, hqueues, hsync, hcounter, hperiod, hactive, htimed, hword, hhub, hmarks⟩
  case port =>
    intro s p x b hx hb
    subst hx hb
    obtain ⟨hstatus, hnumber, hstate, hclosed, hstable, hpresent, hdebounce, hsense⟩ := s.portBytes_head p
    obtain ⟨hclass, hclassNumber, hnoPriority, hpriority⟩ := s.portBytes_class p
    obtain ⟨hgrant, hnotGranted, hplace⟩ := s.portBytes_granted p
    obtain ⟨hnoEntry, hentry⟩ := s.portBytes_entry p
    obtain ⟨hcurrent, hnoFigures, hfigures, hramp⟩ := s.portBytes_power p
    obtain ⟨hretry, hlocked, hdraw⟩ := s.portBytes_retry p
    obtain ⟨hlink, hreceived, hgrantSlot, hmark, hflow, htx, hreleased, hqueues, htimed, hactive⟩ := s.portBytes_link p
    rw [tripCode_eq] at hretry
    exact ⟨s.portBytes_length p, hstatus, hnumber, hstate, hclosed, hstable, hpresent, hdebounce, hsense, hclass,
      hclassNumber, hnoPriority, hpriority, hgrant, hnotGranted, hplace, hnoEntry, hentry,
      fun _ _ _ h => s.portBytes_timers p h, s.portBytes_counters p, hcurrent, hnoFigures, hfigures, hramp, hretry,
      hlocked, hdraw, hlink, hreceived, hgrantSlot, hmark, hflow, htx, hreleased, hqueues, htimed, hactive⟩

end Sys2Proof.Machine
